-- ==== Sys2Proof/Word.lean ====
section
/-! DEFINITION. The word types the manual treats as bits. -/

namespace Sys2Proof

/-- One byte of a frame (10.1). -/
abbrev Byte := BitVec 8

/-- A lane set as the 16-bit mask it travels as, lane `n` in bit `n` (00, 4.3). -/
abbrev LaneSet := BitVec 16

/-- The 32 segment levels of a display pattern, segment `n` in bit `n` (R144). -/
abbrev Segments := BitVec 32

/-- A value of the 32-bit deck clock, which wraps (R182). -/
abbrev DeckTime := BitVec 32

end Sys2Proof
end

