-- ==== Sys2Proof/Config.lean ====
section
/-! DEFINITION. What an implementation fixes and the spec does not, and the part's fixed constants. -/

namespace Sys2Proof.Config

/-- The part code IDENTIFY carries (R182). -/
def partCode : Nat := 0xDC40

/-- A free value: the part revision IDENTIFY carries is "a number from 1" in one byte (R182, 12.6),
and the spec gives no more. This is that number less 1 (log entry 17). -/
opaque partRevisionLessOne : Fin 255

/-- The refresh window of JOGGING and MANUAL, in ms (R36, R39). -/
def refreshWindow : Nat := 500

/-- The deadline of a pending request, in ms (R70). -/
def stationDeadline : Nat := 30000

/-- The switch-conflict time, in ms (R98). -/
def conflictTime : Nat := 1000

/-- The CHIME time, in ms (R135). -/
def chimeTime : Nat := 2000

/-- Reports a link's queue holds (R170). -/
def queueLimit : Nat := 32

/-- External calls the table holds (R124). -/
def externalLimit : Nat := 8

/-- Items the removed-call list holds (R129). -/
def removedLimit : Nat := 8

/-- Entries one ALARM LIST reply holds (R155). -/
def alarmListLimit : Nat := 16

/-- The top of a 32-bit saturating counter (R181) and of the sequence counter (R125). -/
def counterTop : Nat := 4294967295

/-- Ticks of one valve frame (R57). -/
def frameTicks : Nat := 4096

/-- Payload bytes of a frame at most (12). -/
def maxPayload : Nat := 248

/-- Bytes of object data SETTINGS WRITE and SETTINGS READ carry (12.6). -/
def objectBytes : Nat := 127

end Sys2Proof.Config
end

