-- ==== Sys2Proof/Syntax.lean ====
section
/-! DEFINITION. The commands of the DK40: one constructor of `Instr` for each row of the table of
operations and events, and the plain data the commands carry (names, codes, settings). -/

namespace Sys2Proof

/-! ## Names -/

/-- The two serial links (10). -/
inductive Link | bridge | localLink
  deriving DecidableEq, Repr

/-- One item for each link. -/
structure Pair (α : Type) where
  bridge : α
  localLink : α
  deriving DecidableEq, Repr

/-- Direction of an axis; also the side of a limit switch (LIM_HI is the raise side). -/
inductive Direction | raise | lower
  deriving DecidableEq, Repr

/-- Axis states (02, 2.3). -/
inductive AxisState | idle | warning | moving | settling | stopping | tripped | jogging | manual
  deriving DecidableEq, Repr

/-- Outcomes of a motion, also causes of AXIS STATE reports (02, 2.3). -/
inductive MotionOutcome
  | reached | stopped | held | linkLost | stationTaken | tripped | timeout | notPermitted
  | permissiveLost | pumpStop | limit | sensorLost | jogReleased | reset
  deriving DecidableEq, Repr

/-- Kind of a pressure trip or of a counted excursion (R66). -/
inductive TripKind | high | low
  deriving DecidableEq, Repr

inductive MotionKind | move | jog
  deriving DecidableEq, Repr

inductive TableMode | single | split
  deriving DecidableEq, Repr

inductive LoopMode | normal | forceOpen
  deriving DecidableEq, Repr

inductive Level | operate | service
  deriving DecidableEq, Repr

inductive HoldStatus | none | pending | established
  deriving DecidableEq, Repr

/-- Door kinds; `absent` is the manual's NONE (05, 5.1). -/
inductive DoorKind | absent | swing | sliding
  deriving DecidableEq, Repr

/-- Door states (05, 5.2). -/
inductive DoorState | closed | armed | opening | openHeld | closing | obstructed | fault | isolated
  deriving DecidableEq, Repr

inductive FaultCause | closeTime | openTime | switches | retries
  deriving DecidableEq, Repr

/-- Causes of DOOR STATE reports (R101). -/
inductive DoorCause
  | hold | release | zoneAlarm | passage | lostHold | restore | openSwitch | closedSwitch | edge
  | retry | closeTime | openTime | switches | retries | isolate | settings
  deriving DecidableEq, Repr

/-- Causes of ZONE STATE reports (R105, R106). -/
inductive ZoneCause | fireInput | manual
  deriving DecidableEq, Repr

inductive CallKind | evacuate | standClear | recall | disembark | notice
  deriving DecidableEq, Repr

/-- Who posted a call (07, 7.1.1). -/
inductive Origin
  | link (l : Link)
  | zone (z : Fin 8)
  | axis (a : Fin 4)
  deriving DecidableEq, Repr

/-- Why a call left the table (R129). -/
inductive RemovalReason | cancelled | expired | answered | axisIdle | zoneAlarm | reset
  deriving DecidableEq, Repr

inductive Comparison | eq | ne | lt | ge | bitSet | bitClr
  deriving DecidableEq, Repr

/-- Sources of interlock terms, but for the kind NONE (06, 6.1.1). -/
inductive Source
  | channel (k : Fin 12)
  | axisState (a : Fin 4)
  | doorState (d : Fin 32)
  | zoneAlarm (z : Fin 8)
  | zoneOpenCount (z : Fin 8)
  | seaOpenCount
  | input (n : Fin 16)
  | laneButton (n : Fin 16)
  | outputLine (k : Fin 8)
  | deckHold
  deriving DecidableEq, Repr

/-- Sources of a general output line (09, 9.4.1). -/
inductive OutSource
  | fixed
  | input (n : Fin 16)
  | permissive (p : Fin 16)
  | axisActive (a : Fin 4)
  | zoneAlarm (z : Fin 8)
  | alarmLine
  deriving DecidableEq, Repr

/-- Condition sources of alarms (09, 9.1). -/
inductive CondSource
  | axisTripHigh (a : Fin 4)
  | axisTripLow (a : Fin 4)
  | axisSensor (a : Fin 4)
  | fire (z : Fin 8)
  | doorFault (d : Fin 32)
  | linkLost (l : Link)
  | estop
  deriving DecidableEq, Repr

/-- Momentary sources of alarms (09, 9.1). -/
inductive MomentarySource
  | axisTimeout (a : Fin 4)
  | settingsDefaulted
  deriving DecidableEq, Repr

/-- The thirty-five discrete inputs (01, 1.2). -/
inductive Input
  | estop | serviceKey | localPriority
  | fire (z : Fin 8)
  | limLo (a : Fin 4)
  | limHi (a : Fin 4)
  | gi (n : Fin 16)
  deriving DecidableEq, Repr

/-- Why a holder changed, as the axis is told it (R41). -/
inductive HolderReason | linkLost | passed
  deriving DecidableEq, Repr

/-- What made the receiver discard (R165): a LENGTH byte out of range, or a missing stop bit. -/
inductive DiscardCause | badLength | missingStop
  deriving DecidableEq, Repr

/-! ## Levels and readings -/

/-- A level of each discrete input. -/
structure InputLevels where
  estop : Bool
  serviceKey : Bool
  localPriority : Bool
  fire : Vector Bool 8
  limLo : Vector Bool 4
  limHi : Vector Bool 4
  gi : Vector Bool 16
  deriving DecidableEq, Repr

/-- The three input levels of one door position (01, 1.3). -/
structure DoorInputs where
  openSwitch : Bool
  closedSwitch : Bool
  edge : Bool
  deriving DecidableEq, Repr

/-- A channel's scaled value and validity as a notice carries them (R9), or a source value with
`valid` true (R114). -/
structure Reading where
  value : Int
  valid : Bool
  deriving DecidableEq, Repr

/-! ## Settings -/

/-- Axis settings (02, 2.1). Times in seconds as the table gives them. -/
structure AxisSettings where
  fitted : Bool
  angleCh : Fin 12
  pressCh : Fin 12
  lLo : Int
  lHi : Int
  inBand : Nat
  settleCount : Nat
  kp : Nat
  ff : Vector Nat 32
  tableMode : TableMode
  loopMode : LoopMode
  dMin : Nat
  dMax : Nat
  slew : Nat
  stopSlew : Nat
  motionLimit : Nat
  warningTime : Nat
  warningLanes : LaneSet
  warningPattern : Fin 64
  prt : Vector Nat 16
  marginHi : Nat
  marginLo : Nat
  deriving DecidableEq, Repr

/-- Channel settings (01, 1.1.1). -/
structure ChannelSettings where
  enabled : Bool
  rawMin : Nat
  rawMax : Nat
  depth : Nat
  zero : Nat
  gain : Int
  offset : Int
  deriving DecidableEq, Repr

/-- Door settings (05, 5.1). -/
structure DoorSettings where
  kind : DoorKind
  zone : Fin 8
  seaClosed : Bool
  closeLimit : Nat
  pause : Nat
  maxRetries : Nat
  deriving DecidableEq, Repr

/-- Zone settings (05, 5.7.1). -/
structure ZoneSettings where
  lanes : LaneSet
  fireEnabled : Bool
  evacPattern : Fin 64
  deriving DecidableEq, Repr

/-- The four settings of a term (06, 6.1.1); kind NONE is `source = none` with EQ and 0 (R117). -/
structure TermSettings where
  source : Option Source
  cmp : Comparison
  const : Int
  deriving DecidableEq, Repr

/-- One entry of a permissive list (06, 6.2.1). -/
structure PermEntry where
  term : Fin 64
  invert : Bool
  deriving DecidableEq, Repr

/-- Routing settings by alarm class code (R156). -/
structure Routing where
  alarmEnable : Vector Bool 9
  stopEnable : Vector Bool 9
  stopFollowsAlarm : Bool
  deriving DecidableEq, Repr

/-- Output settings (09, 9.4.1). -/
structure OutputSettings where
  source : OutSource
  invert : Bool
  powerOn : Bool
  deriving DecidableEq, Repr

/-- The working settings (11). -/
structure Settings where
  axes : Vector AxisSettings 4
  oil : Fin 12
  channels : Vector ChannelSettings 12
  doors : Vector DoorSettings 32
  zones : Vector ZoneSettings 8
  boards : Nat
  blanking : Nat
  patterns : Vector Segments 64
  terms : Vector TermSettings 64
  permissives : Vector (List PermEntry) 16
  routing : Routing
  outputs : Vector OutputSettings 8
  supervision : Pair Nat
  deriving DecidableEq, Repr

/-- An image in non-volatile storage: its contents, its revision, and whether the CRC-32 it carries
matches them (11). The spec gives neither the layout nor the polynomial (log entry 8). -/
structure Image where
  settings : Settings
  revision : Nat
  crcGood : Bool
  deriving DecidableEq, Repr

/-! ## Object data as SETTINGS WRITE carries them (12.8), before any check or clamp -/

structure AxisData where
  fitted : Nat
  angleCh : Nat
  pressCh : Nat
  lLo : Int
  lHi : Int
  inBand : Nat
  settleCount : Nat
  kp : Nat
  tableMode : Nat
  loopMode : Nat
  dMin : Nat
  dMax : Nat
  slew : Nat
  stopSlew : Nat
  motionLimit : Nat
  warningTime : Nat
  warningLanes : LaneSet
  warningPattern : Nat
  marginHi : Nat
  marginLo : Nat
  ff : Vector Nat 32
  prt : Vector Nat 16
  deriving DecidableEq, Repr

structure ChannelData where
  enabled : Nat
  rawMin : Nat
  rawMax : Nat
  depth : Nat
  zero : Nat
  gain : Int
  offset : Int
  deriving DecidableEq, Repr

structure DoorData where
  kind : Nat
  zone : Nat
  seaClosed : Nat
  closeLimit : Nat
  pause : Nat
  maxRetries : Nat
  deriving DecidableEq, Repr

structure ZoneData where
  lanes : LaneSet
  fireEnabled : Nat
  evacPattern : Nat
  deriving DecidableEq, Repr

structure RoutingData where
  alarmEnable : Vector Nat 9
  stopEnable : Vector Nat 9
  stopFollowsAlarm : Nat
  deriving DecidableEq, Repr

structure OutputData where
  kind : Nat
  index : Nat
  invert : Nat
  powerOn : Nat
  deriving DecidableEq, Repr

/-- The fields of TERM WRITE after the term number (12.4). -/
structure TermData where
  kind : Nat
  index : Nat
  cmp : Nat
  const : Int
  deriving DecidableEq, Repr

/-- The fields of CALL POST (12.6). -/
structure CallData where
  kind : Nat
  priority : Nat
  lanes : LaneSet
  pattern : Nat
  chime : Nat
  ackMode : Nat
  duration : Nat
  deriving DecidableEq, Repr

/-! ## The commands -/

/-- One constructor for each row of the table. Events carry what the rule says the event carries;
a request carries its link, its TAG and its fields (12.6), numbers and codes unchecked. -/
inductive Instr
  -- power and start-up
  | powerOn
  | settingsLoadEnd (inputs : InputLevels) (doors : Vector DoorInputs 32)
  | powerLoss
  -- measurement unit and door scan chain
  | channelCompletion (k : Fin 12) (raw : Fin 4096)
  | discreteInputChange (i : Input) (samples : List Bool)
  | doorScan (levels : Vector DoorInputs 32)
  -- door controller
  | doorInputChange (d : Fin 32) (inputs : DoorInputs)
  | travelTimerExpiry (d : Fin 32)
  | pauseTimerExpiry (d : Fin 32)
  | conflictTimerExpiry (d : Fin 32)
  | fireInputChange (z : Fin 8) (asserted : Bool)
  -- axis controllers and valve drive generators
  | axisUpdate (a : Fin 4) (angle : Reading)
  | pressureCheck (a : Fin 4) (pressure : Reading)
  | angleValidityChange (a : Fin 4) (valid : Bool)
  | pressureValidityChange (a : Fin 4) (valid : Bool)
  | disablingNotice (a : Fin 4)
  | limitSwitchChange (a : Fin 4) (side : Direction) (asserted : Bool)
  | permissiveSlotChange (a : Fin 4) (dir : Direction) (result : Bool)
  | holderChange (a : Fin 4) (reason : HolderReason)
  | deckHoldNotice (a : Fin 4)
  | lossOfServiceLevel (a : Fin 4) (l : Link)
  | stopLineChange (a : Fin 4) (asserted : Bool)
  | warningTimerExpiry (a : Fin 4)
  | motionTimerExpiry (a : Fin 4)
  | jogRefreshExpiry (a : Fin 4)
  | manualRefreshExpiry (a : Fin 4)
  | valveFrameStart (a : Fin 4)
  -- station controller
  | axisStateChangeSeen (a : Fin 4) (new : AxisState)
  | deadlineExpiry (a : Fin 4)
  | stationLinkLoss (l : Link)
  | serviceKeyRelease
  -- permissive evaluator
  | sourceChange (src : Source) (v : Reading)
  -- alarm unit
  | alarmSourceChange (src : CondSource) (active : Bool)
  | momentaryRaise (src : MomentarySource)
  | outputLineSourceChange (src : OutSource) (value : Bool)
  -- call controller
  | standClearPost (a : Fin 4)
  | evacuatePost (z : Fin 8)
  | standClearRemoval (a : Fin 4)
  | recallTrim (z : Fin 8)
  | laneAcknowledgement (n : Fin 16)
  | durationTimerExpiry (number : Nat)
  | chimeTimerExpiry
  -- board scanner
  | boardFrameStart
  | laneButtonChange (n : Fin 16) (pressed : Bool)
  | buttonSample (levels : Vector Bool 16)
  | lastScanFrameEnd
  -- link controllers
  | byteReceived (l : Link) (b : Byte)
  | frameComplete (l : Link) (kind tag : Byte) (payload : List Byte) (crc : BitVec 16)
  | frameDiscard (l : Link) (cause : DiscardCause)
  | gapAbort (l : Link)
  | receiveBreak (l : Link)
  | linkLost (l : Link)
  | transmitEnd (l : Link)
  | unknownRequest (l : Link) (tag kind : Byte)
  -- settings store
  | storeCompletion (readBack : Option Image)
  -- requests: measurement
  | channelStatus (l : Link) (tag : Byte) (channel start : Nat)
  | inputStatus (l : Link) (tag : Byte)
  -- requests: axes
  | axisMove (l : Link) (tag : Byte) (axis : Nat) (target : Int)
  | axisStop (l : Link) (tag : Byte) (axis : Nat)
  | axisJog (l : Link) (tag : Byte) (axis direction : Nat)
  | tripReset (l : Link) (tag : Byte) (axis : Nat)
  | manualEnter (l : Link) (tag : Byte) (axis : Nat)
  | manualSet (l : Link) (tag : Byte) (axis : Nat) (value : Int)
  | manualApply (l : Link) (tag : Byte) (axis : Nat)
  | manualLeave (l : Link) (tag : Byte) (axis : Nat)
  | axisStatus (l : Link) (tag : Byte) (axis start : Nat)
  | driveStatus (l : Link) (tag : Byte) (axis : Nat)
  -- requests: stations
  | takeStation (l : Link) (tag : Byte) (axis : Nat)
  | yieldStation (l : Link) (tag : Byte) (axis : Nat)
  | refuseStation (l : Link) (tag : Byte) (axis : Nat)
  | deckHold (l : Link) (tag : Byte)
  | deckResume (l : Link) (tag : Byte) (both : Nat)
  | serviceEnter (l : Link) (tag : Byte)
  | serviceLeave (l : Link) (tag : Byte)
  | stationStatus (l : Link) (tag : Byte)
  -- requests: doors and zones
  | doorHold (l : Link) (tag : Byte) (door : Nat)
  | doorHoldZone (l : Link) (tag : Byte) (zone : Nat)
  | doorRelease (l : Link) (tag : Byte) (door : Nat)
  | doorReleaseZone (l : Link) (tag : Byte) (zone : Nat)
  | doorIsolate (l : Link) (tag : Byte) (door : Nat)
  | doorRestore (l : Link) (tag : Byte) (door : Nat)
  | zoneAlarm (l : Link) (tag : Byte) (zone action : Nat)
  | doorStatus (l : Link) (tag : Byte) (door start : Nat)
  | zoneStatus (l : Link) (tag : Byte) (zone start : Nat)
  -- requests: permissives
  | termWrite (l : Link) (tag : Byte) (term : Nat) (data : TermData)
  | permissiveWrite (l : Link) (tag : Byte) (slot : Nat) (entries : List (Nat × Nat))
  | termStatus (l : Link) (tag : Byte) (term start : Nat)
  | permissiveStatus (l : Link) (tag : Byte) (slot start : Nat)
  -- requests: calls and boards
  | callPost (l : Link) (tag : Byte) (data : CallData)
  | callCancel (l : Link) (tag : Byte) (number : Nat)
  | callStatus (l : Link) (tag : Byte) (number start : Nat)
  | patternWrite (l : Link) (tag : Byte) (pattern : Nat) (segments : Segments)
  | boardStatus (l : Link) (tag : Byte) (board start : Nat)
  -- requests: alarms and outputs
  | alarmAck (l : Link) (tag : Byte) (source : Nat)
  | alarmList (l : Link) (tag : Byte) (start : Nat)
  | outputSet (l : Link) (tag : Byte) (line value : Nat)
  | outputStatus (l : Link) (tag : Byte)
  -- requests: links
  | reportSelect (l : Link) (tag : Byte) (flags : Vector Nat 7)
  | linkRestart (l : Link) (tag : Byte)
  | linkStatus (l : Link) (tag : Byte)
  -- requests: settings, counters, clock
  | settingsWriteAxis (l : Link) (tag : Byte) (index : Nat) (data : AxisData)
  | settingsWriteDrive (l : Link) (tag : Byte) (index oil : Nat)
  | settingsWriteChannel (l : Link) (tag : Byte) (index : Nat) (data : ChannelData)
  | settingsWriteDoor (l : Link) (tag : Byte) (index : Nat) (data : DoorData)
  | settingsWriteZone (l : Link) (tag : Byte) (index : Nat) (data : ZoneData)
  | settingsWriteScanner (l : Link) (tag : Byte) (index boards blanking : Nat)
  | settingsWriteRouting (l : Link) (tag : Byte) (index : Nat) (data : RoutingData)
  | settingsWriteOutput (l : Link) (tag : Byte) (index : Nat) (data : OutputData)
  | settingsWriteLink (l : Link) (tag : Byte) (index time : Nat)
  | settingsRead (l : Link) (tag : Byte) (object index : Nat)
  | storeSettings (l : Link) (tag : Byte)
  | controllerReset (l : Link) (tag : Byte)
  | readCounters (l : Link) (tag : Byte) (group clear : Nat)
  | setClock (l : Link) (tag : Byte) (value : DeckTime)
  | identify (l : Link) (tag : Byte)
  deriving DecidableEq, Repr

/-- A good frame as the receiver hands it on (10.1): LENGTH is the payload's length plus 2. -/
structure Frame where
  kind : Byte
  tag : Byte
  payload : List Byte
  deriving DecidableEq, Repr

/-- The refusal codes (R168). -/
inductive RefusalCode
  | unknownRequest | badLength | badField | level | noAuthority | busy | state | held
  | pumpStopped | tripped | sensor | notPermitted | tableFull | zoneInAlarm | notFound
  deriving DecidableEq, Repr

/-- What the link controller makes of a frame it takes (R167): a request for its owner, a refusal of
its own, or a SETTINGS WRITE whose object code is undefined, which R176 answers after the level. -/
inductive Taken
  | request (i : Instr)
  | refuse (c : RefusalCode)
  | undefinedObject
  deriving DecidableEq, Repr

end Sys2Proof
end

