-- ==== Sys2Proof/Machine/Bytes.lean ====
section
/-! DEFINITION. Byte order of frames and records (12: most significant byte first), and the CRC-16
of the frame (10.1). -/

namespace Sys2Proof.Machine

/-- A quantity in one byte. -/
def byte (n : Nat) : Byte := BitVec.ofNat 8 n

/-- A flag in one byte. -/
def boolByte (b : Bool) : Byte := if b then 1 else 0

/-- An unsigned quantity in two bytes. -/
def be16 (n : Nat) : List Byte := [byte (n / 256), byte n]

/-- A signed quantity in two bytes, two's complement (12). -/
def beInt16 (i : Int) : List Byte := be16 (BitVec.ofInt 16 i).toNat

/-- An unsigned quantity in four bytes. -/
def be32 (n : Nat) : List Byte :=
  [byte (n / 16777216), byte (n / 65536), byte (n / 256), byte n]

/-- A signed quantity in four bytes. -/
def beInt32 (i : Int) : List Byte := be32 (BitVec.ofInt 32 i).toNat

/-- A remaining time; 0xFFFFFFFF stands for a stopped timer (12.4). -/
def beTimer (t : Option Nat) : List Byte := be32 (t.getD 0xFFFFFFFF)

/-- A deck time; an absent one is sent as 0 (R183). -/
def beTime (t : Option DeckTime) : List Byte := be32 (t.getD 0).toNat

/-- Flags packed into one byte, the first in bit 0. -/
def bitsByte (bs : List Bool) : Byte :=
  byte (bs.foldr (fun b n => 2 * n + b.toNat) 0)

/-- Flags packed into two bytes, the first in bit 0 of the low byte. -/
def bits16 (bs : List Bool) : List Byte :=
  be16 (bs.foldr (fun b n => 2 * n + b.toNat) 0)

/-- Object data padded with zero bytes to the 127 carried (12.8). -/
def padObject (data : List Byte) : List Byte :=
  data ++ List.replicate (Config.objectBytes - data.length) 0

/-- One step of the CRC over one bit, most significant first, polynomial 0x1021 (10.1). -/
def crcBit (crc : BitVec 16) : BitVec 16 :=
  if crc.msb then (crc <<< 1) ^^^ 0x1021 else crc <<< 1

/-- One byte taken into the CRC. -/
def crcByte (crc : BitVec 16) (b : Byte) : BitVec 16 :=
  Nat.repeat crcBit 8 (crc ^^^ (b.setWidth 16 <<< 8))

/-- The CRC-16 of a list of bytes, initial value 0xFFFF, no final inversion (10.1). -/
def crc16 (bs : List Byte) : BitVec 16 := bs.foldl crcByte 0xFFFF

/-! ### Reading the fields of a payload -/

/-- Byte `i` of a payload as a number. -/
def fieldByte (p : List Byte) (i : Nat) : Nat := (p.getD i 0).toNat

/-- Two bytes from `i`, unsigned. -/
def fieldWord (p : List Byte) (i : Nat) : Nat := fieldByte p i * 256 + fieldByte p (i + 1)

/-- Two bytes from `i`, two's complement (R183). -/
def fieldInt (p : List Byte) (i : Nat) : Int := (BitVec.ofNat 16 (fieldWord p i)).toInt

/-- Four bytes from `i`, unsigned. -/
def fieldLong (p : List Byte) (i : Nat) : Nat := fieldWord p i * 65536 + fieldWord p (i + 2)

/-- Two bytes from `i` as a lane set. -/
def fieldLanes (p : List Byte) (i : Nat) : LaneSet := BitVec.ofNat 16 (fieldWord p i)

end Sys2Proof.Machine
end

