-- ==== Sys2Proof/Machine/Codes.lean ====
section
/-! DEFINITION. The codes of 12.2 and 12.3: names to codes and codes to names. -/

namespace Sys2Proof

def Link.other : Link → Link
  | .bridge => .localLink
  | .localLink => .bridge

/-- Holder or link codes: 1 BRIDGE, 2 LOCAL. -/
def Link.code : Link → Nat
  | .bridge => 1
  | .localLink => 2

/-- 0 NONE, 1 BRIDGE, 2 LOCAL. -/
def Link.codeOpt (l : Option Link) : Nat := l.elim 0 Link.code

def Link.ofCode : Nat → Option Link
  | 1 => some .bridge
  | 2 => some .localLink
  | _ => none

def Pair.get {α : Type} (p : Pair α) : Link → α
  | .bridge => p.bridge
  | .localLink => p.localLink

def Pair.set {α : Type} (p : Pair α) (l : Link) (x : α) : Pair α where
  bridge := if l = .bridge then x else p.bridge
  localLink := if l = .localLink then x else p.localLink

def Direction.code : Direction → Nat
  | .raise => 1
  | .lower => 2

def Direction.ofCode : Nat → Option Direction
  | 1 => some .raise
  | 2 => some .lower
  | _ => none

def AxisState.code : AxisState → Nat
  | .idle => 0
  | .warning => 1
  | .moving => 2
  | .settling => 3
  | .stopping => 4
  | .tripped => 5
  | .jogging => 6
  | .manual => 7

def MotionOutcome.code : MotionOutcome → Nat
  | .reached => 1
  | .stopped => 2
  | .held => 3
  | .linkLost => 4
  | .stationTaken => 5
  | .tripped => 6
  | .timeout => 7
  | .notPermitted => 8
  | .permissiveLost => 9
  | .pumpStop => 10
  | .limit => 11
  | .sensorLost => 12
  | .jogReleased => 13
  | .reset => 14

def TripKind.code : TripKind → Nat
  | .high => 1
  | .low => 2

def MotionKind.code : MotionKind → Nat
  | .move => 0
  | .jog => 1

def TableMode.code : TableMode → Nat
  | .single => 0
  | .split => 1

def TableMode.ofCode : Nat → Option TableMode
  | 0 => some .single
  | 1 => some .split
  | _ => none

def LoopMode.code : LoopMode → Nat
  | .normal => 0
  | .forceOpen => 1

def LoopMode.ofCode : Nat → Option LoopMode
  | 0 => some .normal
  | 1 => some .forceOpen
  | _ => none

def Level.code : Level → Nat
  | .operate => 0
  | .service => 1

def HoldStatus.code : HoldStatus → Nat
  | .none => 0
  | .pending => 1
  | .established => 2

def DoorKind.code : DoorKind → Nat
  | .absent => 0
  | .swing => 1
  | .sliding => 2

def DoorKind.ofCode : Nat → Option DoorKind
  | 0 => some .absent
  | 1 => some .swing
  | 2 => some .sliding
  | _ => none

def DoorState.code : DoorState → Nat
  | .closed => 0
  | .armed => 1
  | .opening => 2
  | .openHeld => 3
  | .closing => 4
  | .obstructed => 5
  | .fault => 6
  | .isolated => 7

def FaultCause.code : FaultCause → Nat
  | .closeTime => 1
  | .openTime => 2
  | .switches => 3
  | .retries => 4

/-- The report cause of a fault (R99: the fault cause is the report's cause). -/
def FaultCause.doorCause : FaultCause → DoorCause
  | .closeTime => .closeTime
  | .openTime => .openTime
  | .switches => .switches
  | .retries => .retries

def DoorCause.code : DoorCause → Nat
  | .hold => 1
  | .release => 2
  | .zoneAlarm => 3
  | .passage => 4
  | .lostHold => 5
  | .restore => 6
  | .openSwitch => 7
  | .closedSwitch => 8
  | .edge => 9
  | .retry => 10
  | .closeTime => 11
  | .openTime => 12
  | .switches => 13
  | .retries => 14
  | .isolate => 15
  | .settings => 16

def ZoneCause.code : ZoneCause → Nat
  | .fireInput => 1
  | .manual => 2

def CallKind.code : CallKind → Nat
  | .evacuate => 0
  | .standClear => 1
  | .recall => 2
  | .disembark => 3
  | .notice => 4

def CallKind.ofCode : Nat → Option CallKind
  | 0 => some .evacuate
  | 1 => some .standClear
  | 2 => some .recall
  | 3 => some .disembark
  | 4 => some .notice
  | _ => none

def Origin.code : Origin → Nat
  | .link l => l.code
  | .zone z => 0x10 + z
  | .axis a => 0x20 + a

/-- Origins BRIDGE and LOCAL are external (07, 7.1.1). -/
def Origin.external : Origin → Bool
  | .link _ => true
  | .zone _ => false
  | .axis _ => false

def RemovalReason.code : RemovalReason → Nat
  | .cancelled => 1
  | .expired => 2
  | .answered => 3
  | .axisIdle => 4
  | .zoneAlarm => 5
  | .reset => 6

def Comparison.code : Comparison → Nat
  | .eq => 0
  | .ne => 1
  | .lt => 2
  | .ge => 3
  | .bitSet => 4
  | .bitClr => 5

def Comparison.ofCode : Nat → Option Comparison
  | 0 => some .eq
  | 1 => some .ne
  | 2 => some .lt
  | 3 => some .ge
  | 4 => some .bitSet
  | 5 => some .bitClr
  | _ => none

/-- Source kind codes; NONE is 0 and has no `Source`. -/
def Source.kindCode : Source → Nat
  | .channel _ => 1
  | .axisState _ => 2
  | .doorState _ => 3
  | .zoneAlarm _ => 4
  | .zoneOpenCount _ => 5
  | .seaOpenCount => 6
  | .input _ => 7
  | .laneButton _ => 8
  | .outputLine _ => 9
  | .deckHold => 10

def Source.index : Source → Nat
  | .channel k => k
  | .axisState a => a
  | .doorState d => d
  | .zoneAlarm z => z
  | .zoneOpenCount z => z
  | .seaOpenCount => 0
  | .input n => n
  | .laneButton n => n
  | .outputLine k => k
  | .deckHold => 0

/-- A number as one below `n`, where it is one. -/
def finOf? (n i : Nat) : Option (Fin n) := if h : i < n then some ⟨i, h⟩ else none

/-- The source a kind code and an index name, kind NONE apart; `none` where the kind is undefined or
the index names nothing that exists by number (R117). -/
def Source.ofCode (kind index : Nat) : Option Source :=
  match kind with
  | 1 => (finOf? 12 index).map .channel
  | 2 => (finOf? 4 index).map .axisState
  | 3 => (finOf? 32 index).map .doorState
  | 4 => (finOf? 8 index).map .zoneAlarm
  | 5 => (finOf? 8 index).map .zoneOpenCount
  | 6 => if index = 0 then some .seaOpenCount else none
  | 7 => (finOf? 16 index).map .input
  | 8 => (finOf? 16 index).map .laneButton
  | 9 => (finOf? 8 index).map .outputLine
  | 10 => if index = 0 then some .deckHold else none
  | _ => none

def OutSource.kindCode : OutSource → Nat
  | .fixed => 0
  | .input _ => 1
  | .permissive _ => 2
  | .axisActive _ => 3
  | .zoneAlarm _ => 4
  | .alarmLine => 5

def OutSource.index : OutSource → Nat
  | .fixed => 0
  | .input n => n
  | .permissive p => p
  | .axisActive a => a
  | .zoneAlarm z => z
  | .alarmLine => 0

/-- The output source a kind code and an index name (R161). -/
def OutSource.ofCode (kind index : Nat) : Option OutSource :=
  match kind with
  | 0 => if index = 0 then some .fixed else none
  | 1 => (finOf? 16 index).map .input
  | 2 => (finOf? 16 index).map .permissive
  | 3 => (finOf? 4 index).map .axisActive
  | 4 => (finOf? 8 index).map .zoneAlarm
  | 5 => if index = 0 then some .alarmLine else none
  | _ => none

/-- Codes of the condition sources (09, 9.1). -/
def CondSource.code : CondSource → Fin 60
  | .axisTripHigh a => ⟨a, by omega⟩
  | .axisTripLow a => ⟨4 + a, by omega⟩
  | .axisSensor a => ⟨8 + a, by omega⟩
  | .fire z => ⟨16 + z, by omega⟩
  | .doorFault d => ⟨24 + d, by omega⟩
  | .linkLost .bridge => 56
  | .linkLost .localLink => 57
  | .estop => 58

/-- Codes of the momentary sources (09, 9.1). -/
def MomentarySource.code : MomentarySource → Fin 60
  | .axisTimeout a => ⟨12 + a, by omega⟩
  | .settingsDefaulted => 59

/-- Whether a source code is a momentary source's (09, 9.1). -/
def momentaryCode (c : Fin 60) : Bool := (12 ≤ c.val && c.val ≤ 15) || c.val == 59

/-- The alarm class of a source code (09, 9.1 and the class codes of 12.3). -/
def classOf (c : Fin 60) : Fin 9 :=
  if c.val ≤ 7 then 0
  else if c.val ≤ 11 then 1
  else if c.val ≤ 15 then 2
  else if c.val ≤ 23 then 3
  else if c.val ≤ 55 then 4
  else if c.val = 56 then 5
  else if c.val = 57 then 6
  else if c.val = 58 then 7
  else 8

/-- A yes/no setting or a 0-or-1 flag; any other value is an undefined code (12.3). -/
def boolOfCode : Nat → Option Bool
  | 0 => some false
  | 1 => some true
  | _ => none

/-- The KIND of each request (12.2); 0 for a command that is no request but UNKNOWN_REQUEST, whose
KIND is its own. -/
def Instr.kind : Instr → Byte
  | .unknownRequest _ _ kind => kind
  | .channelStatus .. => 0x01
  | .inputStatus .. => 0x02
  | .axisMove .. => 0x10
  | .axisStop .. => 0x11
  | .axisJog .. => 0x12
  | .tripReset .. => 0x13
  | .manualEnter .. => 0x14
  | .manualSet .. => 0x15
  | .manualApply .. => 0x16
  | .manualLeave .. => 0x17
  | .axisStatus .. => 0x18
  | .driveStatus .. => 0x19
  | .takeStation .. => 0x20
  | .yieldStation .. => 0x21
  | .refuseStation .. => 0x22
  | .deckHold .. => 0x23
  | .deckResume .. => 0x24
  | .serviceEnter .. => 0x25
  | .serviceLeave .. => 0x26
  | .stationStatus .. => 0x27
  | .doorHold .. => 0x30
  | .doorHoldZone .. => 0x30
  | .doorRelease .. => 0x31
  | .doorReleaseZone .. => 0x31
  | .doorIsolate .. => 0x32
  | .doorRestore .. => 0x33
  | .zoneAlarm .. => 0x34
  | .doorStatus .. => 0x35
  | .zoneStatus .. => 0x36
  | .termWrite .. => 0x40
  | .permissiveWrite .. => 0x41
  | .termStatus .. => 0x42
  | .permissiveStatus .. => 0x43
  | .callPost .. => 0x48
  | .callCancel .. => 0x49
  | .callStatus .. => 0x4A
  | .patternWrite .. => 0x4C
  | .boardStatus .. => 0x4D
  | .alarmAck .. => 0x50
  | .alarmList .. => 0x51
  | .outputSet .. => 0x52
  | .outputStatus .. => 0x53
  | .reportSelect .. => 0x58
  | .linkRestart .. => 0x59
  | .linkStatus .. => 0x5A
  | .settingsWriteAxis .. => 0x60
  | .settingsWriteDrive .. => 0x60
  | .settingsWriteChannel .. => 0x60
  | .settingsWriteDoor .. => 0x60
  | .settingsWriteZone .. => 0x60
  | .settingsWriteScanner .. => 0x60
  | .settingsWriteRouting .. => 0x60
  | .settingsWriteOutput .. => 0x60
  | .settingsWriteLink .. => 0x60
  | .settingsRead .. => 0x61
  | .storeSettings .. => 0x62
  | .controllerReset .. => 0x63
  | .readCounters .. => 0x64
  | .setClock .. => 0x65
  | .identify .. => 0x66
  | _ => 0

/-- Whether a KIND names a request (12.2). -/
def kindIsRequest (k : Byte) : Bool :=
  let n := k.toNat
  (0x01 ≤ n && n ≤ 0x02) || (0x10 ≤ n && n ≤ 0x19) || (0x20 ≤ n && n ≤ 0x27) ||
  (0x30 ≤ n && n ≤ 0x36) || (0x40 ≤ n && n ≤ 0x43) || (0x48 ≤ n && n ≤ 0x4A) ||
  (0x4C ≤ n && n ≤ 0x4D) || (0x50 ≤ n && n ≤ 0x53) || (0x58 ≤ n && n ≤ 0x5A) ||
  (0x60 ≤ n && n ≤ 0x66)

end Sys2Proof
end

