-- ==== Sys2Proof/Decode.lean ====
section
/-! DEFINITION. Decoding: no row of the table of operations and events gives bits, so no word spells a
command; and the reading of a taken frame as the request it carries (R167, R183, 12.6, 12.8). -/

namespace Sys2Proof

/-- The command a word of `nbits` bits spells: the table gives no row any bits, so none does. -/
def decodeTableWord (_nbits _w : Nat) : Option Instr := none

open Machine

/-- A request of fixed payload length `n` (R183). -/
def fixedLength (n : Nat) (p : List Byte) (i : Instr) : Taken :=
  if p.length = n then .request i else .refuse .badLength

/-- The entries of PERMISSIVE WRITE: pairs of term number and invert flag (12.4). -/
def pairsOf : List Byte → List (Nat × Nat)
  | t :: v :: rest => (t.toNat, v.toNat) :: pairsOf rest
  | _ => []

/-- The object data of AXIS (12.8), which begins at payload byte 2. -/
def axisDataOf (p : List Byte) : AxisData where
  fitted := fieldByte p 2
  angleCh := fieldByte p 3
  pressCh := fieldByte p 4
  lLo := fieldInt p 5
  lHi := fieldInt p 7
  inBand := fieldWord p 9
  settleCount := fieldByte p 11
  kp := fieldByte p 12
  tableMode := fieldByte p 13
  loopMode := fieldByte p 14
  dMin := fieldWord p 15
  dMax := fieldWord p 17
  slew := fieldWord p 19
  stopSlew := fieldWord p 21
  motionLimit := fieldWord p 23
  warningTime := fieldByte p 25
  warningLanes := fieldLanes p 26
  warningPattern := fieldByte p 28
  marginHi := fieldWord p 29
  marginLo := fieldWord p 31
  ff := Vector.ofFn fun i => fieldWord p (33 + 2 * i.val)
  prt := Vector.ofFn fun i => fieldWord p (97 + 2 * i.val)

/-- The object data of CHANNEL (12.8). -/
def channelDataOf (p : List Byte) : ChannelData where
  enabled := fieldByte p 2
  rawMin := fieldWord p 3
  rawMax := fieldWord p 5
  depth := fieldByte p 7
  zero := fieldWord p 8
  gain := fieldInt p 10
  offset := fieldInt p 12

/-- The object data of DOOR (12.8). -/
def doorDataOf (p : List Byte) : DoorData where
  kind := fieldByte p 2
  zone := fieldByte p 3
  seaClosed := fieldByte p 4
  closeLimit := fieldByte p 5
  pause := fieldByte p 6
  maxRetries := fieldByte p 7

/-- The object data of ZONE (12.8). -/
def zoneDataOf (p : List Byte) : ZoneData where
  lanes := fieldLanes p 2
  fireEnabled := fieldByte p 4
  evacPattern := fieldByte p 5

/-- The object data of ROUTING (12.8). -/
def routingDataOf (p : List Byte) : RoutingData where
  alarmEnable := Vector.ofFn fun i => fieldByte p (2 + i.val)
  stopEnable := Vector.ofFn fun i => fieldByte p (11 + i.val)
  stopFollowsAlarm := fieldByte p 20

/-- The object data of OUTPUT (12.8). -/
def outputDataOf (p : List Byte) : OutputData where
  kind := fieldByte p 2
  index := fieldByte p 3
  invert := fieldByte p 4
  powerOn := fieldByte p 5

/-- SETTINGS WRITE by its object code (12.3): nine objects, one row of the table each. -/
def settingsWriteOf (l : Link) (t : Byte) (p : List Byte) : Taken :=
  let index := fieldByte p 1
  match fieldByte p 0 with
  | 0 => .request (.settingsWriteAxis l t index (axisDataOf p))
  | 1 => .request (.settingsWriteDrive l t index (fieldByte p 2))
  | 2 => .request (.settingsWriteChannel l t index (channelDataOf p))
  | 3 => .request (.settingsWriteDoor l t index (doorDataOf p))
  | 4 => .request (.settingsWriteZone l t index (zoneDataOf p))
  | 5 => .request (.settingsWriteScanner l t index (fieldByte p 2) (fieldByte p 3))
  | 6 => .request (.settingsWriteRouting l t index (routingDataOf p))
  | 7 => .request (.settingsWriteOutput l t index (outputDataOf p))
  | 8 => .request (.settingsWriteLink l t index (fieldWord p 2))
  | _ => .undefinedObject

/-- DOOR HOLD and DOOR RELEASE by their selector: 0 one door, 1 one zone, any other undefined (12.3). -/
def doorSelect (p : List Byte) (door zone : Instr) : Taken :=
  if p.length = 2 then
    match fieldByte p 0 with
    | 0 => .request door
    | 1 => .request zone
    | _ => .refuse .badField
  else .refuse .badLength

/-- The request a frame taken on link `l` carries: KIND first, then the payload length, before any
field is read (R167, R183). -/
def decodeFrame (l : Link) (f : Frame) : Taken :=
  let t := f.tag
  let p := f.payload
  let b := fieldByte p
  match f.kind.toNat with
  | 0x01 => fixedLength 2 p (.channelStatus l t (b 0) (b 1))
  | 0x02 => fixedLength 0 p (.inputStatus l t)
  | 0x10 => fixedLength 3 p (.axisMove l t (b 0) (fieldInt p 1))
  | 0x11 => fixedLength 1 p (.axisStop l t (b 0))
  | 0x12 => fixedLength 2 p (.axisJog l t (b 0) (b 1))
  | 0x13 => fixedLength 1 p (.tripReset l t (b 0))
  | 0x14 => fixedLength 1 p (.manualEnter l t (b 0))
  | 0x15 => fixedLength 3 p (.manualSet l t (b 0) (fieldInt p 1))
  | 0x16 => fixedLength 1 p (.manualApply l t (b 0))
  | 0x17 => fixedLength 1 p (.manualLeave l t (b 0))
  | 0x18 => fixedLength 2 p (.axisStatus l t (b 0) (b 1))
  | 0x19 => fixedLength 1 p (.driveStatus l t (b 0))
  | 0x20 => fixedLength 1 p (.takeStation l t (b 0))
  | 0x21 => fixedLength 1 p (.yieldStation l t (b 0))
  | 0x22 => fixedLength 1 p (.refuseStation l t (b 0))
  | 0x23 => fixedLength 0 p (.deckHold l t)
  | 0x24 => fixedLength 1 p (.deckResume l t (b 0))
  | 0x25 => fixedLength 0 p (.serviceEnter l t)
  | 0x26 => fixedLength 0 p (.serviceLeave l t)
  | 0x27 => fixedLength 0 p (.stationStatus l t)
  | 0x30 => doorSelect p (.doorHold l t (b 1)) (.doorHoldZone l t (b 1))
  | 0x31 => doorSelect p (.doorRelease l t (b 1)) (.doorReleaseZone l t (b 1))
  | 0x32 => fixedLength 1 p (.doorIsolate l t (b 0))
  | 0x33 => fixedLength 1 p (.doorRestore l t (b 0))
  | 0x34 => fixedLength 2 p (.zoneAlarm l t (b 0) (b 1))
  | 0x35 => fixedLength 2 p (.doorStatus l t (b 0) (b 1))
  | 0x36 => fixedLength 2 p (.zoneStatus l t (b 0) (b 1))
  | 0x40 => fixedLength 6 p (.termWrite l t (b 0) ⟨b 1, b 2, b 3, fieldInt p 4⟩)
  | 0x41 =>
    if 2 ≤ p.length ∧ p.length = 2 + 2 * b 1 then
      .request (.permissiveWrite l t (b 0) (pairsOf (p.drop 2)))
    else .refuse .badLength
  | 0x42 => fixedLength 2 p (.termStatus l t (b 0) (b 1))
  | 0x43 => fixedLength 2 p (.permissiveStatus l t (b 0) (b 1))
  | 0x48 => fixedLength 9 p
      (.callPost l t ⟨b 0, b 1, fieldLanes p 2, b 4, b 5, b 6, fieldWord p 7⟩)
  | 0x49 => fixedLength 1 p (.callCancel l t (b 0))
  | 0x4A => fixedLength 2 p (.callStatus l t (b 0) (b 1))
  | 0x4C => fixedLength 5 p (.patternWrite l t (b 0) (BitVec.ofNat 32 (fieldLong p 1)))
  | 0x4D => fixedLength 2 p (.boardStatus l t (b 0) (b 1))
  | 0x50 => fixedLength 1 p (.alarmAck l t (b 0))
  | 0x51 => fixedLength 1 p (.alarmList l t (b 0))
  | 0x52 => fixedLength 2 p (.outputSet l t (b 0) (b 1))
  | 0x53 => fixedLength 0 p (.outputStatus l t)
  | 0x58 => fixedLength 7 p (.reportSelect l t (Vector.ofFn fun i => b i.val))
  | 0x59 => fixedLength 0 p (.linkRestart l t)
  | 0x5A => fixedLength 0 p (.linkStatus l t)
  | 0x60 => if p.length = 129 then settingsWriteOf l t p else .refuse .badLength
  | 0x61 => fixedLength 2 p (.settingsRead l t (b 0) (b 1))
  | 0x62 => fixedLength 0 p (.storeSettings l t)
  | 0x63 => fixedLength 0 p (.controllerReset l t)
  | 0x64 => fixedLength 2 p (.readCounters l t (b 0) (b 1))
  | 0x65 => fixedLength 4 p (.setClock l t (BitVec.ofNat 32 (fieldLong p 0)))
  | 0x66 => fixedLength 0 p (.identify l t)
  | _ => .request (.unknownRequest l t f.kind)

end Sys2Proof
end

