-- ==== Sys2Proof/Machine/Factory.lean ====
section
/-! DEFINITION. The factory defaults, from each owner's settings table (R179). -/

namespace Sys2Proof.Machine

/-- Axis factory settings (02, 2.1): angle channel a, pressure channel a + 4. -/
def factoryAxis (a : Fin 4) : AxisSettings where
  fitted := false
  angleCh := ⟨a.val, by omega⟩
  pressCh := ⟨a.val + 4, by omega⟩
  lLo := 0
  lHi := 9000
  inBand := 20
  settleCount := 5
  kp := 0
  ff := Vector.replicate 32 0
  tableMode := .single
  loopMode := .normal
  dMin := 0
  dMax := 0
  slew := 100
  stopSlew := 200
  motionLimit := 120
  warningTime := 3
  warningLanes := 0
  warningPattern := 0
  prt := Vector.replicate 16 0
  marginHi := 32767
  marginLo := 0

/-- Channel factory settings (01, 1.1.1). -/
def factoryChannel : ChannelSettings where
  enabled := false
  rawMin := 0
  rawMax := 4095
  depth := 1
  zero := 0
  gain := 4096
  offset := 0

/-- Door factory settings (05, 5.1). The close limit has a factory value for SWING and for SLIDING
only; a position of kind NONE holds 20 s here: DESIGN CHOICE (log entry 19, unsafe). -/
def factoryDoor : DoorSettings where
  kind := .absent
  zone := 0
  seaClosed := false
  closeLimit := 20
  pause := 5
  maxRetries := 3

/-- Zone factory settings (05, 5.7.1). -/
def factoryZone : ZoneSettings where
  lanes := 0
  fireEnabled := true
  evacPattern := 0

/-- A term of kind NONE (R117). -/
def noTerm : TermSettings where
  source := none
  cmp := .eq
  const := 0

/-- Routing factory settings (09, 9.3), in class code order. -/
def factoryRouting : Routing where
  alarmEnable := #v[true, true, true, true, true, true, false, true, true]
  stopEnable := #v[false, false, false, false, false, false, false, true, false]
  stopFollowsAlarm := false

/-- Output factory settings (09, 9.4.1). -/
def factoryOutput : OutputSettings where
  source := .fixed
  invert := false
  powerOn := false

/-- The factory defaults (R179). -/
def factorySettings : Settings where
  axes := Vector.ofFn factoryAxis
  oil := 8
  channels := Vector.replicate 12 factoryChannel
  doors := Vector.replicate 32 factoryDoor
  zones := Vector.replicate 8 factoryZone
  boards := 0
  blanking := 2
  patterns := Vector.replicate 64 0
  terms := Vector.replicate 64 noTerm
  permissives := Vector.replicate 16 []
  routing := factoryRouting
  outputs := Vector.replicate 8 factoryOutput
  supervision := ⟨2000, 2000⟩

/-- What non-volatile storage holds in `State.reset`: nothing has been stored, so no CRC matches:
DESIGN CHOICE (log entry 7, unsafe). -/
def blankImage : Image where
  settings := factorySettings
  revision := 0
  crcGood := false

end Sys2Proof.Machine
end

