-- ==== Sys2Proof/Machine/State.lean ====
section
/-! DEFINITION. The state of the part, block by block (00, 2.1), as plain data, and the state right
after power-on. -/

namespace Sys2Proof.Machine

/-! ## Measurement unit and door scan chain -/

/-- The record of one channel with its filter, oldest sample first (01, 1.1.2). -/
structure ChannelRecord where
  raw : Nat
  filtered : Nat
  scaled : Int
  valid : Bool
  count : Nat
  changed : DeckTime
  everValid : Bool
  filter : List Nat
  deriving DecidableEq, Repr

/-- Debounced states of the discrete inputs, and the last sample of each (R11, R12). -/
structure InputUnit where
  levels : InputLevels
  last : InputLevels
  deriving DecidableEq, Repr

/-- The three output states of one door position (R15). -/
structure DoorOutputs where
  magnet : Bool
  closeDrive : Bool
  openDrive : Bool
  deriving DecidableEq, Repr

/-- The door scan chain interface (R13 to R15): debounced levels, last scan's levels, outputs held,
outputs last shifted out. -/
structure DoorChain where
  levels : Vector DoorInputs 32
  last : Vector DoorInputs 32
  outputs : Vector DoorOutputs 32
  shifted : Vector DoorOutputs 32
  deriving DecidableEq, Repr

/-! ## Axis controllers and valve drive generators -/

/-- The motion record (02, 2.2). -/
structure MotionRecord where
  origin : Link
  kind : MotionKind
  target : Option Int
  start : DeckTime
  finish : Option DeckTime
  outcome : Option MotionOutcome
  deriving DecidableEq, Repr

/-- The last update record (03, 3.1). `t`, `oilValid` and `u` are absent in the modes that form
none (R48, R49). -/
structure UpdateRecord where
  mode : AxisState
  t : Option Int
  oilValid : Option Bool
  idx : Option Nat
  e : Option Int
  u : Option Nat
  d : Int
  cPrev : Int
  cNew : Int
  deriving DecidableEq, Repr

/-- The last check record (03, 3.1). -/
structure CheckRecord where
  pressure : Int
  angle : Int
  band : Nat
  ref : Nat
  hi : Nat
  lo : Nat
  deriving DecidableEq, Repr

/-- The axis record (02, 2.2) and the working state of its computation (03, 3.1). `confirm` is the
pressure confirmation: absent is count 0, a kind is count 1 with that kind. `sensor` is the
AXIS_SENSOR condition as last handed on (R43). Timers hold remaining milliseconds. -/
structure AxisRecord where
  state : AxisState
  target : Option Int
  direction : Option Direction
  c : Int
  staged : Int
  settle : Nat
  stopOutcome : Option MotionOutcome
  tripKind : Option TripKind
  warning : Option Nat
  motionTimer : Option Nat
  refresh : Option Nat
  motion : Option MotionRecord
  update : Option UpdateRecord
  confirm : Option TripKind
  check : Option CheckRecord
  sensor : Bool
  deriving DecidableEq, Repr

/-- A valve drive generator (03, 3.1). `lines` is the direction lines, `none` both released, so that
both asserted cannot be written down; `position` is the tick reached in the frame in progress. -/
structure Generator where
  command : Int
  applied : Nat
  lines : Option Direction
  cut : Bool
  position : Nat
  deriving DecidableEq, Repr

/-! ## Station controller -/

/-- A pending request for authority (04, 4.1.1). -/
structure AuthorityRequest where
  requester : Link
  time : DeckTime
  deadline : Nat
  deriving DecidableEq, Repr

/-- The authority record of an axis (04, 4.1.1). -/
structure Authority where
  holder : Option Link
  request : Option AuthorityRequest
  deriving DecidableEq, Repr

/-- The station controller (04). -/
structure Station where
  auth : Vector Authority 4
  active : Vector Bool 4
  claims : Pair Bool
  hold : HoldStatus
  level : Pair Level
  deriving DecidableEq, Repr

/-! ## Door controller -/

/-- The door record (05, 5.2). `mark` is the elapsed time of the attempt's mark (R93); `seen` the
inputs as the latest door input change event left them (5.2.2). -/
structure DoorRecord where
  state : DoorState
  retry : Nat
  closingSince : DeckTime
  lastRelease : DeckTime
  lastClosed : DeckTime
  closeDuration : Option Nat
  cause : Option FaultCause
  travel : Option Nat
  pause : Option Nat
  conflict : Option Nat
  mark : Nat
  seen : DoorInputs
  deriving DecidableEq, Repr

/-- The zone record (05, 5.7.1); `alarm` is the state ALARM. -/
structure ZoneRecord where
  alarm : Bool
  manual : Bool
  fire : Bool
  since : Option DeckTime
  deriving DecidableEq, Repr

/-- The open-door counts as last handed on (R101). -/
structure OpenCounts where
  zone : Vector Nat 8
  sea : Nat
  deriving DecidableEq, Repr

/-! ## Permissive evaluator -/

/-- The derived fields of a permissive record (06, 6.2.1). -/
structure Slot where
  result : Bool
  changed : DeckTime
  deriving DecidableEq, Repr

/-- Term values and permissive results; their settings stand in the working settings (06). -/
structure Evaluator where
  values : Vector Bool 64
  slots : Vector Slot 16
  deriving DecidableEq, Repr

/-! ## Call controller -/

/-- A call record (07, 7.1.1). -/
structure Call where
  number : Nat
  kind : CallKind
  priority : Nat
  origin : Origin
  lanes : LaneSet
  pattern : Fin 64
  chime : Bool
  ack : Bool
  acked : LaneSet
  duration : Nat
  timer : Option Nat
  admitted : DeckTime
  sequence : Nat
  deriving DecidableEq, Repr

/-- An item of the removed-call list (07, 7.1.3). -/
structure RemovedCall where
  number : Nat
  kind : CallKind
  origin : Origin
  lanes : LaneSet
  acked : LaneSet
  reason : RemovalReason
  time : DeckTime
  deriving DecidableEq, Repr

/-- The call controller (07, 7.1.3). -/
structure CallTable where
  table : List Call
  number : Nat
  sequence : Nat
  chimeTimer : Option Nat
  chime : Bool
  removed : List RemovedCall
  deriving DecidableEq, Repr

/-! ## Board scanner -/

/-- The shown record of a board (08, 8.2): the winner's number and priority, the pattern, the phase
and the latched segments. -/
structure Shown where
  winner : Option (Nat × Nat)
  pattern : Option (Fin 64)
  lit : Bool
  segments : Segments
  deriving DecidableEq, Repr

/-- A button's debounce state (08, 8.4). -/
structure Button where
  pressed : Bool
  count : Nat
  deriving DecidableEq, Repr

/-- The scan frame in progress: the N and B it began with and the milliseconds since its start
(R139, R140). -/
structure ScanFrame where
  boards : Nat
  blanking : Nat
  position : Nat
  deriving DecidableEq, Repr

/-- The board scanner (08). -/
structure Scanner where
  shown : Vector Shown 16
  buttons : Vector Button 16
  frame : Option ScanFrame
  flashLit : Bool
  deriving DecidableEq, Repr

/-! ## Alarm unit -/

inductive EntryState | activeUnacked | activeAcked | returnedUnacked
  deriving DecidableEq, Repr

/-- An alarm entry (09, 9.2). -/
structure AlarmEntry where
  source : Fin 60
  state : EntryState
  first : DeckTime
  last : DeckTime
  occurrences : Nat
  deriving DecidableEq, Repr

/-- Held value and present level of an output line (09, 9.4.1). -/
structure OutLine where
  held : Bool
  level : Bool
  deriving DecidableEq, Repr

/-- The alarm unit (09). -/
structure AlarmUnit where
  list : List AlarmEntry
  flags : Vector Bool 60
  alarm : Bool
  stop : Bool
  lines : Vector OutLine 8
  deriving DecidableEq, Repr

/-! ## Link controllers -/

inductive StationCause | granted | yielded | priority | linkLost | lostToRequester
  deriving DecidableEq, Repr

inductive StationAnswer | refused | timedOut | requesterLost
  deriving DecidableEq, Repr

inductive LevelCause | entered | left | keyReleased | linkRestart
  deriving DecidableEq, Repr

/-- What an ALARM CHANGED report says of its change (R153). -/
inductive AlarmCause | active | returned | momentary | ack
  deriving DecidableEq, Repr

inductive ReportClass | axis | station | door | call | permissive | alarm | system
  deriving DecidableEq, Repr

/-- The bodies of the seventeen reports (12.7). -/
inductive ReportBody
  | axisState (a : Fin 4) (prev new : AxisState) (cause : Option MotionOutcome)
  | axisOutcome (a : Fin 4) (motion : MotionRecord)
  | stationChanged (a : Fin 4) (prev new : Option Link) (cause : StationCause)
  | stationRequested (a : Fin 4) (requester : Link) (time : DeckTime)
  | stationAnswer (a : Fin 4) (answer : StationAnswer)
  | holdClaims (claims : Pair Bool) (hold : HoldStatus)
  | holdEstablished (claims : Pair Bool) (time : DeckTime)
  | levelChanged (l : Link) (level : Level) (cause : LevelCause)
  | doorState (d : Fin 32) (prev new : DoorState) (cause : DoorCause)
  | zoneState (z : Fin 8) (alarm : Bool) (cause : ZoneCause)
  | callAdmitted (call : Call)
  | callRemoved (call : Call) (reason : RemovalReason)
  | laneButton (n : Fin 16) (pressed : Bool)
  | permissiveChanged (p : Fin 16) (result : Bool) (source : Option Source)
  | alarmChanged (source : Fin 60) (prev new : Option EntryState) (occurrences : Nat)
      (first last : DeckTime) (cause : AlarmCause)
  | tripLineChanged (stopLine : Bool) (level : Bool)
  | storeResult (good : Bool) (revision : Nat)
  | controllerResetDone (revision : Nat) (defaulted : Bool)
  deriving DecidableEq, Repr

/-- A queued report: the deck time at which it was queued, and its body (10.4, 12.1). -/
structure Report where
  time : DeckTime
  body : ReportBody
  deriving DecidableEq, Repr

/-- The data of a reply (R167). -/
inductive ReplyData
  | done (data : List Byte)
  | accepted (data : List Byte)
  | refused (code : RefusalCode)
  deriving DecidableEq, Repr

/-- A reply carries the KIND and TAG of its request (R167). -/
structure Reply where
  kind : Byte
  tag : Byte
  data : ReplyData
  deriving DecidableEq, Repr

/-- A frame the transmitter is sending: a reply, or a report with its LOST marker (R171). -/
inductive TxFrame
  | reply (r : Reply)
  | report (r : Report) (lost : Bool)
  deriving DecidableEq, Repr

inductive ReceiverState | hunt | length | body
  deriving DecidableEq, Repr

inductive LinkState | down | up | lost
  deriving DecidableEq, Repr

/-- A link controller (10). `assembly` is the frame in assembly, from its LENGTH byte on. -/
structure LinkController where
  receiver : ReceiverState
  assembly : Option (List Byte)
  waiting : Option Frame
  slot : Option Reply
  line : Option TxFrame
  state : LinkState
  timer : Option Nat
  queue : List Report
  selection : Vector Bool 7
  lost : Bool
  deriving DecidableEq, Repr

/-! ## Settings store and counters -/

/-- The settings store (11). `inFlight` is the store-in-flight flag with the copy being written. -/
structure Store where
  image : Image
  inFlight : Option Image
  revision : Nat
  defaulted : Bool
  unstored : Bool
  deriving DecidableEq, Repr

structure AxisCounters where
  reached : Nat
  otherwise : Nat
  trips : Nat
  deriving DecidableEq, Repr

structure DoorCounters where
  releases : Nat
  closures : Nat
  obstructions : Nat
  deriving DecidableEq, Repr

structure LinkCounters where
  good : Nat
  crc : Nat
  gap : Nat
  overrun : Nat
  discarded : Nat
  deriving DecidableEq, Repr

/-- The event counters (R181). -/
structure Counters where
  axes : Vector AxisCounters 4
  doors : Vector DoorCounters 32
  links : Pair LinkCounters
  deriving DecidableEq, Repr

/-- Whether the part is without supply, in its settings load, or running (R178, R179). -/
inductive Power | off | loading | running
  deriving DecidableEq, Repr

/-! ## The whole part -/

/-- The state of the DK40. `handed` holds the notices one block has handed another and that have not
yet been taken (log entry 2); `pending` is the queue of commands, first in, first out; `uptime` is
elapsed milliseconds since power-on. -/
@[ext]
structure State where
  power : Power
  settings : Settings
  store : Store
  clock : DeckTime
  uptime : Nat
  counters : Counters
  channels : Vector ChannelRecord 12
  inputs : InputUnit
  chain : DoorChain
  axes : Vector AxisRecord 4
  valves : Vector Generator 4
  station : Station
  doors : Vector DoorRecord 32
  zones : Vector ZoneRecord 8
  openCounts : OpenCounts
  evaluator : Evaluator
  calls : CallTable
  scanner : Scanner
  alarms : AlarmUnit
  links : Pair LinkController
  handed : List Instr
  pending : List Instr
  deriving DecidableEq, Repr

/-- No condition of the spec stops the part with a fault: bad requests are answered, trips and door
faults are states, and a lost supply is `Power.off`. So this type has no constructor; a step that
never faults is safe (nothing the hardware goes on with is cut short). -/
inductive Fault
  deriving DecidableEq, Repr

/-- Why a step can refuse. -/
inductive Refusal
  /-- Raised by `exec` for a row of the table that has no meaning yet; safe, as nothing is claimed of
  it. Every row has its meaning, so no arm raises it. -/
  | notModelled (mnemonic : String)
  deriving DecidableEq, Repr

/-! ## Power-on values -/

/-- Every discrete input released (DESIGN CHOICE until the first sample, log entry 6). -/
def InputLevels.released : InputLevels where
  estop := false
  serviceKey := false
  localPriority := false
  fire := Vector.replicate 8 false
  limLo := Vector.replicate 4 false
  limHi := Vector.replicate 4 false
  gi := Vector.replicate 16 false

/-- The three inputs of a door position released. -/
def DoorInputs.released : DoorInputs where
  openSwitch := false
  closedSwitch := false
  edge := false

/-- All three outputs off. -/
def DoorOutputs.off : DoorOutputs where
  magnet := false
  closeDrive := false
  openDrive := false

/-- R8. -/
def ChannelRecord.powerOn : ChannelRecord where
  raw := 0
  filtered := 0
  scaled := 0
  valid := false
  count := 0
  changed := 0
  everValid := false
  filter := []

/-- R45, R47. -/
def AxisRecord.powerOn : AxisRecord where
  state := .idle
  target := none
  direction := none
  c := 0
  staged := 0
  settle := 0
  stopOutcome := none
  tripKind := none
  warning := none
  motionTimer := none
  refresh := none
  motion := none
  update := none
  confirm := none
  check := none
  sensor := false

/-- R47. -/
def Generator.powerOn : Generator where
  command := 0
  applied := 0
  lines := none
  cut := false
  position := 0

/-- R83. -/
def Station.powerOn : Station where
  auth := Vector.replicate 4 ⟨none, none⟩
  active := Vector.replicate 4 false
  claims := ⟨false, false⟩
  hold := .none
  level := ⟨.operate, .operate⟩

/-- R108; the state is derived at the first scan. -/
def DoorRecord.powerOn : DoorRecord where
  state := .closed
  retry := 0
  closingSince := 0
  lastRelease := 0
  lastClosed := 0
  closeDuration := none
  cause := none
  travel := none
  pause := none
  conflict := none
  mark := 0
  seen := DoorInputs.released

/-- R108. -/
def ZoneRecord.powerOn : ZoneRecord where
  alarm := false
  manual := false
  fire := false
  since := none

/-- R122. -/
def Evaluator.powerOn : Evaluator where
  values := Vector.replicate 64 false
  slots := Vector.replicate 16 ⟨false, 0⟩

/-- R137. -/
def CallTable.powerOn : CallTable where
  table := []
  number := 1
  sequence := 1
  chimeTimer := none
  chime := false
  removed := []

/-- A dark board with no winner and no pattern (R140, R148). -/
def Shown.dark : Shown where
  winner := none
  pattern := none
  lit := false
  segments := 0

/-- R148. -/
def Scanner.powerOn : Scanner where
  shown := Vector.replicate 16 Shown.dark
  buttons := Vector.replicate 16 ⟨false, 0⟩
  frame := none
  flashLit := true

/-- R163. -/
def AlarmUnit.powerOn : AlarmUnit where
  list := []
  flags := Vector.replicate 60 false
  alarm := false
  stop := false
  lines := Vector.replicate 8 ⟨false, false⟩

/-- The default selection of a link (R172), in class code order: every class for the bridge link;
AXIS, STATION, ALARM and SYSTEM for the local link. -/
def defaultSelection : Link → Vector Bool 7
  | .bridge => #v[true, true, true, true, true, true, true]
  | .localLink => #v[true, true, false, false, false, true, true]

/-- R175. -/
def LinkController.powerOn (l : Link) : LinkController where
  receiver := .hunt
  assembly := none
  waiting := none
  slot := none
  line := none
  state := .down
  timer := none
  queue := []
  selection := defaultSelection l
  lost := false

/-- Every counter 0 (R179, R181). -/
def Counters.zero : Counters where
  axes := Vector.replicate 4 ⟨0, 0, 0⟩
  doors := Vector.replicate 32 ⟨0, 0, 0⟩
  links := ⟨⟨0, 0, 0, 0, 0⟩, ⟨0, 0, 0, 0, 0⟩⟩

/-- The part as its settings load begins, with the image non-volatile storage holds (R179 and each
chapter's power-on rule). The outputs last shifted out to the doors stand as off from here to the end of
the first scan, and are what no rule reads (log entry 6). -/
def State.powerOn (image : Image) : State where
  power := .loading
  settings := factorySettings
  store := ⟨image, none, 0, false, false⟩
  clock := 0
  uptime := 0
  counters := Counters.zero
  channels := Vector.replicate 12 ChannelRecord.powerOn
  inputs := ⟨InputLevels.released, InputLevels.released⟩
  chain := ⟨Vector.replicate 32 DoorInputs.released, Vector.replicate 32 DoorInputs.released,
    Vector.replicate 32 DoorOutputs.off, Vector.replicate 32 DoorOutputs.off⟩
  axes := Vector.replicate 4 AxisRecord.powerOn
  valves := Vector.replicate 4 Generator.powerOn
  station := Station.powerOn
  doors := Vector.replicate 32 DoorRecord.powerOn
  zones := Vector.replicate 8 ZoneRecord.powerOn
  openCounts := ⟨Vector.replicate 8 0, 0⟩
  evaluator := Evaluator.powerOn
  calls := CallTable.powerOn
  scanner := Scanner.powerOn
  alarms := AlarmUnit.powerOn
  links := ⟨LinkController.powerOn .bridge, LinkController.powerOn .localLink⟩
  handed := []
  pending := []

/-- The machine right after reset: power-on, the settings load beginning (R179). -/
def State.reset : State := State.powerOn blankImage

end Sys2Proof.Machine
end

