-- ==== Sys2Proof/Machine/Ops.lean ====
section
/-! DEFINITION. The operations every block shares: changing one record of a bank, counting, handing
notices on, queueing reports, placing replies, transmitting, and the frame every command runs in. -/

namespace Sys2Proof.Machine

/-- What a command answers. -/
abbrev Result := Host.Outcome State Fault Refusal

/-! ## Banks -/

/-- Item `i` of a bank changed by `f`. -/
def upd {α : Type} {n : Nat} (v : Vector α n) (i : Fin n) (f : α → α) : Vector α n :=
  v.set i (f v[i])

def State.modChannel (s : State) (k : Fin 12) (f : ChannelRecord → ChannelRecord) : State :=
  { s with channels := upd s.channels k f }

def State.modAxis (s : State) (a : Fin 4) (f : AxisRecord → AxisRecord) : State :=
  { s with axes := upd s.axes a f }

def State.modValve (s : State) (a : Fin 4) (f : Generator → Generator) : State :=
  { s with valves := upd s.valves a f }

def State.modAuth (s : State) (a : Fin 4) (f : Authority → Authority) : State :=
  { s with station := { s.station with auth := upd s.station.auth a f } }

def State.modDoor (s : State) (d : Fin 32) (f : DoorRecord → DoorRecord) : State :=
  { s with doors := upd s.doors d f }

def State.modZone (s : State) (z : Fin 8) (f : ZoneRecord → ZoneRecord) : State :=
  { s with zones := upd s.zones z f }

def State.modLink (s : State) (l : Link) (f : LinkController → LinkController) : State :=
  { s with links := s.links.set l (f (s.links.get l)) }

/-! ## Counters (R181) -/

/-- A saturating counter increased by one. -/
def saturate (n : Nat) : Nat := min (n + 1) Config.counterTop

def State.countAxis (s : State) (a : Fin 4) (f : AxisCounters → AxisCounters) : State :=
  { s with counters := { s.counters with axes := upd s.counters.axes a f } }

def State.countDoor (s : State) (d : Fin 32) (f : DoorCounters → DoorCounters) : State :=
  { s with counters := { s.counters with doors := upd s.counters.doors d f } }

def State.countLink (s : State) (l : Link) (f : LinkCounters → LinkCounters) : State :=
  { s with counters :=
      { s.counters with links := s.counters.links.set l (f (s.counters.links.get l)) } }

/-! ## Notices -/

/-- Hand notices on to other blocks, as separate events to be taken later. -/
def State.hand (s : State) (is : List Instr) : State := { s with handed := s.handed ++ is }

/-- The notice is taken: it stands among those handed on no more. -/
def State.taken (s : State) (i : Instr) : State := { s with handed := s.handed.erase i }

/-- The notices that `p` names stand as taken before the present act: they leave those handed on. -/
def State.takenFirst (s : State) (p : Instr → Bool) : State :=
  { s with handed := s.handed.filter fun i => !p i }

/-! ## Reports (10.4) -/

/-- The class of each report (10.4). -/
def ReportBody.cls : ReportBody → ReportClass
  | .axisState .. => .axis
  | .axisOutcome .. => .axis
  | .stationChanged .. => .station
  | .stationRequested .. => .station
  | .stationAnswer .. => .station
  | .holdClaims .. => .station
  | .holdEstablished .. => .station
  | .levelChanged .. => .station
  | .doorState .. => .door
  | .zoneState .. => .door
  | .callAdmitted .. => .call
  | .callRemoved .. => .call
  | .laneButton .. => .call
  | .permissiveChanged .. => .permissive
  | .alarmChanged .. => .alarm
  | .tripLineChanged .. => .alarm
  | .storeResult .. => .system
  | .controllerResetDone .. => .system

/-- Report class codes (12.3). -/
def ReportClass.code : ReportClass → Fin 7
  | .axis => 0
  | .station => 1
  | .door => 2
  | .call => 3
  | .permissive => 4
  | .alarm => 5
  | .system => 6

/-- Whether the link's selection includes the report's class (R170). -/
def LinkController.selects (c : LinkController) (b : ReportBody) : Bool := c.selection[b.cls.code]

/-- Whether the queue holds 32 reports already (R170). -/
def LinkController.full (c : LinkController) : Bool := decide (Config.queueLimit ≤ c.queue.length)

/-- A report joins the queue, is not selected, or is discarded and sets the lost-report flag (R170). -/
def LinkController.enqueue (c : LinkController) (r : Report) : LinkController :=
  { c with
    queue := if c.selects r.body && !c.full then c.queue ++ [r] else c.queue
    lost := c.lost || (c.selects r.body && c.full) }

/-- Queue a report on one link, counting a discard (R170). -/
def State.reportOn (s : State) (l : Link) (b : ReportBody) : State :=
  let c := s.links.get l
  (s.modLink l (·.enqueue ⟨s.clock, b⟩)).countLink l fun k =>
    { k with discarded := if c.selects b && c.full then saturate k.discarded else k.discarded }

/-- Queue a report on both links, each tested separately (R170). -/
def State.report (s : State) (b : ReportBody) : State :=
  (s.reportOn .bridge b).reportOn .localLink b

/-! ## Replies and the transmitter -/

/-- A free transmitter chooses its next frame: the reply in the slot; otherwise, in UP, the oldest
report, with the LOST marker where the flag is set, clearing it (R171). A report is not begun while a
waiting frame stands to be taken at once, so that its reply goes first (log entry 11). -/
def LinkController.transmit (c : LinkController) : LinkController :=
  match c.line, c.slot with
  | some _, _ => c
  | none, some r => { c with line := some (.reply r), slot := none }
  | none, none =>
    match c.queue with
    | [] => c
    | r :: rest =>
      if c.state = .up ∧ c.waiting = none then
        { c with line := some (.report r c.lost), queue := rest, lost := false }
      else c

/-- Both transmitters choose, where they are free (R171). -/
def State.pump (s : State) : State :=
  { s with links := ⟨s.links.bridge.transmit, s.links.localLink.transmit⟩ }

/-- The taken frame leaves the waiting position, where it is this request's (R167). -/
def LinkController.release (c : LinkController) (l : Link) (i : Instr) : LinkController :=
  { c with waiting :=
      match c.waiting with
      | some f => if decodeFrame l f = .request i then none else some f
      | none => none }

/-- A request is taken with the reply slot empty: a reply still in it has begun on the line, the frame
before it having ended (R167, R171; log entry 10). -/
def LinkController.freeSlot (c : LinkController) : LinkController :=
  match c.slot with
  | some r => { c with line := some (.reply r), slot := none }
  | none => c

/-- The link controller takes the request `i`. -/
def State.openRequest (s : State) (l : Link) (i : Instr) : State :=
  s.modLink l fun c => (c.release l i).freeSlot

/-- The reply is placed in the reply slot (R167). -/
def State.placeReply (s : State) (l : Link) (r : Reply) : State :=
  s.modLink l fun c => { c with slot := some r }

/-! ## The frame of a command -/

/-- An event acts while the part runs, and is taken from the notices if it stands among them. Without
supply and during the settings load no event but POWER_ON, SETTINGS_LOAD_END and POWER_LOSS comes
about (R179): the state stands as it is. -/
def runEvent (i : Instr) (s : State) (f : State → State) : Result :=
  if s.power = .running then .next (f (s.taken i)).pump else .next s

/-- A request is taken, acts by its rule and is answered in one act (R167). While the part does not
run, its receivers do not receive and the request is lost (R179). -/
def runRequest (i : Instr) (l : Link) (tag : Byte) (s : State)
    (f : State → State × ReplyData) : Result :=
  if s.power = .running then
    let r := f (s.openRequest l i)
    .next (r.1.placeReply l ⟨i.kind, tag, r.2⟩).pump
  else .next s

/-- A refused request changes no state (R167). -/
def deny (s : State) (c : RefusalCode) : State × ReplyData := (s, .refused c)

/-- A request carried out, with the data its rule names. -/
def done (s : State) (data : List Byte) : State × ReplyData := (s, .done data)

end Sys2Proof.Machine
end

