-- ==== Sys2Proof/Machine/Flags.lean ====
section
/-! DEFINITION. The conditions the rules test: what records and inputs say together, each computed in
one place. -/

namespace Sys2Proof

/-- Active: any state but IDLE and TRIPPED (04, 4.1.1; R159). -/
def AxisState.active : AxisState → Bool
  | .idle => false
  | .tripped => false
  | .warning => true
  | .moving => true
  | .settling => true
  | .stopping => true
  | .jogging => true
  | .manual => true

/-- The states in which writes to what an axis uses are refused BUSY: WARNING, MOVING, SETTLING,
JOGGING and MANUAL (R117, R118, R176). -/
def AxisState.inUse : AxisState → Bool
  | .warning => true
  | .moving => true
  | .settling => true
  | .jogging => true
  | .manual => true
  | .idle => false
  | .stopping => false
  | .tripped => false

/-- The level of one discrete input. -/
def InputLevels.get (v : InputLevels) : Input → Bool
  | .estop => v.estop
  | .serviceKey => v.serviceKey
  | .localPriority => v.localPriority
  | .fire z => v.fire[z]
  | .limLo a => v.limLo[a]
  | .limHi a => v.limHi[a]
  | .gi n => v.gi[n]

/-- One discrete input set to a level. -/
def InputLevels.put (v : InputLevels) (i : Input) (b : Bool) : InputLevels :=
  match i with
  | .estop => { v with estop := b }
  | .serviceKey => { v with serviceKey := b }
  | .localPriority => { v with localPriority := b }
  | .fire z => { v with fire := v.fire.set z b }
  | .limLo a => { v with limLo := v.limLo.set a b }
  | .limHi a => { v with limHi := v.limHi.set a b }
  | .gi n => { v with gi := v.gi.set n b }

/-- The limit switch of a direction: LIM_HI for raise, LIM_LO for lower (R24). -/
def InputLevels.limit (v : InputLevels) (a : Fin 4) : Direction → Bool
  | .raise => v.limHi[a]
  | .lower => v.limLo[a]

/-- The closed condition (05, 5.2.2). -/
def DoorInputs.closedCond (i : DoorInputs) : Bool := i.closedSwitch && !i.openSwitch

/-- The open condition (05, 5.2.2). -/
def DoorInputs.openCond (i : DoorInputs) : Bool := i.openSwitch && !i.closedSwitch

/-- The switches are in conflict (05, 5.2.2). -/
def DoorInputs.conflict (i : DoorInputs) : Bool := i.openSwitch && i.closedSwitch

/-- ARMED, OPENING or OPEN_HELD: the states a release takes a door out of (R92, R105). -/
def DoorState.heldOpen : DoorState → Bool
  | .armed => true
  | .opening => true
  | .openHeld => true
  | .closed => false
  | .closing => false
  | .obstructed => false
  | .fault => false
  | .isolated => false

/-- The slot that guards a direction of an axis: 2a lower, 2a + 1 raise (R113). -/
def slotOf (a : Fin 4) : Direction → Fin 16
  | .raise => ⟨2 * a.val + 1, by omega⟩
  | .lower => ⟨2 * a.val, by omega⟩

namespace Machine

/-! ## Axes -/

/-- The limit switch of a direction of an axis, debounced. -/
def State.limit (s : State) (a : Fin 4) (d : Direction) : Bool := s.inputs.levels.limit a d

/-- The present result of the slot for a direction (R22). -/
def State.permits (s : State) (a : Fin 4) (d : Direction) : Bool :=
  s.evaluator.slots[slotOf a d].result

/-- The record of the axis's angle channel as it stands. -/
def State.angle (s : State) (a : Fin 4) : ChannelRecord := s.channels[s.settings.axes[a].angleCh]

/-- The record of the axis's pressure channel as it stands. -/
def State.pressure (s : State) (a : Fin 4) : ChannelRecord := s.channels[s.settings.axes[a].pressCh]

/-- What a notice carries of a channel's record (R9). -/
def ChannelRecord.reading (r : ChannelRecord) : Reading := ⟨r.scaled, r.valid⟩

/-- The AXIS_SENSOR condition: fitted, and either channel INVALID (R43). -/
def State.sensorLost (s : State) (a : Fin 4) : Bool :=
  s.settings.axes[a].fitted && !((s.angle a).valid && (s.pressure a).valid)

/-- The side of a command's sign: RAISE above 0, LOWER below, none at 0 (R58). -/
def sideOf (c : Int) : Option Direction :=
  if 0 < c then some .raise else if c < 0 then some .lower else none

/-- A motion is running: its record has no end time (R19). -/
def AxisRecord.running (x : AxisRecord) : Bool :=
  match x.motion with
  | some m => m.finish.isNone
  | none => false

/-! ## Stations -/

/-- The holder of an axis. -/
def State.holder (s : State) (a : Fin 4) : Option Link := s.station.auth[a].holder

/-- The link is the holder of the axis. -/
def State.holds (s : State) (l : Link) (a : Fin 4) : Bool := decide (s.holder a = some l)

/-- The link is at SERVICE level. -/
def State.atService (s : State) (l : Link) : Bool := decide (s.station.level.get l = .service)

/-- The deck-hold claim set is not empty. -/
def Station.held (st : Station) : Bool := st.claims.bridge || st.claims.localLink

/-- Some axis is active, as the station controller holds it (R77, R78). -/
def Station.someActive (st : Station) : Bool := st.active.toList.any id

/-! ## Doors and zones -/

/-- A door is fitted: its kind is not NONE (R85). -/
def State.doorFitted (s : State) (d : Fin 32) : Bool := decide (s.settings.doors[d].kind ≠ .absent)

/-- The door belongs to the zone and is fitted (R88). -/
def State.doorOfZone (s : State) (z : Fin 8) (d : Fin 32) : Bool :=
  s.doorFitted d && decide (s.settings.doors[d].zone = z)

/-- The doors of a zone, ascending. -/
def State.zoneDoors (s : State) (z : Fin 8) : List (Fin 32) :=
  (List.finRange 32).filter (s.doorOfZone z)

/-- ZONE_OPEN_COUNT: fitted doors of the zone in any state other than CLOSED (R101). -/
def State.zoneOpenCount (s : State) (z : Fin 8) : Nat :=
  ((s.zoneDoors z).filter fun d => decide (s.doors[d].state ≠ .closed)).length

/-- SEA_OPEN_COUNT: fitted sea-closed doors neither CLOSED nor ISOLATED (R101). -/
def State.seaOpenCount (s : State) : Nat :=
  ((List.finRange 32).filter fun d =>
    s.doorFitted d && s.settings.doors[d].seaClosed &&
    decide (s.doors[d].state ≠ .closed) && decide (s.doors[d].state ≠ .isolated)).length

/-- The part of the alarm condition FIRE z makes (R102). -/
def State.fireHolds (s : State) (z : Fin 8) : Bool :=
  s.settings.zones[z].fireEnabled && s.zones[z].fire

/-- A zone's alarm condition (R102). -/
def State.zoneCondition (s : State) (z : Fin 8) : Bool := s.fireHolds z || s.zones[z].manual

/-- The lanes of the zones in ALARM together (R126). -/
def State.alarmLanes (s : State) : LaneSet :=
  (List.finRange 8).foldl
    (fun ls z => if s.zones[z].alarm then ls ||| s.settings.zones[z].lanes else ls) 0

/-- Lane `n` alone. -/
def laneBit (n : Fin 16) : LaneSet := BitVec.twoPow 16 n.val

/-- Lane `n` belongs to the set. -/
def laneIn (ls : LaneSet) (n : Fin 16) : Bool := ls.getLsbD n.val

/-! ## Alarm lines -/

/-- Unacknowledged (09, 9.2). -/
def EntryState.unacked : EntryState → Bool
  | .activeUnacked => true
  | .returnedUnacked => true
  | .activeAcked => false

/-- Active (09, 9.2). -/
def EntryState.isActive : EntryState → Bool
  | .activeUnacked => true
  | .activeAcked => true
  | .returnedUnacked => false

/-- The ALARM line is asserted while an entry of a class routed to it is unacknowledged (R157). -/
def alarmDue (r : Routing) (es : List AlarmEntry) : Bool :=
  es.any fun e => r.alarmEnable[classOf e.source] && e.state.unacked

/-- The first condition of the STOP line: an active entry, or the entry of a momentary source, of a
class routed to it (R158). -/
def stopHeld (r : Routing) (es : List AlarmEntry) : Bool :=
  es.any fun e => r.stopEnable[classOf e.source] && (e.state.isActive || momentaryCode e.source)

/-- The STOP line, from the ALARM line the same act has left (R158). -/
def stopDue (r : Routing) (es : List AlarmEntry) (alarm : Bool) : Bool :=
  stopHeld r es || (r.stopFollowsAlarm && alarm)

/-! ## Settings store -/

/-- A store is in flight (R178). -/
def Store.busy (st : Store) : Bool := st.inFlight.isSome

/-! ## Board scanner -/

/-- The flash phase is LIT while the deck clock divided by 500 is even (R143). -/
def flashLitAt (t : DeckTime) : Bool := decide (t.toNat / 500 % 2 = 0)

end Machine

end Sys2Proof
end

