-- ==== Sys2Proof/Machine/Operands.lean ====
section
/-! DEFINITION. The operands of requests: numbers that name a thing, quantities clamped to their range
(R168), and the object data of SETTINGS WRITE taken or refused by the rule that owns the object. -/

namespace Sys2Proof

namespace Machine

/-! ## Clamping (R168) -/

/-- A quantity clamped to a range (R168). -/
def clamp (lo hi n : Nat) : Nat := min (max n lo) hi

/-- A signed quantity clamped to a range (R168). -/
def clampInt (lo hi i : Int) : Int := min (max i lo) hi

/-- A vector of quantities, each clamped. -/
def clampAll {n : Nat} (hi : Nat) (v : Vector Nat n) : Vector Nat n :=
  Vector.ofFn fun i => min v[i] hi

/-- The pair L_lo, L_hi as taken (R18). -/
def limitsTaken (lo hi : Int) : Int × Int :=
  let lo := clampInt (-9000) 9000 lo
  let hi := clampInt (-9000) 9000 hi
  if lo < hi then (lo, hi)
  else if lo + 1 ≤ 9000 then (lo, lo + 1)
  else (8999, 9000)

/-- The pair Dmin, Dmax as taken (R18). -/
def demandsTaken (dMin dMax : Nat) : Nat × Nat :=
  let hi := min dMax 4095
  (min (min dMin 4095) hi, hi)

/-- A filter depth as taken: the largest of 1, 2, 4, 8 not above it, or 1 (R7). -/
def depthTaken (n : Nat) : Nat := if 8 ≤ n then 8 else if 4 ≤ n then 4 else if 2 ≤ n then 2 else 1

/-- Flags taken together: `none` where one is neither 0 nor 1 (R156, R172). -/
def flagsTaken {n : Nat} (v : Vector Nat n) : Option (Vector Bool n) :=
  if v.toList.all (fun x => (boolOfCode x).isSome) then
    some (Vector.ofFn fun i => decide (v[i] = 1))
  else none

end Machine

open Machine

/-! ## Object data taken (R168, R176) -/

/-- AXIS data as taken, or `none` where a value names nothing or is an undefined code (R18, R176). -/
def AxisData.taken (d : AxisData) : Option AxisSettings := do
  let fitted ← boolOfCode d.fitted
  let angleCh ← finOf? 12 d.angleCh
  let pressCh ← finOf? 12 d.pressCh
  let tableMode ← TableMode.ofCode d.tableMode
  let loopMode ← LoopMode.ofCode d.loopMode
  let warningPattern ← finOf? 64 d.warningPattern
  some {
    fitted, angleCh, pressCh, tableMode, loopMode, warningPattern
    lLo := (limitsTaken d.lLo d.lHi).1
    lHi := (limitsTaken d.lLo d.lHi).2
    inBand := clamp 5 500 d.inBand
    settleCount := clamp 1 50 d.settleCount
    kp := clamp 0 255 d.kp
    ff := clampAll 4095 d.ff
    dMin := (demandsTaken d.dMin d.dMax).1
    dMax := (demandsTaken d.dMin d.dMax).2
    slew := clamp 1 4095 d.slew
    stopSlew := clamp 1 4095 d.stopSlew
    motionLimit := clamp 10 600 d.motionLimit
    warningTime := min d.warningTime 31 + 1
    warningLanes := d.warningLanes
    prt := clampAll 32767 d.prt
    marginHi := clamp 0 32767 d.marginHi
    marginLo := clamp 0 32767 d.marginLo }

/-- CHANNEL data as taken (R7). -/
def ChannelData.taken (d : ChannelData) : Option ChannelSettings := do
  let enabled ← boolOfCode d.enabled
  some {
    enabled
    rawMin := min d.rawMin 4095
    rawMax := max (min d.rawMax 4095) (min d.rawMin 4095)
    depth := depthTaken d.depth
    zero := min d.zero 4095
    gain := clampInt (-32768) 32767 d.gain
    offset := clampInt (-32768) 32767 d.offset }

/-- DOOR data as taken (R85). -/
def DoorData.taken (d : DoorData) : Option DoorSettings := do
  let kind ← DoorKind.ofCode d.kind
  let zone ← finOf? 8 d.zone
  let seaClosed ← boolOfCode d.seaClosed
  some {
    kind, zone, seaClosed
    closeLimit := clamp 5 120 d.closeLimit
    pause := clamp 1 30 d.pause
    maxRetries := clamp 0 7 d.maxRetries }

/-- ZONE data as taken (R104). -/
def ZoneData.taken (d : ZoneData) : Option ZoneSettings := do
  let fireEnabled ← boolOfCode d.fireEnabled
  let evacPattern ← finOf? 64 d.evacPattern
  some { lanes := d.lanes, fireEnabled, evacPattern }

/-- ROUTING data as taken (R156). -/
def RoutingData.taken (d : RoutingData) : Option Routing := do
  let alarmEnable ← flagsTaken d.alarmEnable
  let stopEnable ← flagsTaken d.stopEnable
  let stopFollowsAlarm ← boolOfCode d.stopFollowsAlarm
  some { alarmEnable, stopEnable, stopFollowsAlarm }

/-! ## Object data as SETTINGS READ and the echo of SETTINGS WRITE carry it (12.8) -/

def AxisSettings.data (x : AxisSettings) : List Byte :=
  [boolByte x.fitted, byte x.angleCh, byte x.pressCh] ++ beInt16 x.lLo ++ beInt16 x.lHi ++
  be16 x.inBand ++ [byte x.settleCount, byte x.kp, byte x.tableMode.code, byte x.loopMode.code] ++
  be16 x.dMin ++ be16 x.dMax ++ be16 x.slew ++ be16 x.stopSlew ++ be16 x.motionLimit ++
  [byte (x.warningTime - 1)] ++ be16 x.warningLanes.toNat ++ [byte x.warningPattern] ++
  be16 x.marginHi ++ be16 x.marginLo ++ x.ff.toList.flatMap be16 ++ x.prt.toList.flatMap be16

def ChannelSettings.data (x : ChannelSettings) : List Byte :=
  [boolByte x.enabled] ++ be16 x.rawMin ++ be16 x.rawMax ++ [byte x.depth] ++ be16 x.zero ++
  beInt16 x.gain ++ beInt16 x.offset

def DoorSettings.data (x : DoorSettings) : List Byte :=
  [byte x.kind.code, byte x.zone, boolByte x.seaClosed, byte x.closeLimit, byte x.pause,
   byte x.maxRetries]

def ZoneSettings.data (x : ZoneSettings) : List Byte :=
  be16 x.lanes.toNat ++ [boolByte x.fireEnabled, byte x.evacPattern]

def Routing.data (x : Routing) : List Byte :=
  x.alarmEnable.toList.map boolByte ++ x.stopEnable.toList.map boolByte ++
  [boolByte x.stopFollowsAlarm]

def OutputSettings.data (x : OutputSettings) : List Byte :=
  [byte x.source.kindCode, byte x.source.index, boolByte x.invert, boolByte x.powerOn]

/-- Source kind, index, comparison and constant (12.8, TERM; 12.4). -/
def TermSettings.data (x : TermSettings) : List Byte :=
  [byte (x.source.elim 0 Source.kindCode), byte (x.source.elim 0 Source.index), byte x.cmp.code] ++
  beInt16 x.const

namespace Machine

/-! ## Operands checked against the state -/

/-- The axis a request names, if there is one and it is fitted (R17). -/
def State.fittedAxis? (s : State) (n : Nat) : Option (Fin 4) :=
  match finOf? 4 n with
  | some a => if s.settings.axes[a].fitted then some a else none
  | none => none

/-- The door a request names, if there is one and its kind is not NONE (R85). -/
def State.fittedDoor? (s : State) (n : Nat) : Option (Fin 32) :=
  match finOf? 32 n with
  | some d => if s.doorFitted d then some d else none
  | none => none

/-- The output source names something that exists: an AXIS_ACTIVE source names a fitted axis (R161). -/
def State.outSourceExists (s : State) : OutSource → Bool
  | .axisActive a => s.settings.axes[a].fitted
  | .fixed => true
  | .input _ => true
  | .permissive _ => true
  | .zoneAlarm _ => true
  | .alarmLine => true

/-- OUTPUT data as taken (R161). -/
def State.outputTaken (s : State) (d : OutputData) : Option OutputSettings := do
  let source ← OutSource.ofCode d.kind d.index
  let invert ← boolOfCode d.invert
  let powerOn ← boolOfCode d.powerOn
  if s.outSourceExists source then some { source, invert, powerOn } else none

/-- The term source names something that exists: an AXIS_STATE source a fitted axis, a DOOR_STATE
source a fitted door (R117). -/
def State.sourceExists (s : State) : Source → Bool
  | .axisState a => s.settings.axes[a].fitted
  | .doorState d => s.doorFitted d
  | .channel _ => true
  | .zoneAlarm _ => true
  | .zoneOpenCount _ => true
  | .seaOpenCount => true
  | .input _ => true
  | .laneButton _ => true
  | .outputLine _ => true
  | .deckHold => true

/-- TERM data as taken; for kind NONE the rest is not checked and is taken as 0, EQ and 0 (R117). -/
def State.termTaken (s : State) (d : TermData) : Option TermSettings :=
  if d.kind = 0 then some noTerm
  else do
    let cmp ← Comparison.ofCode d.cmp
    let source ← Source.ofCode d.kind d.index
    if s.sourceExists source then some { source := some source, cmp, const := d.const } else none

/-- PERMISSIVE WRITE's entries as taken: `none` where a term number is above 63 or an invert flag is
neither 0 nor 1 (R118). -/
def entriesTaken : List (Nat × Nat) → Option (List PermEntry)
  | [] => some []
  | (t, v) :: rest => do
    let term ← finOf? 64 t
    let invert ← boolOfCode v
    let es ← entriesTaken rest
    some ({ term, invert } :: es)

/-- Pairs of term number and invert flag, in the order written (12.4, 12.8). -/
def entriesData (es : List PermEntry) : List Byte :=
  es.flatMap fun e => [byte e.term, boolByte e.invert]

end Machine

end Sys2Proof
end

