-- ==== Sys2Proof/Machine/Permissives.lean ====
section
/-! DEFINITION. The permissive evaluator (06): term values, slot results, the loop test, and the events
and writes that act on them. -/

namespace Sys2Proof.Machine

/-! ## Values -/

/-- The present value of a source, read from the block that owns it (06, 6.1.1). -/
def State.sourceValue (s : State) : Source → Reading
  | .channel k => s.channels[k].reading
  | .axisState a => ⟨s.axes[a].state.code, true⟩
  | .doorState d => ⟨s.doors[d].state.code, true⟩
  | .zoneAlarm z => ⟨s.zones[z].alarm.toNat, true⟩
  | .zoneOpenCount z => ⟨s.openCounts.zone[z], true⟩
  | .seaOpenCount => ⟨s.openCounts.sea, true⟩
  | .input n => ⟨s.inputs.levels.gi[n].toNat, true⟩
  | .laneButton n => ⟨s.scanner.buttons[n].pressed.toNat, true⟩
  | .outputLine k => ⟨s.alarms.lines[k].level.toNat, true⟩
  | .deckHold => ⟨s.station.hold.code, true⟩

/-- The comparison of a source value with a constant (R110). -/
def compares (c : Comparison) (v k : Int) : Bool :=
  match c with
  | .eq => decide (v = k)
  | .ne => decide (v ≠ k)
  | .lt => decide (v < k)
  | .ge => decide (k ≤ v)
  | .bitSet => decide (BitVec.ofInt 16 v &&& BitVec.ofInt 16 k ≠ 0)
  | .bitClr => decide (BitVec.ofInt 16 v &&& BitVec.ofInt 16 k = 0)

/-- A term's value from a value of its source (R110, R111): kind NONE and an INVALID channel are
FALSE. -/
def termValue (t : TermSettings) (r : Reading) : Bool :=
  match t.source with
  | none => false
  | some (.channel _) => r.valid && compares t.cmp r.value t.const
  | some _ => compares t.cmp r.value t.const

/-- A term's value from its source's present value. -/
def State.freshValue (s : State) (t : Fin 64) : Bool :=
  let x := s.settings.terms[t]
  match x.source with
  | none => false
  | some src => termValue x (s.sourceValue src)

/-- What an entry contributes (R112). -/
def contributes (values : Vector Bool 64) (e : PermEntry) : Bool :=
  values[e.term] != e.invert

/-- A slot's result: the AND of its entries, FALSE with none (R112). -/
def slotResult (es : List PermEntry) (values : Vector Bool 64) : Bool :=
  !es.isEmpty && es.all (contributes values)

/-! ## Handing results on -/

/-- The direction a slot of an axis guards (R113). -/
def slotDirection (p : Fin 16) : Direction := if p.val % 2 = 1 then .raise else .lower

/-- The axis a slot guards, if it is one of slots 0 to 7 (R113). -/
def slotAxis (p : Fin 16) : Option (Fin 4) :=
  if h : p.val < 8 then some ⟨p.val / 2, by omega⟩ else none

/-- The consumers of a slot's change (R115): the axis, then the alarm unit (order: log entry 54). -/
def slotNotices (p : Fin 16) (result : Bool) : List Instr :=
  (match slotAxis p with
    | some a => [.permissiveSlotChange a (slotDirection p) result]
    | none => []) ++ [.outputLineSourceChange (.permissive p) result]

/-- The slot after an evaluation: a changed result sets its last change time (R114). -/
def Slot.renew (x : Slot) (result : Bool) (now : DeckTime) : Slot :=
  if result = x.result then x else ⟨result, now⟩

/-- One changed slot is handed on and reported; no source means a write (R115, R116). -/
def State.announceSlot (s : State) (src : Option Source) (p : Fin 16) : State :=
  let r := s.evaluator.slots[p].result
  (s.hand (slotNotices p r)).report (.permissiveChanged p r src)

/-- The slots whose result differs, ascending. -/
def changedSlots (old new : Vector Slot 16) : List (Fin 16) :=
  (List.finRange 16).filter fun p => old[p].result != new[p].result

/-- The evaluator takes new term values, recomputes the slots `touched` names and hands on each changed
result in ascending slot order (R114 to R116). -/
def State.reslot (s : State) (values : Vector Bool 64) (touched : Fin 16 → Bool)
    (src : Option Source) : State :=
  let slots := Vector.ofFn fun p =>
    if touched p then
      s.evaluator.slots[p].renew (slotResult s.settings.permissives[p] values) s.clock
    else s.evaluator.slots[p]
  (changedSlots s.evaluator.slots slots).foldl (State.announceSlot · src)
    { s with evaluator := ⟨values, slots⟩ }

/-- The slot lists a term whose value differs (R114, step 2). -/
def State.listsChanged (s : State) (values : Vector Bool 64) (p : Fin 16) : Bool :=
  s.settings.permissives[p].any fun e => s.evaluator.values[e.term] != values[e.term]

/-- The term values with every term on `src` recompared (R114, step 1). -/
def State.recompared (s : State) (src : Source) (v : Reading) : Vector Bool 64 :=
  Vector.ofFn fun t =>
    if s.settings.terms[t].source = some src then termValue s.settings.terms[t] v
    else s.evaluator.values[t]

/-- SOURCE_CHANGE (R114). -/
def execSourceChange (src : Source) (v : Reading) (s : State) : Result :=
  runEvent (.sourceChange src v) s fun s =>
    s.reslot (s.recompared src v) (s.listsChanged (s.recompared src v)) (some src)

/-! ## The loop test (R119) -/

/-- The slots slot `p` leads to through the output lines, as a set. -/
def leadsTo (x : Settings) (p : Fin 16) : BitVec 16 :=
  x.permissives[p].foldl (fun acc e =>
    match x.terms[e.term].source with
    | some (.outputLine k) =>
      match x.outputs[k].source with
      | .permissive q => acc ||| BitVec.twoPow 16 q.val
      | _ => acc
    | _ => acc) 0

/-- A set of slots with those they lead to in one step. -/
def widen (leads : Vector (BitVec 16) 16) (r : BitVec 16) : BitVec 16 :=
  (List.finRange 16).foldl (fun acc p => if r.getLsbD p.val then acc ||| leads[p] else acc) r

/-- Some slot can be reached from itself (R119). Sixteen steps reach every slot that can be reached. -/
def looped (x : Settings) : Bool :=
  let leads := Vector.ofFn (leadsTo x)
  (List.finRange 16).any fun p => (Nat.repeat (widen leads) 16 leads[p]).getLsbD p.val

/-! ## Writes -/

/-- The settings become `x` by a write: the unstored-changes flag is set (R176). -/
def State.written (s : State) (x : Settings) : State :=
  { s with settings := x, store := { s.store with unstored := true } }

/-- Slot `p` guards an axis in a state that keeps its slots from being written (R117, R118). -/
def State.slotInUse (s : State) (p : Fin 16) : Bool :=
  match slotAxis p with
  | some a => s.axes[a].state.inUse
  | none => false

/-- The term is listed in a slot of an axis in such a state (R117, check 5). -/
def State.termInUse (s : State) (t : Fin 64) : Bool :=
  (List.finRange 16).any fun p => s.slotInUse p && s.settings.permissives[p].any (·.term = t)

/-- A term written and evaluated (R120). -/
def State.writeTerm (s : State) (t : Fin 64) (x : TermSettings) : State :=
  let u := s.written { s.settings with terms := s.settings.terms.set t x }
  let values := u.evaluator.values.set t (u.freshValue t)
  u.reslot values (u.listsChanged values) none

/-- TERM WRITE (R117, R120). -/
def execTermWrite (l : Link) (tag : Byte) (term : Nat) (data : TermData) (s : State) : Result :=
  runRequest (.termWrite l tag term data) l tag s fun s =>
    if !s.atService l then deny s .level
    else match finOf? 64 term, s.termTaken data with
      | some t, some x =>
        if s.store.busy then deny s .busy
        else if s.termInUse t then deny s .busy
        else if looped { s.settings with terms := s.settings.terms.set t x } then deny s .state
        else done (s.writeTerm t x) (byte t :: x.data)
      | _, _ => deny s .badField

/-- A permissive list written and evaluated (R120). -/
def State.writeList (s : State) (p : Fin 16) (es : List PermEntry) : State :=
  let u := s.written { s.settings with permissives := s.settings.permissives.set p es }
  u.reslot u.evaluator.values (fun q => decide (q = p)) none

/-- PERMISSIVE WRITE (R118, R120). -/
def execPermissiveWrite (l : Link) (tag : Byte) (slot : Nat) (entries : List (Nat × Nat))
    (s : State) : Result :=
  runRequest (.permissiveWrite l tag slot entries) l tag s fun s =>
    if !s.atService l then deny s .level
    else if 8 < entries.length then deny s .badLength
    else match finOf? 16 slot, entriesTaken entries with
      | some p, some es =>
        if s.store.busy then deny s .busy
        else if s.slotInUse p then deny s .busy
        else if looped { s.settings with permissives := s.settings.permissives.set p es } then
          deny s .state
        else
          let t := s.writeList p es
          done t [boolByte t.evaluator.slots[p].result]
      | _, _ => deny s .badField

/-! ## Evaluation afresh -/

/-- Every term value from the present values of the sources (R122, R123). -/
def State.freshValues (s : State) : Vector Bool 64 := Vector.ofFn s.freshValue

end Sys2Proof.Machine
end

