-- ==== Sys2Proof/Machine/Boards.lean ====
section
/-! DEFINITION. The board scanner (08): frames, winners, shown records, buttons and the pattern
table. -/

namespace Sys2Proof.Machine

/-! ## Winners and shown records -/

/-- Call `c` ranks before `d`: higher priority, then the earlier admitted (R141). -/
def outranks (c d : Call) : Bool :=
  decide (d.priority < c.priority) ||
  (decide (c.priority = d.priority) && decide (c.sequence < d.sequence))

/-- The better of the winner so far and the next call, for lane `b` (R141). -/
def betterFor (b : Fin 16) (best : Option Call) (c : Call) : Option Call :=
  if !laneIn c.lanes b then best
  else match best with
    | none => some c
    | some d => if outranks c d then some c else best

/-- The winner of board `b` (R141). -/
def winnerOf (cs : List Call) (b : Fin 16) : Option Call := cs.foldl (betterFor b) none

/-- A winner of priority 6 or 7 flashes (R143). -/
def darkFor (w : Option Call) (flashLit : Bool) : Bool :=
  match w with
  | some c => decide (6 ≤ c.priority) && !flashLit
  | none => false

/-- The shown record a frame start loads on a fitted board (R142, R143). -/
def loadShown (patterns : Vector Segments 64) (w : Option Call) (flashLit : Bool) : Shown :=
  let p : Fin 64 := w.elim 0 (·.pattern)
  { winner := w.map fun c => (c.number, c.priority)
    pattern := some p
    lit := !darkFor w flashLit
    segments := if darkFor w flashLit then 0 else patterns[p] }

/-! ## Buttons -/

/-- What a change of a button's debounced state hands on (R146): to the evaluator, then to the call
controller (order: log entry 54). -/
def buttonNotices (n : Fin 16) (pressed : Bool) : List Instr :=
  [.sourceChange (.laneButton n) ⟨pressed.toNat, true⟩] ++
  (if pressed then [.laneAcknowledgement n] else [])

/-- A button's debounce state written. -/
def State.setButton (s : State) (n : Fin 16) (b : Button) : State :=
  { s with scanner := { s.scanner with buttons := s.scanner.buttons.set n b } }

/-- A button's debounced state changes: it is handed on and reported (R146). -/
def State.changeButton (s : State) (n : Fin 16) (pressed : Bool) : State :=
  ((s.setButton n ⟨pressed, 0⟩).hand (buttonNotices n pressed)).report (.laneButton n pressed)

/-- One sample of one button (R145). -/
def State.sampleButton (s : State) (n : Fin 16) (level : Bool) : State :=
  let b := s.scanner.buttons[n]
  if level = b.pressed then s.setButton n { b with count := 0 }
  else if b.count + 1 < 3 then s.setButton n { b with count := b.count + 1 }
  else s.changeButton n level

/-! ## Frames -/

/-- A board that has ceased to be fitted (R140): no winner, dark with no pattern, its button released
with count 0, a pressed one handed on as a release. -/
def State.clearBoard (s : State) (b : Fin 16) : State :=
  let t := { s with scanner := { s.scanner with shown := s.scanner.shown.set b Shown.dark } }
  if s.scanner.buttons[b].pressed then t.changeButton b false else t.setButton b ⟨false, 0⟩

/-- The boards from `n` up are cleared, in ascending number (log entry 34). -/
def State.clearBoardsFrom (s : State) (n : Nat) : State :=
  ((List.finRange 16).filter fun b => n ≤ b.val).foldl State.clearBoard s

/-- The fitted boards are loaded and the frame begins (R139, R142, R143). -/
def State.loadBoards (s : State) : State :=
  let lit := flashLitAt s.clock
  { s with scanner :=
    { s.scanner with
      shown := Vector.ofFn fun b =>
        if b.val < s.settings.boards then
          loadShown s.settings.patterns (winnerOf s.calls.table b) lit
        else s.scanner.shown[b]
      frame := some ⟨s.settings.boards, s.settings.blanking, 0⟩
      flashLit := lit } }

/-- The board selected and the segment levels presented to it: millisecond by millisecond from board
N - 1 down to board 0, and none in the blanking interval or with no frame (R139). -/
def Scanner.driven (x : Scanner) : Option (Fin 16 × Segments) :=
  match x.frame with
  | none => none
  | some f =>
    if f.position < f.boards then
      (finOf? 16 (f.boards - 1 - f.position)).map fun b => (b, x.shown[b].segments)
    else none

/-- With no frame running because N was 0, an N of 1 or more starts the first frame at once, and once
(R140). -/
def State.firstFrame (s : State) (was : Nat) : List Instr :=
  if s.scanner.frame = none ∧ was = 0 ∧ 1 ≤ s.settings.boards ∧ .boardFrameStart ∉ s.handed then
    [.boardFrameStart]
  else []

/-- BOARD_FRAME_START. With N = 0 there are no frames (R139, R140, R142). One from the queue begins a frame
whatever frame is in progress (log entry 32). -/
def execBoardFrameStart (s : State) : Result :=
  runEvent .boardFrameStart s fun s =>
    if s.settings.boards = 0 then s else (s.clearBoardsFrom s.settings.boards).loadBoards

/-- LAST_SCAN_FRAME_END: with N = 0 the frame in progress ends and no other follows (R140). One from the
queue ends it at any position (log entry 32). -/
def execLastScanFrameEnd (s : State) : Result :=
  runEvent .lastScanFrameEnd s fun s =>
    if s.settings.boards ≠ 0 then s
    else
      let t := s.clearBoardsFrom 0
      { t with scanner := { t.scanner with frame := none } }

/-- The board has a button that is sampled: it is fitted in the frame in progress (R139, R145). -/
def State.sampled (s : State) (b : Fin 16) : Bool :=
  match s.scanner.frame with
  | some f => decide (b.val < f.boards)
  | none => false

/-- BUTTON_SAMPLE: the buttons of the fitted boards, in ascending lane (R145, R146). -/
def execButtonSample (levels : Vector Bool 16) (s : State) : Result :=
  runEvent (.buttonSample levels) s fun s =>
    ((List.finRange 16).filter s.sampled).foldl (fun s n => s.sampleButton n levels[n]) s

/-- LANE_BUTTON_CHANGE: the third sample at the new level (R145, R146; log entry 34). -/
def execLaneButtonChange (n : Fin 16) (pressed : Bool) (s : State) : Result :=
  runEvent (.laneButtonChange n pressed) s fun s =>
    if s.sampled n && (s.scanner.buttons[n].pressed != pressed) then s.changeButton n pressed else s

/-! ## The pattern table -/

/-- A pattern entry written (R144). -/
def State.writePattern (s : State) (p : Fin 64) (segments : Segments) : State :=
  s.written { s.settings with patterns := s.settings.patterns.set p segments }

/-- PATTERN WRITE (R144). -/
def execPatternWrite (l : Link) (tag : Byte) (pattern : Nat) (segments : Segments) (s : State) :
    Result :=
  runRequest (.patternWrite l tag pattern segments) l tag s fun s =>
    if !s.atService l then deny s .level
    else match finOf? 64 pattern with
      | none => deny s .badField
      | some p => if s.store.busy then deny s .busy else done (s.writePattern p segments) []

end Sys2Proof.Machine
end

