-- ==== Sys2Proof/Machine/Stations.lean ====
section
/-! DEFINITION. The station controller (04): authority over axes, deck hold and service level. -/

namespace Sys2Proof.Machine

/-! ## Authority -/

/-- An axis changes holder, in one act with the end of its pending request; the change is reported and
handed to the axis (R69). -/
def State.passHolder (s : State) (a : Fin 4) (new : Option Link) (cause : StationCause)
    (reason : HolderReason) : State :=
  ((s.modAuth a fun _ => ⟨new, none⟩).report (.stationChanged a (s.holder a) new cause)).hand
    [.holderChange a reason]

/-- A pending request is removed and its answer queued on one link (R73, R74, R76). -/
def State.answerRequest (s : State) (a : Fin 4) (l : Link) (answer : StationAnswer) : State :=
  (s.modAuth a fun x => { x with request := none }).reportOn l (.stationAnswer a answer)

/-- TAKE STATION is a priority take (R71). -/
def State.priorityTake (s : State) (l : Link) (a : Fin 4) : Bool :=
  decide (l = .localLink) && s.inputs.levels.localPriority && s.holds .bridge a

/-- A pending request is recorded against the holder `h` (R70). -/
def State.requestStation (s : State) (l h : Link) (a : Fin 4) : State :=
  (s.modAuth a fun x => { x with request := some ⟨l, s.clock, Config.stationDeadline⟩ }).reportOn h
    (.stationRequested a l s.clock)

/-- TAKE STATION of a fitted axis (R70, R71). The axis state tested is the axis record's (log entry
37). -/
def State.takeAxis (s : State) (l : Link) (a : Fin 4) : State × ReplyData :=
  if s.priorityTake l a then done (s.passHolder a (some l) .priority .passed) []
  else match s.holder a, s.station.auth[a].request with
    | none, _ => done (s.passHolder a (some l) .granted .passed) []
    | some h, r =>
      if h = l then done s []
      else if r.isSome then deny s .state
      else if s.axes[a].state.active then deny s .busy
      else (s.requestStation l h a, .accepted [])

/-- TAKE STATION (R70, R71). -/
def execTakeStation (l : Link) (tag : Byte) (axis : Nat) (s : State) : Result :=
  runRequest (.takeStation l tag axis) l tag s fun s =>
    match s.fittedAxis? axis with
    | none => deny s .badField
    | some a => s.takeAxis l a

/-- An answer to a pending request, past its three checks (R72). -/
def State.answering (s : State) (l : Link) (axis : Nat)
    (f : Fin 4 → AuthorityRequest → State × ReplyData) : State × ReplyData :=
  match s.fittedAxis? axis with
  | none => deny s .badField
  | some a =>
    if !s.holds l a then deny s .noAuthority
    else match s.station.auth[a].request with
      | none => deny s .notFound
      | some r => f a r

/-- YIELD STATION (R72). -/
def execYieldStation (l : Link) (tag : Byte) (axis : Nat) (s : State) : Result :=
  runRequest (.yieldStation l tag axis) l tag s fun s =>
    s.answering l axis fun a r => done (s.passHolder a (some r.requester) .yielded .passed) []

/-- REFUSE STATION (R73). -/
def execRefuseStation (l : Link) (tag : Byte) (axis : Nat) (s : State) : Result :=
  runRequest (.refuseStation l tag axis) l tag s fun s =>
    s.answering l axis fun a r => done (s.answerRequest a r.requester .refused) []

/-- DEADLINE_EXPIRY (R74). -/
def execDeadlineExpiry (a : Fin 4) (s : State) : Result :=
  runEvent (.deadlineExpiry a) s fun s =>
    match s.station.auth[a].request with
    | none => s
    | some r => s.answerRequest a r.requester .timedOut

/-- The loss of link `l` at one axis: as holder (R75), or as requester (R76). -/
def State.lossAtAxis (s : State) (l : Link) (a : Fin 4) : State :=
  match s.holder a, s.station.auth[a].request with
  | none, _ => s
  | some h, none => if h = l then s.passHolder a none .linkLost .linkLost else s
  | some h, some r =>
    if h = l then s.passHolder a (some r.requester) .lostToRequester .linkLost
    else if r.requester = l then s.answerRequest a h .requesterLost
    else s

/-- The loss of link `l` at every axis record, ascending (R75, R76); the axes are told in that order too
(log entry 54). -/
def State.loseLink (s : State) (l : Link) : State :=
  (List.finRange 4).foldl (fun s a => s.lossAtAxis l a) s

/-- STATION_LINK_LOSS (R75, R76). -/
def execStationLinkLoss (l : Link) (s : State) : Result :=
  runEvent (.stationLinkLoss l) s fun s => s.loseLink l

/-- A loss of link `l` still on its way to the station controller is taken: a link that returns finds its
authority and its requests gone (R75, R76, R169; log entry 2). -/
def State.endLoss (s : State) (l : Link) : State :=
  if .stationLinkLoss l ∈ s.handed then (s.taken (.stationLinkLoss l)).loseLink l else s

/-! ## Deck hold -/

/-- The claim set in one byte (12.3). -/
def claimsByte (c : Pair Bool) : Byte := bitsByte [c.bridge, c.localLink]

/-- The claim set and hold status a reply carries (R77, R79). -/
def State.holdData (s : State) : List Byte :=
  [claimsByte s.station.claims, byte s.station.hold.code]

/-- The hold status changes and is handed to the permissive evaluator (04, 4.2). -/
def State.setHold (s : State) (h : HoldStatus) : State :=
  { s with station := { s.station with hold := h } }.hand [.sourceChange .deckHold ⟨h.code, true⟩]

/-- A new claim set, with its HOLD CLAIMS report. -/
def State.reportClaims (s : State) : State := s.report (.holdClaims s.station.claims s.station.hold)

/-- The hold is established: its one HOLD ESTABLISHED report (R77, R78). -/
def State.reportEstablished (s : State) : State :=
  s.report (.holdEstablished s.station.claims s.clock)

/-- The claim set becomes `c`. -/
def State.setClaims (s : State) (c : Pair Bool) : State :=
  { s with station := { s.station with claims := c } }

/-- The active flags after a change of axis state is seen. -/
def Station.sees (x : Station) (a : Fin 4) (new : AxisState) : Station :=
  { x with active := x.active.set a new.active }

/-- A notice of a change of axis state. -/
def seenNotice : Instr → Bool
  | .axisStateChangeSeen .. => true
  | _ => false

/-- The station controller after one notice. -/
def Station.hear (x : Station) : Instr → Station
  | .axisStateChangeSeen a new => x.sees a new
  | _ => x

/-- The changes of axis state handed to the station controller before the present act, seen in their order
(R77, R78; log entry 2). -/
def State.hearAxes (s : State) : State :=
  { s.takenFirst seenNotice with station := s.handed.foldl Station.hear s.station }

/-- DECK HOLD of a link not yet in the claim set (R77). An axis that has entered an active state before
the hold is found active (R78). The axes are told in ascending number and before the evaluator hears of the
status (order: log entry 54). -/
def State.claim (s : State) (l : Link) : State :=
  let t := s.setClaims (s.station.claims.set l true)
  if s.station.held then t.reportClaims
  else
    let t := t.hearAxes.hand ((List.finRange 4).map Instr.deckHoldNotice)
    if t.station.someActive then (t.setHold .pending).reportClaims
    else (t.setHold .established).reportClaims.reportEstablished

/-- DECK HOLD (R77). -/
def execDeckHold (l : Link) (tag : Byte) (s : State) : Result :=
  runRequest (.deckHold l tag) l tag s fun s =>
    let t := if s.station.claims.get l then s else s.claim l
    done t t.holdData

/-- AXIS_STATE_CHANGE_SEEN (R78). -/
def execAxisStateChangeSeen (a : Fin 4) (new : AxisState) (s : State) : Result :=
  runEvent (.axisStateChangeSeen a new) s fun s =>
    let t := { s with station := s.station.sees a new }
    if t.station.hold = .pending ∧ t.station.someActive = false then
      (t.setHold .established).reportEstablished
    else t

/-- The claim set after a DECK RESUME. -/
def resumed (c : Pair Bool) (l : Link) (both : Bool) : Pair Bool :=
  if both then ⟨false, false⟩ else c.set l false

/-- A DECK RESUME that may be carried out (R79). -/
def State.resume (s : State) (l : Link) (both : Bool) : State :=
  let c := resumed s.station.claims l both
  if c = s.station.claims then s
  else
    let t := s.setClaims c
    (if t.station.held then t else t.setHold .none).reportClaims

/-- DECK RESUME (R79). -/
def execDeckResume (l : Link) (tag : Byte) (both : Nat) (s : State) : Result :=
  runRequest (.deckResume l tag both) l tag s fun s =>
    match boolOfCode both with
    | none => deny s .badField
    | some b =>
      if b && decide (l = .localLink) then deny s .noAuthority
      else done (s.resume l b) (s.resume l b).holdData

/-! ## Service level -/

/-- The notice of the release of the key. -/
def keyNotice : Instr → Bool
  | .serviceKeyRelease => true
  | _ => false

/-- A link goes to SERVICE (R80). A release of the key before it, since asserted again, stands as taken
(log entry 2). -/
def State.raiseLevel (s : State) (l : Link) : State :=
  let t := s.takenFirst keyNotice
  { t with station := { t.station with level := t.station.level.set l .service } }.report
    (.levelChanged l .service .entered)

/-- A link falls to OPERATE: the axes it holds are told (R81), ascending (order: log entry 54). -/
def State.fallLevel (s : State) (l : Link) (cause : LevelCause) : State :=
  ({ s with station := { s.station with level := s.station.level.set l .operate } }.report
    (.levelChanged l .operate cause)).hand
      (((List.finRange 4).filter (s.holds l)).map fun a => .lossOfServiceLevel a l)

/-- A link at SERVICE falls; one at OPERATE stays (R81). -/
def State.dropLevel (s : State) (l : Link) (cause : LevelCause) : State :=
  if s.atService l then s.fallLevel l cause else s

/-- SERVICE ENTER (R80). -/
def execServiceEnter (l : Link) (tag : Byte) (s : State) : Result :=
  runRequest (.serviceEnter l tag) l tag s fun s =>
    if s.atService l then done s []
    else if s.inputs.levels.serviceKey && !s.atService l.other then done (s.raiseLevel l) []
    else deny s .level

/-- SERVICE LEAVE (R81). -/
def execServiceLeave (l : Link) (tag : Byte) (s : State) : Result :=
  runRequest (.serviceLeave l tag) l tag s fun s => done (s.dropLevel l .left) []

/-- SERVICE_KEY_RELEASE (R81). -/
def execServiceKeyRelease (s : State) : Result :=
  runEvent .serviceKeyRelease s fun s =>
    (s.dropLevel .bridge .keyReleased).dropLevel .localLink .keyReleased

end Sys2Proof.Machine
end

