-- ==== Sys2Proof/Machine/Links.lean ====
section
/-! DEFINITION. The link controllers (10): the receiver, supervision, restarts and the taking of
frames. -/

namespace Sys2Proof.Machine

/-! ## The receiver -/

/-- The receiver returns to HUNT with no frame in assembly (R165). -/
def LinkController.hunt (c : LinkController) : LinkController :=
  { c with receiver := .hunt, assembly := none }

/-- The CRC-error counter is increased. -/
def State.countCrc (s : State) (l : Link) : State :=
  s.countLink l fun k => { k with crc := saturate k.crc }

/-- The frame in assembly is discarded with a CRC error counted (R165). -/
def State.discardFrame (s : State) (l : Link) : State := (s.modLink l (·.hunt)).countCrc l

/-- A good frame feeds supervision: the link is UP with its timer started, and leaves LOST with its
source returned; a loss before it has had its effect on the stations (R75, R76, R169). -/
def State.supervise (s : State) (l : Link) : State :=
  let t := (s.endLoss l).modLink l fun c =>
    { c with state := .up, timer := some (s.settings.supervision.get l) }
  if (s.links.get l).state = .lost then t.hand [.alarmSourceChange (.linkLost l) false] else t

/-- A good frame waits, or is lost to overrun (R166). -/
def State.acceptFrame (s : State) (l : Link) (f : Frame) : State :=
  if (s.links.get l).waiting = none then s.modLink l fun c => { c with waiting := some f }
  else s.countLink l fun k => { k with overrun := saturate k.overrun }

/-- The CRC a frame should carry, over LENGTH to PAYLOAD (10.1). -/
def Frame.crc (f : Frame) : BitVec 16 :=
  crc16 (byte (f.payload.length + 2) :: f.kind :: f.tag :: f.payload)

/-- A complete frame is judged by its CRC (R166). -/
def State.completeFrame (s : State) (l : Link) (f : Frame) (crc : BitVec 16) : State :=
  let t := s.modLink l (·.hunt)
  if Frame.crc f = crc then
    (((t.countLink l fun k => { k with good := saturate k.good }).supervise l).acceptFrame l f)
  else t.countCrc l

/-- The frame and the CRC that the bytes of a complete frame spell, from its LENGTH byte on. -/
def frameOf (bs : List Byte) : Frame × BitVec 16 :=
  (⟨bs.getD 1 0, bs.getD 2 0, (bs.drop 3).take (bs.length - 5)⟩,
    BitVec.ofNat 16 (fieldWord bs (bs.length - 2)))

/-- A byte in BODY (R165). -/
def State.bodyByte (s : State) (l : Link) (bs : List Byte) : State :=
  if bs.length < fieldByte bs 0 + 3 then s.modLink l fun c => { c with assembly := some bs }
  else s.completeFrame l (frameOf bs).1 (frameOf bs).2

/-- BYTE_RECEIVED (R165). -/
def execByteReceived (l : Link) (b : Byte) (s : State) : Result :=
  runEvent (.byteReceived l b) s fun s =>
    match (s.links.get l).receiver with
    | .hunt =>
      if b = 0xC3 then s.modLink l fun c => { c with receiver := .length, assembly := some [] } else s
    | .length =>
      if 2 ≤ b.toNat ∧ b.toNat ≤ 250 then
        s.modLink l fun c => { c with receiver := .body, assembly := some [b] }
      else s.discardFrame l
    | .body => s.bodyByte l (((s.links.get l).assembly.getD []) ++ [b])

/-- FRAME_COMPLETE: the last byte of a frame has been stored (R165, R166; log entry 12). -/
def execFrameComplete (l : Link) (kind tag : Byte) (payload : List Byte) (crc : BitVec 16)
    (s : State) : Result :=
  runEvent (.frameComplete l kind tag payload crc) s fun s =>
    s.completeFrame l ⟨kind, tag, payload⟩ crc

/-- FRAME_DISCARD: a LENGTH byte out of range in LENGTH, or a missing stop bit in LENGTH or BODY
(R165). -/
def execFrameDiscard (l : Link) (cause : DiscardCause) (s : State) : Result :=
  runEvent (.frameDiscard l cause) s fun s =>
    match (s.links.get l).receiver, cause with
    | .length, _ => s.discardFrame l
    | .body, .missingStop => s.discardFrame l
    | .body, .badLength => s
    | .hunt, _ => s

/-- GAP_ABORT: a gap of more than 10 ms in LENGTH or BODY (R165). -/
def execGapAbort (l : Link) (s : State) : Result :=
  runEvent (.gapAbort l) s fun s =>
    if (s.links.get l).receiver = .hunt then s
    else (s.modLink l (·.hunt)).countLink l fun k => { k with gap := saturate k.gap }

/-! ## Restart -/

/-- What a restart clears of a link controller (R173); the reply slot and the frame on the line stay. -/
def LinkController.restarted (c : LinkController) (l : Link) : LinkController :=
  { c.hunt with
    waiting := none
    queue := []
    lost := false
    selection := defaultSelection l
    state := .down
    timer := none }

/-- A link restart (R173, R84): the LEVEL CHANGED report of a fall follows the clearing. The alarm source
returns before the axes are told of the fall (order: log entry 54). -/
def State.restartLink (s : State) (l : Link) : State :=
  let t := s.modLink l (·.restarted l)
  (if (s.links.get l).state = .lost then t.hand [.alarmSourceChange (.linkLost l) false]
    else t).dropLevel l .linkRestart

/-- RECEIVE_BREAK (R173). -/
def execReceiveBreak (l : Link) (s : State) : Result :=
  runEvent (.receiveBreak l) s fun s => s.restartLink l

/-- LINK RESTART (R173). -/
def execLinkRestart (l : Link) (tag : Byte) (s : State) : Result :=
  runRequest (.linkRestart l tag) l tag s fun s => done (s.restartLink l) []

/-! ## Supervision, transmission and the taking of frames -/

/-- LINK_LOST: the supervision timer runs out in UP (R169). The alarm source is handed on before the loss
(order: log entry 54). -/
def execLinkLost (l : Link) (s : State) : Result :=
  runEvent (.linkLost l) s fun s =>
    let c := s.links.get l
    if c.timer = none then s
    else if c.state = .up then
      (s.modLink l fun c => { c with state := .lost, timer := none }).hand
        [.alarmSourceChange (.linkLost l) true, .stationLinkLoss l]
    else s.modLink l fun c => { c with timer := none }

/-- TRANSMIT_END: the frame on the line has ended; the transmitter is free and chooses again (R171). -/
def execTransmitEnd (l : Link) (s : State) : Result :=
  runEvent (.transmitEnd l) s fun s => s.modLink l fun c => { c with line := none }

/-- UNKNOWN_REQUEST (R167). -/
def execUnknownRequest (l : Link) (tag kind : Byte) (s : State) : Result :=
  runRequest (.unknownRequest l tag kind) l tag s fun s => deny s .unknownRequest

/-- The waiting frame is taken and refused by the link controller itself (R167). -/
def State.refuseFrame (s : State) (l : Link) (f : Frame) (code : RefusalCode) : State :=
  ((s.modLink l fun c => { c with waiting := none }).placeReply l ⟨f.kind, f.tag, .refused code⟩).pump

/-- A link takes a frame: one waits and the reply slot is empty (R167). -/
def LinkController.takes (c : LinkController) : Option Frame :=
  match c.waiting, c.slot with
  | some f, none => some f
  | _, _ => none

/-- REPORT SELECT (R172). -/
def execReportSelect (l : Link) (tag : Byte) (flags : Vector Nat 7) (s : State) : Result :=
  runRequest (.reportSelect l tag flags) l tag s fun s =>
    match flagsTaken flags with
    | none => deny s .badField
    | some sel =>
      done (s.modLink l fun c => { c with selection := sel }) [bitsByte sel.toList]

end Sys2Proof.Machine
end

