-- ==== Sys2Proof/Machine/Alarms.lean ====
section
/-! DEFINITION. The alarm unit (09): condition flags, the alarm list, the trip lines and the general
output lines. -/

namespace Sys2Proof.Machine

/-! ## Output lines -/

/-- The source value of a line from its source as it stands (R159). -/
def State.outputValue (s : State) (k : Fin 8) : Bool :=
  match s.settings.outputs[k].source with
  | .fixed => s.alarms.lines[k].held
  | .input n => s.inputs.levels.gi[n]
  | .permissive p => s.evaluator.slots[p].result
  | .axisActive a => s.axes[a].state.active
  | .zoneAlarm z => s.zones[z].alarm
  | .alarmLine => s.alarms.alarm

/-- A line's level is recomputed from a source value; a change is driven and handed on (R159). -/
def State.driveLine (s : State) (k : Fin 8) (value : Bool) : State :=
  let level := value != s.settings.outputs[k].invert
  if level = s.alarms.lines[k].level then s
  else
    { s with alarms := { s.alarms with
        lines := upd s.alarms.lines k fun x => { x with level := level } } }.hand
      [.sourceChange (.outputLine k) ⟨level.toNat, true⟩]

/-- The lines that follow a source, ascending. -/
def State.followers (s : State) (src : OutSource) : List (Fin 8) :=
  (List.finRange 8).filter fun k => s.settings.outputs[k].source = src

/-- Every line that follows a source takes its new value (R159). -/
def State.driveFollowers (s : State) (src : OutSource) (value : Bool) : State :=
  (s.followers src).foldl (fun s k => s.driveLine k value) s

/-- OUTPUT_LINE_SOURCE_CHANGE. A FIXED line follows its held value alone (R159). -/
def execOutputLineSourceChange (src : OutSource) (value : Bool) (s : State) : Result :=
  runEvent (.outputLineSourceChange src value) s fun s =>
    if src = .fixed then s else s.driveFollowers src value

/-! ## Trip lines -/

/-- The ALARM line takes a level; a change is reported (R157, R158). -/
def State.setAlarmLine (s : State) (level : Bool) : State :=
  if level = s.alarms.alarm then s
  else { s with alarms := { s.alarms with alarm := level } }.report (.tripLineChanged false level)

/-- The STOP line takes a level; a change is reported (R158). -/
def State.setStopLine (s : State) (level : Bool) : State :=
  if level = s.alarms.stop then s
  else { s with alarms := { s.alarms with stop := level } }.report (.tripLineChanged true level)

/-- The STOP line as it is due, the ALARM line having been re-evaluated (R158). -/
def State.stopNow (s : State) : Bool := stopDue s.settings.routing s.alarms.list s.alarms.alarm

/-- The ALARM line as it is due (R157). -/
def State.alarmNow (s : State) : Bool := alarmDue s.settings.routing s.alarms.list

/-- Both trip lines are re-evaluated, the ALARM line first; the reports of the changes come first, then
what they hand on (R157, R158): the STOP line to the axes, ascending, then the ALARM line's lines (order:
log entry 54). -/
def State.evalLines (s : State) : State :=
  let t := s.setAlarmLine s.alarmNow
  let u := t.setStopLine t.stopNow
  let v := if u.alarms.stop = s.alarms.stop then u
    else u.hand ((List.finRange 4).map fun a => .stopLineChange a u.alarms.stop)
  if u.alarms.alarm = s.alarms.alarm then v else v.driveFollowers .alarmLine u.alarms.alarm

/-! ## Entries -/

/-- The entry of a source, if it has one. -/
def findEntry (es : List AlarmEntry) (code : Fin 60) : Option AlarmEntry :=
  es.find? fun e => e.source = code

/-- The list with the entry of a source replaced in its place, added at the end, or removed. -/
def putEntry (es : List AlarmEntry) (code : Fin 60) (new : Option AlarmEntry) : List AlarmEntry :=
  match new with
  | none => es.filter fun e => e.source ≠ code
  | some x =>
    if (findEntry es code).isSome then es.map fun e => if e.source = code then x else e
    else es ++ [x]

/-- Occurrences increased by one, up to 255 (R151, R152). -/
def moreOccurrences (n : Nat) : Nat := min (n + 1) 255

/-- A flag set (R151). -/
def raisedEntry (code : Fin 60) (now : DeckTime) : Option AlarmEntry → Option AlarmEntry
  | none => some ⟨code, .activeUnacked, now, now, 1⟩
  | some e =>
    match e.state with
    | .returnedUnacked =>
      some { e with
        state := .activeUnacked
        last := now
        occurrences := moreOccurrences e.occurrences }
    | .activeUnacked => some e
    | .activeAcked => some e

/-- A flag cleared (R151). -/
def returnedEntry (now : DeckTime) : Option AlarmEntry → Option AlarmEntry
  | none => none
  | some e =>
    match e.state with
    | .activeUnacked => some { e with state := .returnedUnacked, last := now }
    | .activeAcked => none
    | .returnedUnacked => some e

/-- A momentary raise (R152). -/
def momentaryEntry (code : Fin 60) (now : DeckTime) : Option AlarmEntry → Option AlarmEntry
  | none => some ⟨code, .returnedUnacked, now, now, 1⟩
  | some e =>
    match e.state with
    | .returnedUnacked => some { e with last := now, occurrences := moreOccurrences e.occurrences }
    | .activeUnacked => some e
    | .activeAcked => some e

/-- An acknowledgement (R154). -/
def ackedEntry (now : DeckTime) : Option AlarmEntry → Option AlarmEntry
  | none => none
  | some e =>
    match e.state with
    | .activeUnacked => some { e with state := .activeAcked, last := now }
    | .returnedUnacked => none
    | .activeAcked => some e

/-- The ALARM CHANGED report of a change of one entry (R153). A removal carries the entry's
occurrences and first raised, and the deck time of the removal as last change (log entry 38). -/
def changeReport (code : Fin 60) (old new : Option AlarmEntry) (now : DeckTime) (cause : AlarmCause) :
    ReportBody :=
  let shown := (new.orElse fun _ => old).getD ⟨code, .activeUnacked, now, now, 1⟩
  .alarmChanged code (old.map (·.state)) (new.map (·.state)) shown.occurrences shown.first
    (new.elim now (·.last)) cause

/-- One entry of the list is changed, with its report (R153); nothing happens where it stays as it
was. -/
def State.changeEntry (s : State) (code : Fin 60) (new : Option AlarmEntry) (cause : AlarmCause) :
    State :=
  let old := findEntry s.alarms.list code
  if new = old then s
  else
    { s with alarms := { s.alarms with list := putEntry s.alarms.list code new } }.report
      (changeReport code old new s.clock cause)

/-- The entry a change of a condition flag leaves (R151). -/
def State.flagEntry (s : State) (code : Fin 60) (active : Bool) : Option AlarmEntry :=
  if active then raisedEntry code s.clock (findEntry s.alarms.list code)
  else returnedEntry s.clock (findEntry s.alarms.list code)

/-- A condition source becomes active or returns: its flag, its entry and the trip lines (R150, R151,
R157). An event that leaves the flag as it was does nothing (R150). -/
def State.setFlag (s : State) (src : CondSource) (active : Bool) : State :=
  let code := src.code
  if s.alarms.flags[code] = active then s
  else
    ({ s with alarms := { s.alarms with flags := s.alarms.flags.set code active } }.changeEntry code
      (s.flagEntry code active) (if active then .active else .returned)).evalLines

/-- A momentary raise (R152). -/
def State.raiseMomentary (s : State) (src : MomentarySource) : State :=
  (s.changeEntry src.code
    (momentaryEntry src.code s.clock (findEntry s.alarms.list src.code)) .momentary).evalLines

/-- ALARM_SOURCE_CHANGE (R150, R151). -/
def execAlarmSourceChange (src : CondSource) (active : Bool) (s : State) : Result :=
  runEvent (.alarmSourceChange src active) s fun s => s.setFlag src active

/-- MOMENTARY_RAISE (R152). -/
def execMomentaryRaise (src : MomentarySource) (s : State) : Result :=
  runEvent (.momentaryRaise src) s fun s => s.raiseMomentary src

/-! ## Acknowledgement -/

/-- One entry acknowledged. -/
def State.ackEntry (s : State) (code : Fin 60) : State :=
  s.changeEntry code (ackedEntry s.clock (findEntry s.alarms.list code)) .ack

/-- Entries acknowledged in order, then the trip lines re-evaluated (R154). -/
def State.ackEntries (s : State) (codes : List (Fin 60)) : State :=
  (codes.foldl State.ackEntry s).evalLines

/-- The entries an acknowledgement changes. -/
def ackChanges (es : List AlarmEntry) : Nat := (es.filter fun e => e.state.unacked).length

/-- ALARM ACK (R154). -/
def execAlarmAck (l : Link) (tag : Byte) (source : Nat) (s : State) : Result :=
  runRequest (.alarmAck l tag source) l tag s fun s =>
    if source = 255 then
      done (s.ackEntries (s.alarms.list.map (·.source))) [byte (ackChanges s.alarms.list)]
    else match finOf? 60 source with
      | none => deny s .badField
      | some code =>
        match findEntry s.alarms.list code with
        | none => deny s .notFound
        | some e => done (s.ackEntries [code]) [byte (ackChanges [e])]

/-! ## Output requests -/

/-- A line's held value written. -/
def State.setHeld (s : State) (k : Fin 8) (v : Bool) : State :=
  { s with alarms := { s.alarms with lines := upd s.alarms.lines k fun x => { x with held := v } } }

/-- OUTPUT SET on a FIXED line (R160). -/
def State.setOutput (s : State) (k : Fin 8) (v : Bool) : State := (s.setHeld k v).driveLine k v

/-- OUTPUT SET (R160). -/
def execOutputSet (l : Link) (tag : Byte) (line value : Nat) (s : State) : Result :=
  runRequest (.outputSet l tag line value) l tag s fun s =>
    match finOf? 8 line, boolOfCode value with
    | some k, some v =>
      if s.settings.outputs[k].source ≠ .fixed then deny s .state
      else done (s.setOutput k v) [boolByte (s.setOutput k v).alarms.lines[k].level]
    | _, _ => deny s .badField

/-- The settings in force of a line, which were `old`, applied (R161): a kind that becomes FIXED takes the
power-on value, and where source or invert changed the level is recomputed from them (R176). -/
def State.applyOutput (s : State) (k : Fin 8) (old : OutputSettings) : State :=
  let x := s.settings.outputs[k]
  let t := if x.source = .fixed ∧ old.source ≠ .fixed then s.setHeld k x.powerOn else s
  if x.source = old.source ∧ x.invert = old.invert then t else t.driveLine k (t.outputValue k)

/-- The settings of a line become `x` (R161). -/
def State.rewriteOutput (s : State) (k : Fin 8) (x : OutputSettings) : State :=
  { s with settings := { s.settings with outputs := s.settings.outputs.set k x } }.applyOutput k
    s.settings.outputs[k]

/-! ## The conditions present -/

/-- The condition sources in ascending code (09, 9.1). -/
def condSources : List CondSource :=
  (List.finRange 4).map .axisTripHigh ++ (List.finRange 4).map .axisTripLow ++
  (List.finRange 4).map .axisSensor ++ (List.finRange 8).map .fire ++
  (List.finRange 32).map .doorFault ++ [.linkLost .bridge, .linkLost .localLink, .estop]

/-- Whether a source's condition holds as its owner stands (09, 9.1). -/
def State.condition (s : State) : CondSource → Bool
  | .axisTripHigh a => decide (s.axes[a].state = .tripped) && decide (s.axes[a].tripKind = some .high)
  | .axisTripLow a => decide (s.axes[a].state = .tripped) && decide (s.axes[a].tripKind = some .low)
  | .axisSensor a => s.sensorLost a
  | .fire z => s.zones[z].alarm
  | .doorFault d => decide (s.doors[d].state = .fault)
  | .linkLost l => decide ((s.links.get l).state = .lost)
  | .estop => s.inputs.levels.estop

/-- A condition flag set. -/
def setFlagIn (fs : Vector Bool 60) (src : CondSource) : Vector Bool 60 := fs.set src.code true

/-- The list and flags rebuilt from the conditions present, and the lines re-evaluated (R164). -/
def State.rebuildAlarms (s : State) : State :=
  let present := condSources.filter s.condition
  { s with alarms := { s.alarms with
      list := present.map fun (src : CondSource) =>
        ⟨src.code, .activeUnacked, s.clock, s.clock, 1⟩
      flags := present.foldl setFlagIn (Vector.replicate 60 false) } }.evalLines

end Sys2Proof.Machine
end

