-- ==== Sys2Proof/Machine/Drive.lean ====
section
/-! DEFINITION. The arithmetic of valve drive (03): table index, demand, slew, the pulses of a valve
frame, and the pressure band and limits. Pure functions of numbers. -/

namespace Sys2Proof.Machine

/-! ## Table index -/

/-- The band a temperature falls in: 0 below -200, else `(T + 200) / width` truncated and limited
(R50, R51). -/
def tempBand (t : Int) (width top : Nat) : Nat :=
  if t < -200 then 0 else min ((t + 200).toNat / width) top

/-- The index into FF: SINGLE by bands of 40, SPLIT by bands of 80 with the raise half above the lower
half (R50, R51). -/
def tableIndex (m : TableMode) (t : Int) (raising : Bool) : Nat :=
  match m with
  | .single => tempBand t 40 31
  | .split => if raising then tempBand t 80 15 + 16 else tempBand t 80 15

/-! ## Demand, slew and clamp -/

/-- The demand magnitude from the unclamped magnitude: 0 stays 0, otherwise raised to Dmin; then
lowered to Dmax (R53, steps 2 and 3). -/
def demandMagnitude (unclamped dMin dMax : Nat) : Nat :=
  min (if unclamped = 0 then 0 else max unclamped dMin) dMax

/-- The proportional term `(|e| × Kp) / 16`, truncated (R53). -/
def proportional (e : Int) (kp : Nat) : Nat := e.natAbs * kp / 16

/-- The unclamped magnitude in MOVING (R53, step 1). -/
def unclampedMoving (m : LoopMode) (ff : Nat) (e : Int) (kp : Nat) : Nat :=
  match m with
  | .normal => ff + proportional e kp
  | .forceOpen => ff

/-- The previous command moved toward the demand by at most `slew`, its magnitude then limited to
Dmax (R55). -/
def slewed (cPrev d : Int) (slew dMax : Nat) : Int :=
  let c := cPrev + min (max (d - cPrev) (-slew)) slew
  min (max c (-dMax)) dMax

/-- One drive computation in the mode `mode` (R48): index, error, demand, slew and clamp, as the last
update record keeps them. `e` is the error formed in MOVING and SETTLING, `dir` the jog direction. What a
mode does not form is absent, T, the oil validity and u among it (log entry 16). -/
def driveRecord (x : AxisSettings) (oil : Reading) (mode : AxisState) (e : Option Int)
    (dir : Direction) (cPrev : Int) : UpdateRecord :=
  match mode with
  | .moving =>
    let err := e.getD 0
    let idx := tableIndex x.tableMode oil.value (decide (0 < err))
    let u := demandMagnitude (unclampedMoving x.loopMode (x.ff.toList.getD idx 0) err x.kp) x.dMin x.dMax
    let d : Int := if 0 < err then u else -u
    ⟨.moving, some oil.value, some oil.valid, some idx, some err, some u, d, cPrev,
      slewed cPrev d x.slew x.dMax⟩
  | .jogging =>
    let idx := tableIndex x.tableMode oil.value (decide (dir = .raise))
    let u := demandMagnitude (x.ff.toList.getD idx 0) x.dMin x.dMax
    let d : Int := if dir = .raise then u else -u
    ⟨.jogging, some oil.value, some oil.valid, some idx, none, some u, d, cPrev,
      slewed cPrev d x.slew x.dMax⟩
  | .settling => ⟨.settling, none, none, none, e, none, 0, cPrev, slewed cPrev 0 x.slew x.dMax⟩
  | m => ⟨m, none, none, none, none, none, 0, cPrev, slewed cPrev 0 x.stopSlew x.dMax⟩

/-! ## The valve frame (R57, R61) -/

/-- The six-bit reversal of a sub-period number (R61). -/
def reverse6 (k : Nat) : Nat :=
  32 * (k % 2) + 16 * (k / 2 % 2) + 8 * (k / 4 % 2) + 4 * (k / 8 % 2) + 2 * (k / 16 % 2) + k / 32 % 2

/-- The high ticks of sub-period `k` in a frame of magnitude `m` (R61). -/
def highTicks (m k : Nat) : Nat := m / 64 + if reverse6 k < m % 64 then 1 else 0

/-- The level of the valve line at a tick of an uncut frame: the high ticks of a sub-period are its
first ticks (R61). -/
def tickHigh (m t : Nat) : Bool := decide (t % 64 < highTicks m (t / 64))

/-- The level of a generator's valve line: low after a cut, else by the position in the frame (R60,
R61). -/
def Generator.valveLine (g : Generator) : Bool := !g.cut && tickHigh g.applied g.position

/-- Zero is in force at a frame start when the frame that ends there was applied with m = 0 or was cut
short (R59). -/
def Generator.zeroInForce (g : Generator) : Bool := decide (g.applied = 0) || g.cut

/-- The position carried past the end of a frame. -/
def Generator.nextPosition (g : Generator) : Nat :=
  if Config.frameTicks ≤ g.position then g.position - Config.frameTicks else 0

/-- The direction a command asks for (R58). -/
def wantedLines (c : Int) : Option Direction :=
  if 0 < c then some .raise else if c < 0 then some .lower else none

/-- A frame start (R58, R59). -/
def Generator.frameStart (g : Generator) : Generator :=
  let wanted := wantedLines g.command
  if wanted = g.lines ∨ g.zeroInForce then
    { g with lines := wanted, applied := g.command.natAbs, cut := false, position := g.nextPosition }
  else
    { g with applied := 0, cut := false, position := g.nextPosition }

/-! ## Pressure supervision -/

/-- The band of an angle, truncated toward zero and limited to 0 to 15 (R64). -/
def pressureBand (angle lLo lHi : Int) : Nat :=
  min (((angle - lLo) * 16).tdiv (lHi - lLo + 1)).toNat 15

/-- The upper limit, saturated (R65). -/
def pressureHi (ref marginHi : Nat) : Nat := min (ref + marginHi) 32767

/-- The lower limit, saturated at 0 (R65). -/
def pressureLo (ref marginLo : Nat) : Nat := ref - marginLo

/-- The values of one check (R64, R65). -/
def checkRecord (x : AxisSettings) (pressure angle : Int) : CheckRecord :=
  let b := pressureBand angle x.lLo x.lHi
  let ref := x.prt.toList.getD b 0
  ⟨pressure, angle, b, ref, pressureHi ref x.marginHi, pressureLo ref x.marginLo⟩

/-- The side of the limits a checked pressure lies on, none inside (R65). -/
def CheckRecord.side (k : CheckRecord) : Option TripKind :=
  if (k.hi : Int) < k.pressure then some .high
  else if k.pressure < (k.lo : Int) then some .low
  else none

/-! ## Channel arithmetic (01) -/

/-- The truncated mean of the samples in the filter (R5). -/
def filterMean (xs : List Nat) : Nat := xs.sum / xs.length

/-- The last `n` items of a list. -/
def lastN {α : Type} (n : Nat) (xs : List α) : List α := xs.drop (xs.length - n)

/-- The scaled value: exact product, truncated quotient, offset, saturation of the sum only (R6). -/
def scaleValue (filtered zeroRaw : Nat) (gain offset : Int) : Int :=
  min (max ((((filtered : Int) - zeroRaw) * gain).tdiv 4096 + offset) (-32768)) 32767

end Sys2Proof.Machine
end

