-- ==== Sys2Proof/Machine/Axes.lean ====
section
/-! DEFINITION. What an axis controller does (02, 03): its command and its cut, its changes of state,
the ends of motions and sessions, and its updates and checks. The commands of AxisEvents and
AxisRequests are written over these. -/

namespace Sys2Proof.Machine

/-! ## Command, cut and change of state -/

/-- The axis's command becomes `v` and is handed at once to its generator (R56); a command set to 0
clears the pressure confirmation (R67). -/
def State.setC (s : State) (a : Fin 4) (v : Int) : State :=
  (s.modAxis a fun x => { x with c := v, confirm := if v = 0 then none else x.confirm }).modValve a
    fun g => { g with command := v }

/-- The frame in progress is cut: the valve line goes low for the rest of it (R60). -/
def State.cut (s : State) (a : Fin 4) : State := s.modValve a fun g => { g with cut := true }

/-- What a change of axis state hands on (R20): to the permissive evaluator, the alarm unit and the
station controller always, to the call controller by the entry made, in the order R20 lists them (log entry
54). -/
def axisNotices (a : Fin 4) (prev new : AxisState) : List Instr :=
  [.sourceChange (.axisState a) ⟨new.code, true⟩,
   .outputLineSourceChange (.axisActive a) new.active,
   .axisStateChangeSeen a new] ++
  (if prev = .idle ∧ (new = .warning ∨ new = .jogging ∨ new = .manual) then [.standClearPost a]
   else []) ++
  (if (new = .idle ∨ new = .tripped) ∧ prev ≠ new then [.standClearRemoval a] else [])

/-- A change of axis state, with its AXIS STATE report and the events it hands on (R20). -/
def State.changeAxis (s : State) (a : Fin 4) (new : AxisState) (cause : Option MotionOutcome) :
    State :=
  let prev := s.axes[a].state
  ((s.modAxis a fun x => { x with state := new }).report (.axisState a prev new cause)).hand
    (axisNotices a prev new)

/-! ## Motions -/

/-- A motion begins: its record replaces the one before (R19). -/
def State.openMotion (s : State) (a : Fin 4) (l : Link) (k : MotionKind) (target : Option Int) :
    State :=
  s.modAxis a fun x =>
    { x with motion := some ⟨l, k, target, s.clock, none, none⟩ }

/-- The counter the end of a motion increases (R19). -/
def AxisCounters.ended (k : AxisCounters) (o : MotionOutcome) : AxisCounters :=
  if o = .reached then { k with reached := saturate k.reached }
  else { k with otherwise := saturate k.otherwise }

/-- A motion record with its end time and outcome (R19). -/
def MotionRecord.completed (m : MotionRecord) (t : DeckTime) (o : MotionOutcome) : MotionRecord :=
  { m with finish := some t, outcome := some o }

/-- The motion that runs, if one does. -/
def AxisRecord.running? (x : AxisRecord) : Option MotionRecord :=
  match x.motion with
  | some m => if m.finish.isNone then some m else none
  | none => none

/-- The running motion ends: its record is completed and counted (R19). -/
def State.endMotion (s : State) (a : Fin 4) (o : MotionOutcome) : State :=
  match s.axes[a].running? with
  | some m =>
    (s.modAxis a fun x => { x with motion := some (m.completed s.clock o) }).countAxis a (·.ended o)
  | none => s

/-- The fields that are absent and the timers that are stopped in IDLE and TRIPPED (02, 2.2). -/
def AxisRecord.settled (x : AxisRecord) : AxisRecord :=
  { x with
    target := none
    direction := none
    stopOutcome := none
    warning := none
    motionTimer := none
    refresh := none }

/-- Entry to IDLE or TRIPPED with c 0: the running motion ends, and its AXIS OUTCOME report follows
the AXIS STATE report (R19, R20). -/
def State.enterRest (s : State) (a : Fin 4) (rest : AxisState) (o : MotionOutcome) : State :=
  let t := (((s.setC a 0).modAxis a AxisRecord.settled).endMotion a o).changeAxis a rest (some o)
  match s.axes[a].running? with
  | some m => t.report (.axisOutcome a (m.completed s.clock o))
  | none => t

/-- Entry to STOPPING with an outcome; with c 0 the axis enters IDLE at once (R29). -/
def State.enterStopping (s : State) (a : Fin 4) (o : MotionOutcome) : State :=
  let t := (s.modAxis a fun x =>
    { x with motionTimer := none, refresh := none, stopOutcome := some o }).changeAxis a .stopping
      (some o)
  if s.axes[a].c = 0 then t.enterRest a .idle o else t

/-- The end of a MANUAL session: c and the staged value 0, entry to IDLE (R40, R41, R42). -/
def State.endSession (s : State) (a : Fin 4) (o : MotionOutcome) : State :=
  (s.modAxis a fun x => { x with staged := 0 }).enterRest a .idle o

/-- What ends a motion from outside: WARNING enters IDLE, travel enters STOPPING, any other state
stays (R30, R41, R42). -/
def State.endTravel (s : State) (a : Fin 4) (o : MotionOutcome) : State :=
  match s.axes[a].state with
  | .warning => s.enterRest a .idle o
  | .moving => s.enterStopping a o
  | .settling => s.enterStopping a o
  | .jogging => s.enterStopping a o
  | .idle => s
  | .stopping => s
  | .tripped => s
  | .manual => s

/-- The outcome an axis in STOPPING comes to rest with (R29). Every entry sets it. -/
def AxisRecord.outcome (x : AxisRecord) : MotionOutcome := x.stopOutcome.getD .stopped

/-! ## Limit switches (R32) -/

/-- The switch of side `d` meets the axis, if it is asserted. -/
def AxisRecord.meets (x : AxisRecord) (d : Direction) : Bool :=
  match x.state with
  | .moving => x.direction = some d
  | .settling => x.direction = some d
  | .jogging => x.direction = some d
  | .stopping => sideOf x.c = some d
  | .manual => sideOf x.c = some d
  | .idle => false
  | .warning => false
  | .tripped => false

/-- A switch that meets the axis is found asserted. -/
def State.limitFound (s : State) (a : Fin 4) : Bool :=
  (s.axes[a].meets .raise && s.limit a .raise) || (s.axes[a].meets .lower && s.limit a .lower)

/-- A limit switch meets the axis (R32). -/
def State.limitMet (s : State) (a : Fin 4) : State :=
  let t := (s.setC a 0).cut a
  match s.axes[a].state with
  | .moving => t.enterRest a .idle .limit
  | .settling => t.enterRest a .idle .limit
  | .jogging => t.enterRest a .idle .limit
  | .stopping => t.enterRest a .idle s.axes[a].outcome
  | .manual => t
  | .idle => t
  | .warning => t
  | .tripped => t

/-! ## Updates -/

/-- One drive computation in the axis's present state (R48): the new c is handed to the generator and
the values used are the last update record. -/
def State.drive (s : State) (a : Fin 4) (e : Option Int) : State :=
  let x := s.axes[a]
  let r := driveRecord s.settings.axes[a] s.channels[s.settings.oil].reading x.state e
    (x.direction.getD .raise) x.c
  (s.setC a r.cNew).modAxis a fun x => { x with update := some r }

/-- An update in STOPPING (R29). -/
def State.stoppingUpdate (s : State) (a : Fin 4) : State :=
  if s.limitFound a then s.limitMet a
  else
    let t := s.drive a none
    if t.axes[a].c = 0 then t.enterRest a .idle s.axes[a].outcome else t

/-- The axis enters STOPPING during an update, which is then computed as a STOPPING update (R26,
R37). With c 0 the entry has gone on to IDLE and there is nothing to compute. -/
def State.stopUpdate (s : State) (a : Fin 4) (o : MotionOutcome) : State :=
  let t := s.enterStopping a o
  if t.axes[a].state = .stopping then t.stoppingUpdate a else t

/-- The error of an angle against the axis's target (R52). -/
def AxisRecord.error (x : AxisRecord) (angle : Int) : Int := x.target.getD 0 - angle

/-- The error lies in band (R25). -/
def State.inBand (s : State) (a : Fin 4) (e : Int) : Bool :=
  decide (e.natAbs ≤ s.settings.axes[a].inBand)

/-- An in-band update in SETTLING: it is counted, computed with demand 0, and ends the motion when the
count is full and c is 0 (R26). -/
def State.settleStep (s : State) (a : Fin 4) (e : Int) : State :=
  let full := s.settings.axes[a].settleCount
  let t := (s.modAxis a fun x => { x with settle := min (x.settle + 1) full }).drive a (some e)
  if t.axes[a].settle = full ∧ t.axes[a].c = 0 then t.enterRest a .idle .reached else t

/-- The state of a motion in travel becomes MOVING or SETTLING with settle count 0 (R23, R25, R26). -/
def State.travel (s : State) (a : Fin 4) (new : AxisState) : State :=
  (s.modAxis a fun x => { x with settle := 0 }).changeAxis a new none

/-- An update in SETTLING (R26), after its look at the limit switch. -/
def State.settlingUpdate (s : State) (a : Fin 4) (angle : Int) : State :=
  let e := s.axes[a].error angle
  if s.inBand a e then s.settleStep a e
  else if s.permits a (s.axes[a].direction.getD .raise) then (s.travel a .moving).drive a (some e)
  else s.stopUpdate a .permissiveLost

/-- An update in MOVING (R25), after its look at the limit switch. -/
def State.movingUpdate (s : State) (a : Fin 4) (angle : Int) : State :=
  let e := s.axes[a].error angle
  if s.inBand a e then (s.travel a .settling).settleStep a e else s.drive a (some e)

/-- An angle has reached the soft limit of a direction (R36, R37). -/
def State.softLimit (s : State) (a : Fin 4) (angle : Int) : Direction → Bool
  | .raise => decide (s.settings.axes[a].lHi ≤ angle)
  | .lower => decide (angle ≤ s.settings.axes[a].lLo)

/-- An update in JOGGING (R37), after its look at the limit switch. -/
def State.joggingUpdate (s : State) (a : Fin 4) (angle : Reading) : State :=
  if angle.valid && s.softLimit a angle.value (s.axes[a].direction.getD .raise) then
    s.stopUpdate a .limit
  else s.drive a none

/-- An update of a fitted axis, by its state (R25, R26, R29, R37, R48). A completion with the channel
INVALID does not reach the steps of MOVING and SETTLING (R25). -/
def State.updateAxis (s : State) (a : Fin 4) (angle : Reading) : State :=
  match s.axes[a].state with
  | .moving =>
    if !angle.valid then s else if s.limitFound a then s.limitMet a
    else s.movingUpdate a angle.value
  | .settling =>
    if !angle.valid then s else if s.limitFound a then s.limitMet a
    else s.settlingUpdate a angle.value
  | .jogging => if s.limitFound a then s.limitMet a else s.joggingUpdate a angle
  | .stopping => s.stoppingUpdate a
  | .idle => s
  | .warning => s
  | .tripped => s
  | .manual => s

/-! ## Pressure supervision -/

/-- The alarm source of a trip kind (R34). -/
def tripSource (a : Fin 4) : TripKind → CondSource
  | .high => .axisTripHigh a
  | .low => .axisTripLow a

/-- The pressure trip (R34); its alarm source is handed on after the change of state (log entry 54). -/
def State.trip (s : State) (a : Fin 4) (k : TripKind) : State :=
  (((((s.cut a).modAxis a fun x => { x with staged := 0, tripKind := some k }).countAxis a
    fun n => { n with trips := saturate n.trips }).enterRest a .tripped .tripped).hand
      [.alarmSourceChange (tripSource a k) true])

/-- One check: its values recorded, and the confirmation count moved or the axis tripped (R64 to
R66). -/
def State.checkPressure (s : State) (a : Fin 4) (p : Int) : State :=
  let k := checkRecord s.settings.axes[a] p (s.angle a).scaled
  let t := s.modAxis a fun x => { x with check := some k, confirm := k.side }
  match k.side with
  | some kind => if s.axes[a].confirm = some kind then t.trip a kind else t
  | none => t

/-- A completion notice of the pressure channel (R63). -/
def State.pressureNotice (s : State) (a : Fin 4) (p : Reading) : State :=
  if s.settings.axes[a].fitted ∧ s.axes[a].state ≠ .tripped ∧ s.axes[a].c ≠ 0 ∧ p.valid then
    s.checkPressure a p.value
  else s.modAxis a fun x => { x with confirm := none }

/-! ## The AXIS_SENSOR source -/

/-- The AXIS_SENSOR condition is evaluated, and a change handed to the alarm unit (R43). -/
def State.evalSensor (s : State) (a : Fin 4) : State :=
  if s.sensorLost a = s.axes[a].sensor then s
  else
    (s.modAxis a fun x => { x with sensor := s.sensorLost a }).hand
      [.alarmSourceChange (.axisSensor a) (s.sensorLost a)]

end Sys2Proof.Machine
end

