-- ==== Sys2Proof/Machine/AxisRequests.lean ====
section
/-! DEFINITION. The requests that act on axes (02): moves, stops, jogs, trip reset and manual service
drive. The checks of each stand in the order its rule gives; the first that fails gives the refusal. -/

namespace Sys2Proof.Machine

/-- What axis `a` does nothing with in IDLE: notices of its holder, a hold, a level, the STOP line, a
slot, a limit switch or a disabled channel. -/
def idleNotice (a : Fin 4) : Instr → Bool
  | .holderChange b _ => decide (b = a)
  | .deckHoldNotice b => decide (b = a)
  | .lossOfServiceLevel b _ => decide (b = a)
  | .stopLineChange b _ => decide (b = a)
  | .permissiveSlotChange b _ _ => decide (b = a)
  | .limitSwitchChange b _ _ => decide (b = a)
  | .disablingNotice b => decide (b = a)
  | _ => false

/-- Axis `a` is about to leave IDLE: what was handed to it before, and would have found it at rest,
stands as taken there, and does not act on the motion or session that begins (R72; log entry 2). -/
def State.leaveIdle (s : State) (a : Fin 4) : State := s.takenFirst (idleNotice a)

/-! ## AXIS MOVE -/

/-- The checks of R21, for a fitted axis, from the second on. -/
def State.moveRefusal (s : State) (l : Link) (a : Fin 4) : Option RefusalCode :=
  if !s.holds l a then some .noAuthority
  else if s.station.held then some .held
  else if s.alarms.stop then some .pumpStopped
  else match s.axes[a].state with
    | .tripped => some .tripped
    | .stopping => some .busy
    | .jogging => some .busy
    | .manual => some .busy
    | .idle => if (s.angle a).valid then none else some .sensor
    | .warning => if (s.angle a).valid then none else some .sensor
    | .moving => if (s.angle a).valid then none else some .sensor
    | .settling => if (s.angle a).valid then none else some .sensor

/-- The direction of a retarget: a target within in_band takes the running one (R23). -/
def retargetDirection (target angle : Int) (inBand : Nat) (running : Option Direction) :
    Option Direction :=
  if angle + inBand < target then some .raise
  else if target < angle - inBand then some .lower
  else running

/-- The data of an AXIS MOVE reply: the target taken, and REACHED or 0 (12.6). -/
def moveData (target : Int) (o : Option MotionOutcome) : List Byte :=
  beInt16 target ++ [byte (o.elim 0 MotionOutcome.code)]

/-- AXIS MOVE in IDLE, past its checks (R22). -/
def State.moveFromIdle (s : State) (l : Link) (a : Fin 4) (target : Int) : State × ReplyData :=
  let angle := (s.angle a).scaled
  let d : Direction := if angle < target then .raise else .lower
  if s.inBand a (target - angle) then done s (moveData target (some .reached))
  else if !s.permits a d then deny s .notPermitted
  else
    let t := (s.leaveIdle a).modAxis a fun x =>
      { x with
        target := some target
        direction := some d
        warning := some (s.settings.axes[a].warningTime * 1000) }
    ((t.openMotion a l .move (some target)).changeAxis a .warning none,
      .accepted (moveData target none))

/-- The motion record of a retargeted motion (R19, R23). -/
def AxisRecord.retarget (x : AxisRecord) (target : Int) : AxisRecord :=
  { x with
    target := some target
    motion := x.motion.map fun m => { m with target := some target } }

/-- AXIS MOVE in WARNING, MOVING or SETTLING, past its checks (R23). -/
def State.retarget (s : State) (a : Fin 4) (target : Int) : State × ReplyData :=
  let x := s.axes[a]
  let angle := (s.angle a).scaled
  if retargetDirection target angle s.settings.axes[a].inBand x.direction ≠ x.direction then
    deny s .state
  else if !s.permits a (x.direction.getD .raise) then deny s .notPermitted
  else
    let t := s.modAxis a (·.retarget target)
    (if x.state = .settling ∧ s.inBand a (target - angle) = false then t.travel a .moving else t,
      .accepted (moveData target none))

/-- AXIS MOVE past R21, its target clamped to the soft limits. -/
def State.move (s : State) (l : Link) (a : Fin 4) (target : Int) : State × ReplyData :=
  let t := clampInt s.settings.axes[a].lLo s.settings.axes[a].lHi target
  if s.axes[a].state = .idle then s.moveFromIdle l a t else s.retarget a t

/-- AXIS MOVE (R21 to R23). -/
def execAxisMove (l : Link) (tag : Byte) (axis : Nat) (target : Int) (s : State) : Result :=
  runRequest (.axisMove l tag axis target) l tag s fun s =>
    match s.fittedAxis? axis with
    | none => deny s .badField
    | some a =>
      match s.moveRefusal l a with
      | some code => deny s code
      | none => s.move l a target

/-! ## AXIS STOP -/

/-- AXIS STOP on one fitted axis (R30). -/
def State.stopAxis (s : State) (a : Fin 4) : State :=
  if s.axes[a].state = .manual then
    (s.modAxis a fun x => { x with staged := 0, refresh := none }).setC a 0
  else s.endTravel a .stopped

/-- AXIS STOP naming all axes passes over unfitted ones (R17), the fitted ones in ascending number (log
entry 52). -/
def State.stopAll (s : State) : State :=
  (List.finRange 4).foldl (fun s a => if s.settings.axes[a].fitted then s.stopAxis a else s) s

/-- AXIS STOP (R30). -/
def execAxisStop (l : Link) (tag : Byte) (axis : Nat) (s : State) : Result :=
  runRequest (.axisStop l tag axis) l tag s fun s =>
    if axis = 0xFF then done s.stopAll []
    else match s.fittedAxis? axis with
      | none => deny s .badField
      | some a => done (s.stopAxis a) []

/-! ## AXIS JOG -/

/-- The start of a jog is stopped by its limit switch or its soft limit (R36, check 8). -/
def State.jogBlocked (s : State) (a : Fin 4) (d : Direction) : Bool :=
  s.limit a d || ((s.angle a).valid && s.softLimit a (s.angle a).scaled d)

/-- AXIS JOG that passes its checks in IDLE (R36). -/
def State.startJog (s : State) (l : Link) (a : Fin 4) (d : Direction) : State :=
  let t := (s.leaveIdle a).modAxis a fun x =>
    { x with
      direction := some d
      motionTimer := some (s.settings.axes[a].motionLimit * 1000)
      refresh := some Config.refreshWindow }
  (t.openMotion a l .jog none).changeAxis a .jogging none

/-- AXIS JOG past its checks 1 to 6 (R36, R37). -/
def State.jog (s : State) (l : Link) (a : Fin 4) (d : Direction) : State × ReplyData :=
  if s.axes[a].state = .jogging then
    if s.axes[a].direction = some d then
      done (s.modAxis a fun x => { x with refresh := some Config.refreshWindow }) []
    else deny s .state
  else if s.jogBlocked a d then deny s .state
  else if !s.permits a d then deny s .notPermitted
  else done (s.startJog l a d) []

/-- The checks of R36 from the second to the sixth. -/
def State.jogRefusal (s : State) (l : Link) (a : Fin 4) : Option RefusalCode :=
  if l ≠ .localLink ∨ s.holds .localLink a = false then some .noAuthority
  else if s.station.held then some .held
  else if s.alarms.stop then some .pumpStopped
  else match s.axes[a].state with
    | .tripped => some .tripped
    | .warning => some .busy
    | .moving => some .busy
    | .settling => some .busy
    | .stopping => some .busy
    | .manual => some .busy
    | .idle => none
    | .jogging => none

/-- AXIS JOG (R36, R37). An undefined direction code is refused with the first check (log entry 20). -/
def execAxisJog (l : Link) (tag : Byte) (axis direction : Nat) (s : State) : Result :=
  runRequest (.axisJog l tag axis direction) l tag s fun s =>
    match s.fittedAxis? axis, Direction.ofCode direction with
    | some a, some d =>
      match s.jogRefusal l a with
      | some code => deny s code
      | none => s.jog l a d
    | _, _ => deny s .badField

/-! ## TRIP RESET -/

/-- The trip is cleared: the axis enters IDLE and its trip source returns (R35), handed on in that order
(log entry 54). -/
def State.clearTrip (s : State) (a : Fin 4) : State :=
  let k := s.axes[a].tripKind.getD .high
  ((s.modAxis a fun x => { x with tripKind := none }).changeAxis a .idle none).hand
    [.alarmSourceChange (tripSource a k) false]

/-- TRIP RESET (R35). -/
def execTripReset (l : Link) (tag : Byte) (axis : Nat) (s : State) : Result :=
  runRequest (.tripReset l tag axis) l tag s fun s =>
    match s.fittedAxis? axis with
    | none => deny s .badField
    | some a =>
      if !s.holds l a then deny s .noAuthority
      else if s.axes[a].state ≠ .tripped then deny s .state
      else done (s.clearTrip a) []

/-! ## Manual service drive -/

/-- The checks of R38 from the second to the sixth. -/
def State.manualRefusal (s : State) (l : Link) (a : Fin 4) : Option RefusalCode :=
  if !s.atService l then some .level
  else if !s.holds l a then some .noAuthority
  else if s.station.held then some .held
  else if s.alarms.stop then some .pumpStopped
  else if s.axes[a].state = .tripped then some .tripped
  else none

/-- MANUAL ENTER from IDLE (R38). -/
def State.startSession (s : State) (a : Fin 4) : State :=
  (((s.leaveIdle a).setC a 0).modAxis a fun x =>
    { x with staged := 0, target := none, direction := none, refresh := none }).changeAxis a
      .manual none

/-- MANUAL ENTER (R38). -/
def execManualEnter (l : Link) (tag : Byte) (axis : Nat) (s : State) : Result :=
  runRequest (.manualEnter l tag axis) l tag s fun s =>
    match s.fittedAxis? axis with
    | none => deny s .badField
    | some a =>
      match s.manualRefusal l a with
      | some code => deny s code
      | none =>
        match s.axes[a].state with
        | .manual => done s []
        | .idle => done (s.startSession a) []
        | _ => deny s .busy

/-- A request within a MANUAL session, past its four checks (R39). -/
def State.inSession (s : State) (l : Link) (axis : Nat)
    (f : Fin 4 → State × ReplyData) : State × ReplyData :=
  match s.fittedAxis? axis with
  | none => deny s .badField
  | some a =>
    if !s.atService l then deny s .level
    else if !s.holds l a then deny s .noAuthority
    else if s.axes[a].state ≠ .manual then deny s .state
    else f a

/-- MANUAL SET: the value clamped to Dmax and staged (R39). -/
def execManualSet (l : Link) (tag : Byte) (axis : Nat) (value : Int) (s : State) : Result :=
  runRequest (.manualSet l tag axis value) l tag s fun s =>
    s.inSession l axis fun a =>
      let dMax : Int := s.settings.axes[a].dMax
      let v := clampInt (-dMax) dMax value
      done (s.modAxis a fun x => { x with staged := v }) (beInt16 v)

/-- The command MANUAL APPLY takes: the staged value, or 0 against an asserted limit switch (R39). -/
def State.appliedValue (s : State) (a : Fin 4) : Int :=
  match sideOf s.axes[a].staged with
  | some d => if s.limit a d then 0 else s.axes[a].staged
  | none => s.axes[a].staged

/-- MANUAL APPLY (R39). -/
def execManualApply (l : Link) (tag : Byte) (axis : Nat) (s : State) : Result :=
  runRequest (.manualApply l tag axis) l tag s fun s =>
    s.inSession l axis fun a =>
      let v := s.appliedValue a
      done ((s.modAxis a fun x => { x with refresh := some Config.refreshWindow }).setC a v)
        (beInt16 v)

/-- MANUAL LEAVE (R40). -/
def execManualLeave (l : Link) (tag : Byte) (axis : Nat) (s : State) : Result :=
  runRequest (.manualLeave l tag axis) l tag s fun s =>
    s.inSession l axis fun a => done (s.endSession a .stopped) []

end Sys2Proof.Machine
end

