-- ==== Sys2Proof/Machine/Channels.lean ====
section
/-! DEFINITION. The measurement unit and the door scan chain interface (01): conversions, discrete
inputs and door scans, and what each hands on. -/

namespace Sys2Proof.Machine

/-! ## One channel -/

/-- In range (R2). -/
def inRange (x : ChannelSettings) (raw : Nat) : Bool :=
  decide (x.rawMin ≤ raw) && decide (raw ≤ x.rawMax)

/-- The validity step of a VALID channel (R3) and of an INVALID one (R4). -/
def ChannelRecord.validityStep (r : ChannelRecord) (within : Bool) (now : DeckTime) :
    ChannelRecord :=
  if r.valid then
    if within then { r with count := 0 }
    else if r.count + 1 < 3 then { r with count := r.count + 1 }
    else { r with valid := false, count := 0, changed := now }
  else
    if !within then { r with count := 0 }
    else if r.count + 1 < 3 then { r with count := r.count + 1 }
    else { r with valid := true, count := 0, changed := now, everValid := true, filter := [] }

/-- The filter step (R5) and the scaling step (R6) of an accepted sample. -/
def ChannelRecord.accept (r : ChannelRecord) (x : ChannelSettings) (raw : Nat) : ChannelRecord :=
  let f := lastN x.depth (r.filter ++ [raw])
  { r with
    filter := f
    filtered := filterMean f
    scaled := scaleValue (filterMean f) x.zero x.gain x.offset }

/-- The record after a completion (R2). -/
def ChannelRecord.complete (r : ChannelRecord) (x : ChannelSettings) (raw : Nat) (now : DeckTime) :
    ChannelRecord :=
  let t := { r with raw := raw }.validityStep (inRange x raw) now
  if inRange x raw && t.valid then t.accept x raw else t

/-- The scaling settings differ (R7). -/
def scalingDiffers (a b : ChannelSettings) : Bool :=
  decide (a.zero ≠ b.zero) || decide (a.gain ≠ b.gain) || decide (a.offset ≠ b.offset)

/-- The record when completions stop (R7, enabled from yes to no). -/
def ChannelRecord.disabled (r : ChannelRecord) (now : DeckTime) : ChannelRecord :=
  if r.valid then { r with valid := false, count := 0, changed := now } else { r with count := 0 }

/-- The record after its settings went from `old` to `new`, setting by setting (R7, R8): enabled,
validity range, filter depth, scaling (log entry 36). -/
def ChannelRecord.rewritten (r : ChannelRecord) (old new : ChannelSettings) (now : DeckTime) :
    ChannelRecord :=
  let r := if old.enabled && !new.enabled then r.disabled now else r
  let r := if old.rawMin ≠ new.rawMin ∨ old.rawMax ≠ new.rawMax then { r with count := 0 } else r
  let r := if old.depth ≠ new.depth then { r with filter := [] } else r
  if scalingDiffers old new && r.valid then
    { r with scaled := scaleValue r.filtered new.zero new.gain new.offset }
  else r

/-! ## What a channel hands on (R9) -/

/-- The validity changes an axis is told of, the axes in ascending number (order: log entry 54). -/
def State.validityNotices (s : State) (k : Fin 12) (valid : Bool) : List Instr :=
  (List.finRange 4).flatMap fun a =>
    (if s.settings.axes[a].angleCh = k then [.angleValidityChange a valid] else []) ++
    (if s.settings.axes[a].pressCh = k then [.pressureValidityChange a valid] else [])

/-- The completion notices: an axis with one channel for both takes the check first (R67). The axes are
taken in ascending number (log entry 54). -/
def State.completionNotices (s : State) (k : Fin 12) (r : Reading) : List Instr :=
  (List.finRange 4).flatMap fun a =>
    (if s.settings.axes[a].pressCh = k then [.pressureCheck a r] else []) ++
    (if s.settings.axes[a].angleCh = k then [.axisUpdate a r] else [])

/-- The notices of a change of validity or value from one record to another (R9), the axes' before the
evaluator's (order: log entry 54). -/
def State.changeNotices (s : State) (k : Fin 12) (old new : ChannelRecord) : List Instr :=
  (if old.valid ≠ new.valid then s.validityNotices k new.valid else []) ++
  (if old.valid ≠ new.valid ∨ old.scaled ≠ new.scaled then
    [.sourceChange (.channel k) new.reading] else [])

/-- The disabling notice, to each axis whose angle channel it is (R7), ascending (order: log entry
54). -/
def State.disablingNotices (s : State) (k : Fin 12) : List Instr :=
  (List.finRange 4).flatMap fun a =>
    if s.settings.axes[a].angleCh = k then [.disablingNotice a] else []

/-- A completion of an enabled channel (R1, R2, R9). R9 has an axis take its validity change before its
completion notice; the rest of the order among the receivers is the model's, the evaluator's source change
between the validity changes and the completion notices (log entry 54). -/
def State.completion (s : State) (k : Fin 12) (raw : Nat) : State :=
  let old := s.channels[k]
  let new := old.complete s.settings.channels[k] raw s.clock
  (s.modChannel k fun _ => new).hand (s.changeNotices k old new ++ s.completionNotices k new.reading)

/-- The settings of a channel become `x`, with the effects and notices of the change, the disabling
notices last (R7; their place after the evaluator's source change: log entry 54). -/
def State.rewriteChannel (s : State) (k : Fin 12) (x : ChannelSettings) : State :=
  let was := s.settings.channels[k]
  let old := s.channels[k]
  let new := old.rewritten was x s.clock
  let t := { s with settings := { s.settings with channels := s.settings.channels.set k x } }
  (t.modChannel k fun _ => new).hand
    (s.changeNotices k old new ++ if was.enabled && !x.enabled then s.disablingNotices k else [])

/-- CHANNEL_COMPLETION. A disabled channel has no completions (R1). -/
def execChannelCompletion (k : Fin 12) (raw : Fin 4096) (s : State) : Result :=
  runEvent (.channelCompletion k raw) s fun s =>
    if s.settings.channels[k].enabled then s.completion k raw else s

/-! ## Discrete inputs -/

/-- Whom a change of a debounced input is handed to (01, 1.2). LOCAL PRIORITY is only read, and an
assertion of SERVICE KEY raises no link (R71, R81). A change of GI n goes to the evaluator before the alarm
unit, where R11 gives no order (log entry 54). -/
def inputNotices : Input → Bool → List Instr
  | .estop, b => [.alarmSourceChange .estop b]
  | .serviceKey, true => []
  | .serviceKey, false => [.serviceKeyRelease]
  | .localPriority, _ => []
  | .fire z, b => [.fireInputChange z b]
  | .limLo a, b => [.limitSwitchChange a .lower b]
  | .limHi a, b => [.limitSwitchChange a .raise b]
  | .gi n, b => [.sourceChange (.input n) ⟨b.toNat, true⟩, .outputLineSourceChange (.input n) b]

/-- One debounced level: a sample equal to the last one is taken, any other leaves it (R11, R14). -/
def debounce (level last sample : Bool) : Bool := if sample = last then sample else level

/-- The inputs after one sample of one input: its debounced level, and the sample the next one is
compared with (R11). -/
def InputUnit.sample (u : InputUnit) (i : Input) (b : Bool) : InputUnit where
  levels := u.levels.put i (debounce (u.levels.get i) (u.last.get i) b)
  last := u.last.put i b

/-- One sample of one input: a change of its debounced state is handed on at once (R11). -/
def State.sampleInput (s : State) (i : Input) (b : Bool) : State :=
  let t := { s with inputs := s.inputs.sample i b }
  if debounce (s.inputs.levels.get i) (s.inputs.last.get i) b = s.inputs.levels.get i then t
  else t.hand (inputNotices i b)

/-- DISCRETE_INPUT_CHANGE: consecutive samples of one input, taken one after the other; the second of two
equal ones that differ from the debounced state changes it (R11; log entry 30). -/
def execDiscreteInputChange (i : Input) (samples : List Bool) (s : State) : Result :=
  runEvent (.discreteInputChange i samples) s fun s =>
    samples.foldl (fun s b => s.sampleInput i b) s

/-! ## Door scan chain -/

/-- The three debounced levels of a position. -/
def debounceDoor (level last sample : DoorInputs) : DoorInputs where
  openSwitch := debounce level.openSwitch last.openSwitch sample.openSwitch
  closedSwitch := debounce level.closedSwitch last.closedSwitch sample.closedSwitch
  edge := debounce level.edge last.edge sample.edge

/-- The chain after a scan (R13, R14). -/
def DoorChain.scan (c : DoorChain) (samples : Vector DoorInputs 32) : DoorChain where
  levels := Vector.ofFn fun d => debounceDoor c.levels[d] c.last[d] samples[d]
  last := samples
  outputs := c.outputs
  shifted := c.outputs

/-- The door input change events a scan hands on, one for each position that changed (R14), in ascending
position number, where R14 fixes no order (log entry 54). -/
def scanNotices (old new : DoorChain) : List Instr :=
  (List.finRange 32).flatMap fun d =>
    if old.levels[d] = new.levels[d] then [] else [.doorInputChange d new.levels[d]]

/-- DOOR_SCAN (R13 to R15). -/
def execDoorScan (levels : Vector DoorInputs 32) (s : State) : Result :=
  runEvent (.doorScan levels) s fun s =>
    let c := s.chain.scan levels
    { s with chain := c }.hand (scanNotices s.chain c)

end Sys2Proof.Machine
end

