-- ==== Sys2Proof/Machine/Doors.lean ====
section
/-! DEFINITION. The door controller (05): the doors' states, outputs, timers and counts, the zones, and
the events and requests that act on them. -/

namespace Sys2Proof.Machine

/-! ## Outputs, counts and changes of state -/

/-- The three outputs in each state (R86). -/
def doorOutputs (k : DoorKind) : DoorState → DoorOutputs
  | .armed => ⟨true, false, false⟩
  | .opening => ⟨false, false, true⟩
  | .openHeld => ⟨decide (k = .swing), false, false⟩
  | .closing => ⟨false, decide (k = .sliding), false⟩
  | .closed => DoorOutputs.off
  | .obstructed => DoorOutputs.off
  | .fault => DoorOutputs.off
  | .isolated => DoorOutputs.off

/-- The door controller writes a position's outputs (R15). -/
def State.writeOutputs (s : State) (d : Fin 32) (o : DoorOutputs) : State :=
  { s with chain := { s.chain with outputs := s.chain.outputs.set d o } }

/-- The open-door counts as they are now (R101). -/
def State.countsNow (s : State) : OpenCounts := ⟨Vector.ofFn s.zoneOpenCount, s.seaOpenCount⟩

/-- The changes of the counts, as sources (R101): those of ZONE_OPEN_COUNT in ascending zone number, then
that of SEA_OPEN_COUNT, an order R101 leaves open (log entry 54). -/
def countNotices (old new : OpenCounts) : List Instr :=
  ((List.finRange 8).flatMap fun z =>
    if old.zone[z] = new.zone[z] then [] else [.sourceChange (.zoneOpenCount z) ⟨new.zone[z], true⟩]) ++
  (if old.sea = new.sea then [] else [.sourceChange .seaOpenCount ⟨new.sea, true⟩])

/-- The counts are recomputed, and each that changes is handed on (R101). -/
def State.recount (s : State) : State :=
  { s with openCounts := s.countsNow }.hand (countNotices s.openCounts s.countsNow)

/-- A change of DOOR_FAULT, at entry to FAULT and at exit from it (R99). -/
def faultNotices (d : Fin 32) (prev new : DoorState) : List Instr :=
  if new = .fault ∧ prev ≠ .fault then [.alarmSourceChange (.doorFault d) true]
  else if prev = .fault ∧ new ≠ .fault then [.alarmSourceChange (.doorFault d) false]
  else []

/-- The door enters a state: its outputs are written (R86), a change is reported and handed on, and
the counts recomputed, their changes after that of the state (R101). DOOR_FAULT is handed on last (R99;
log entry 54). -/
def State.enterDoor (s : State) (d : Fin 32) (new : DoorState) (cause : DoorCause) : State :=
  let prev := s.doors[d].state
  let t := (s.modDoor d fun x => { x with state := new }).writeOutputs d
    (doorOutputs s.settings.doors[d].kind new)
  let t := if prev = new then t
    else (t.report (.doorState d prev new cause)).hand [.sourceChange (.doorState d) ⟨new.code, true⟩]
  t.recount.hand (faultNotices d prev new)

/-- The door's three timers are stopped. -/
def DoorRecord.stopped (x : DoorRecord) : DoorRecord :=
  { x with travel := none, pause := none, conflict := none }

/-- The door is a sliding door. -/
def State.sliding (s : State) (d : Fin 32) : Bool := decide (s.settings.doors[d].kind = .sliding)

/-- The travel timer's length: the close limit (05, 5.2). -/
def State.travelTime (s : State) (d : Fin 32) : Nat := s.settings.doors[d].closeLimit * 1000

/-- Entry to OBSTRUCTED (R95). -/
def State.obstruct (s : State) (d : Fin 32) : State :=
  ((s.modDoor d fun x =>
    { x with travel := none, pause := some (s.settings.doors[d].pause * 1000) }).countDoor d
      fun n => { n with obstructions := saturate n.obstructions }).enterDoor d .obstructed .edge

/-- Entry to CLOSING (R93); a sliding door whose edge is asserted goes on to OBSTRUCTED at once, in the
same act. -/
def State.startClosing (s : State) (d : Fin 32) (cause : DoorCause) (edge : Bool) : State :=
  let t := (s.modDoor d fun x =>
    { x with
      closingSince := s.clock
      mark := s.uptime
      travel := some (s.travelTime d) }).enterDoor d .closing cause
  if s.sliding d && edge then t.obstruct d else t

/-- The end of a timed closing (R93, R95). -/
def State.closeTimed (s : State) (d : Fin 32) : State :=
  ((s.modDoor d fun x =>
    { x with
      travel := none
      pause := none
      lastClosed := s.clock
      closeDuration := some (s.uptime - x.mark)
      retry := 0 }).countDoor d fun n => { n with closures := saturate n.closures }).enterDoor d
        .closed .closedSwitch

/-- A door in OPEN_HELD shut by hand (R91). -/
def State.shutByHand (s : State) (d : Fin 32) : State :=
  ((s.modDoor d fun x => { x with lastClosed := s.clock }).countDoor d
    fun n => { n with closures := saturate n.closures }).enterDoor d .closed .closedSwitch

/-- A door leaves FAULT at the closed condition (R99). -/
def State.closeFault (s : State) (d : Fin 32) : State :=
  ((s.modDoor d fun x => { x with cause := none, lastClosed := s.clock, retry := 0 }).countDoor d
    fun n => { n with closures := saturate n.closures }).enterDoor d .closed .closedSwitch

/-- Entry to FAULT (R99). -/
def State.faultDoor (s : State) (d : Fin 32) (c : FaultCause) : State :=
  (s.modDoor d fun x => { x with travel := none, pause := none, cause := some c }).enterDoor d
    .fault c.doorCause

/-- A door's state is derived from its inputs (R85, R100, R108, R109). -/
def State.deriveDoor (s : State) (d : Fin 32) (cause : DoorCause) (i : DoorInputs) : State :=
  let t := s.modDoor d fun x =>
    { x.stopped with
      seen := i
      cause := none
      conflict := if i.conflict then some Config.conflictTime else none }
  if i.closedSwitch then t.enterDoor d .closed cause else t.startClosing d cause i.edge

/-! ## Holding and releasing -/

/-- A door in CLOSED is held (R87). -/
def State.holdDoor (s : State) (d : Fin 32) : State :=
  if s.sliding d then
    (s.modDoor d fun x => { x with travel := some (s.travelTime d) }).enterDoor d .opening .hold
  else s.enterDoor d .armed .hold

/-- A release, by request or by a zone's entry to ALARM (R92). The edge tested at the entry to CLOSING is the
one the latest door input change event left, not the chain's debounced level: the model's choice (log entry
58). -/
def State.releaseDoor (s : State) (d : Fin 32) (cause : DoorCause) : State :=
  let x := s.doors[d]
  if !x.state.heldOpen then s
  else
    let t := (s.modDoor d fun x => { x with lastRelease := s.clock, retry := 0 }).countDoor d
      fun n => { n with releases := saturate n.releases }
    if x.state = .armed ∧ x.seen.closedSwitch then t.enterDoor d .closed cause
    else t.startClosing d cause x.seen.edge

/-- Every door of a list released, in its order. -/
def State.releaseDoors (s : State) (ds : List (Fin 32)) (cause : DoorCause) : State :=
  ds.foldl (fun s d => s.releaseDoor d cause) s

/-! ## Zones -/

/-- Entry to ALARM (R105). The order of what it hands on is the model's: the released doors' states and
counts, the trim, the post, FIRE z, the output lines and the evaluator's ZONE_ALARM (log entries 26,
54). -/
def State.enterAlarm (s : State) (z : Fin 8) : State :=
  let cause : ZoneCause := if s.fireHolds z then .fireInput else .manual
  let t := (s.modZone z fun x => { x with alarm := true, since := some s.clock }).report
    (.zoneState z true cause)
  (t.releaseDoors (s.zoneDoors z) .zoneAlarm).hand
    [.recallTrim z, .evacuatePost z, .alarmSourceChange (.fire z) true,
     .outputLineSourceChange (.zoneAlarm z) true, .sourceChange (.zoneAlarm z) ⟨1, true⟩]

/-- Exit from ALARM (R106): FIRE z, the output lines and the evaluator, in the order R106 lists them
(log entry 54). -/
def State.exitAlarm (s : State) (z : Fin 8) (cause : ZoneCause) : State :=
  ((s.modZone z fun x => { x with alarm := false }).report (.zoneState z false cause)).hand
    [.alarmSourceChange (.fire z) false, .outputLineSourceChange (.zoneAlarm z) false,
     .sourceChange (.zoneAlarm z) ⟨0, true⟩]

/-- The zone's alarm condition is evaluated (R102); `part` is the part of the condition the event bears
on, the cause of an exit (R106). -/
def State.evalZone (s : State) (z : Fin 8) (part : ZoneCause) : State :=
  if s.zoneCondition z = s.zones[z].alarm then s
  else if s.zoneCondition z then s.enterAlarm z
  else s.exitAlarm z part

/-! ## Door events -/

/-- The conflict timer at a door input change event (R98). -/
def conflictTimer (was now : DoorInputs) (t : Option Nat) : Option Nat :=
  if !now.conflict then none else if was.conflict then t else some Config.conflictTime

/-- A door input change event at a fitted door that is not ISOLATED, by its state. `was` is the inputs
before it (R89 to R91, R93, R95, R97, R99). -/
def State.doorEvent (s : State) (d : Fin 32) (was i : DoorInputs) : State :=
  match s.doors[d].state with
  | .closed =>
    if was.closedSwitch && !i.closedSwitch then
      (s.modDoor d fun x => { x with retry := 0 }).startClosing d .passage i.edge
    else s
  | .armed => if i.openCond then s.enterDoor d .openHeld .openSwitch else s
  | .opening =>
    if i.openCond then
      (s.modDoor d fun x => { x with travel := none }).enterDoor d .openHeld .openSwitch
    else s
  | .openHeld =>
    if i.closedCond then s.shutByHand d
    else if was.openSwitch && !i.openSwitch then s.startClosing d .lostHold i.edge
    else s
  | .closing =>
    if i.closedCond then s.closeTimed d
    else if s.sliding d && i.edge && !was.edge then s.obstruct d
    else s
  | .obstructed => if i.closedCond then s.closeTimed d else s
  | .fault => if i.closedCond then s.closeFault d else s
  | .isolated => s

/-- DOOR_INPUT_CHANGE (R14, R85, R98, R100). -/
def execDoorInputChange (d : Fin 32) (inputs : DoorInputs) (s : State) : Result :=
  runEvent (.doorInputChange d inputs) s fun s =>
    let was := s.doors[d].seen
    let t := s.modDoor d fun x => { x with seen := inputs }
    if !s.doorFitted d || decide (s.doors[d].state = .isolated) then t
    else
      (t.modDoor d fun x => { x with conflict := conflictTimer was inputs x.conflict }).doorEvent d
        was inputs

/-- TRAVEL_TIMER_EXPIRY (R90, R94). -/
def execTravelTimerExpiry (d : Fin 32) (s : State) : Result :=
  runEvent (.travelTimerExpiry d) s fun s =>
    if s.doors[d].travel = none then s
    else
      let t := s.modDoor d fun x => { x with travel := none }
      match s.doors[d].state with
      | .closing => t.faultDoor d .closeTime
      | .opening => t.faultDoor d .openTime
      | _ => t

/-- PAUSE_TIMER_EXPIRY (R96). The edge tested at the entry to CLOSING is the one the latest door input change
event left: the model's choice (log entry 58). -/
def execPauseTimerExpiry (d : Fin 32) (s : State) : Result :=
  runEvent (.pauseTimerExpiry d) s fun s =>
    if s.doors[d].pause = none then s
    else
      let t := s.modDoor d fun x => { x with pause := none }
      if s.doors[d].state ≠ .obstructed then t
      else if s.doors[d].retry < s.settings.doors[d].maxRetries then
        (t.modDoor d fun x => { x with retry := x.retry + 1 }).startClosing d .retry
          s.doors[d].seen.edge
      else t.faultDoor d .retries

/-- CONFLICT_TIMER_EXPIRY (R98). -/
def execConflictTimerExpiry (d : Fin 32) (s : State) : Result :=
  runEvent (.conflictTimerExpiry d) s fun s =>
    if s.doors[d].conflict = none then s
    else
      let t := s.modDoor d fun x => { x with conflict := none }
      match s.doors[d].state with
      | .fault => t
      | .isolated => t
      | _ => t.faultDoor d .switches

/-- FIRE_INPUT_CHANGE (R102). -/
def execFireInputChange (z : Fin 8) (asserted : Bool) (s : State) : Result :=
  runEvent (.fireInputChange z asserted) s fun s =>
    (s.modZone z fun x => { x with fire := asserted }).evalZone z .fireInput

/-! ## Door and zone requests -/

/-- One byte of a door's state in a reply. -/
def State.doorCode (s : State) (d : Fin 32) : Byte := byte s.doors[d].state.code

/-- A count and pairs of door number and state (12.6). -/
def State.doorPairs (s : State) (ds : List (Fin 32)) : List Byte :=
  [byte ds.length] ++ ds.flatMap fun (d : Fin 32) => [byte d, s.doorCode d]

/-- DOOR HOLD naming one door (R87). -/
def execDoorHold (l : Link) (tag : Byte) (door : Nat) (s : State) : Result :=
  runRequest (.doorHold l tag door) l tag s fun s =>
    match s.fittedDoor? door with
    | none => deny s .badField
    | some d =>
      if s.zones[s.settings.doors[d].zone].alarm then deny s .zoneInAlarm
      else if s.doors[d].state ≠ .closed then deny s .state
      else done (s.holdDoor d) [(s.holdDoor d).doorCode d]

/-- The doors of a zone that are CLOSED, and those that are not. -/
def State.closedDoor (s : State) (d : Fin 32) : Bool := decide (s.doors[d].state = .closed)

/-- DOOR HOLD naming a zone (R88). -/
def execDoorHoldZone (l : Link) (tag : Byte) (zone : Nat) (s : State) : Result :=
  runRequest (.doorHoldZone l tag zone) l tag s fun s =>
    match finOf? 8 zone with
    | none => deny s .badField
    | some z =>
      if s.zones[z].alarm then deny s .zoneInAlarm
      else
        let ds := s.zoneDoors z
        done ((ds.filter s.closedDoor).foldl State.holdDoor s)
          (s.doorPairs (ds.filter fun d => !s.closedDoor d))

/-- DOOR RELEASE naming one door (R92). -/
def execDoorRelease (l : Link) (tag : Byte) (door : Nat) (s : State) : Result :=
  runRequest (.doorRelease l tag door) l tag s fun s =>
    match s.fittedDoor? door with
    | none => deny s .badField
    | some d => done (s.releaseDoor d .release) [(s.releaseDoor d .release).doorCode d]

/-- DOOR RELEASE naming a zone (R92). -/
def execDoorReleaseZone (l : Link) (tag : Byte) (zone : Nat) (s : State) : Result :=
  runRequest (.doorReleaseZone l tag zone) l tag s fun s =>
    match finOf? 8 zone with
    | none => deny s .badField
    | some z =>
      let t := s.releaseDoors (s.zoneDoors z) .release
      done t (t.doorPairs ((s.zoneDoors z).filter fun d => s.doors[d].state.heldOpen))

/-- A door is isolated (R100). -/
def State.isolateDoor (s : State) (d : Fin 32) : State :=
  (s.modDoor d fun x => { x.stopped with retry := 0, cause := none }).enterDoor d .isolated .isolate

/-- DOOR ISOLATE (R100). -/
def execDoorIsolate (l : Link) (tag : Byte) (door : Nat) (s : State) : Result :=
  runRequest (.doorIsolate l tag door) l tag s fun s =>
    match s.fittedDoor? door with
    | none => deny s .badField
    | some d =>
      if !s.atService l then deny s .level
      else if s.doors[d].state = .isolated then done s []
      else done (s.isolateDoor d) []

/-- DOOR RESTORE (R100). -/
def execDoorRestore (l : Link) (tag : Byte) (door : Nat) (s : State) : Result :=
  runRequest (.doorRestore l tag door) l tag s fun s =>
    match s.fittedDoor? door with
    | none => deny s .badField
    | some d =>
      if !s.atService l then deny s .level
      else if s.doors[d].state ≠ .isolated then deny s .state
      else
        let t := s.deriveDoor d .restore s.chain.levels[d]
        done t [t.doorCode d]

/-- ZONE ALARM (R103). -/
def execZoneAlarm (l : Link) (tag : Byte) (zone action : Nat) (s : State) : Result :=
  runRequest (.zoneAlarm l tag zone action) l tag s fun s =>
    match finOf? 8 zone, boolOfCode action with
    | some z, some raised =>
      if l = .localLink then deny s .noAuthority
      else
        let t := (s.modZone z fun x => { x with manual := raised }).evalZone z .manual
        done t [boolByte t.zones[z].alarm]
    | _, _ => deny s .badField

/-! ## Door and zone settings -/

/-- A door whose kind becomes NONE: CLOSED, outputs off, no timer running (R85, R109). -/
def State.unfitDoor (s : State) (d : Fin 32) : State :=
  (s.modDoor d fun x => { x.stopped with cause := none }).enterDoor d .closed .settings

/-- The door acts on a change of its kind from `old`, its new settings being in force (R85, R109). -/
def State.rekindDoor (s : State) (d : Fin 32) (old : DoorKind) : State :=
  let new := s.settings.doors[d].kind
  if new = old then s
  else if new = .absent then s.unfitDoor d
  else if old ≠ .absent ∧ (s.doors[d].state = .closed ∨ s.doors[d].state = .isolated) then s
  else s.deriveDoor d .settings s.chain.levels[d]

/-- The settings of a door become `x`, with the effects of the change (R85). -/
def State.rewriteDoor (s : State) (d : Fin 32) (x : DoorSettings) : State :=
  ({ s with settings :=
      { s.settings with doors := s.settings.doors.set d x } }.rekindDoor d s.settings.doors[d].kind).recount

/-- The settings of a zone become `x`; a new fire input enabled setting is acted on at once (R104). -/
def State.rewriteZone (s : State) (z : Fin 8) (x : ZoneSettings) : State :=
  let t := { s with settings := { s.settings with zones := s.settings.zones.set z x } }
  if x.fireEnabled = s.settings.zones[z].fireEnabled then t else t.evalZone z .fireInput

end Sys2Proof.Machine
end

