-- ==== Sys2Proof/Machine/SettingsStore.lean ====
section
/-! DEFINITION. The settings store, the counters and the clock (11): the nine settings writes, reading,
storing, READ COUNTERS, SET CLOCK and IDENTIFY. -/

namespace Sys2Proof.Machine

/-! ## SETTINGS WRITE (R176) -/

/-- One settings write, past the level: the values as taken, if each may be (check 2), the store
(check 3), the in-use test (check 4), then the write, which sets the unstored-changes flag. `data` is
the object, its index and the values taken. -/
def State.settingsWrite {α : Type} (s : State) (l : Link) (taken : Option α) (inUse : α → Bool)
    (write : α → State) (data : α → List Byte) : State × ReplyData :=
  if !s.atService l then deny s .level
  else match taken with
    | none => deny s .badField
    | some x =>
      if s.store.busy then deny s .busy
      else if inUse x then deny s .busy
      else
        let t := write x
        done { t with store := { t.store with unstored := true } } (data x)

/-- A pair of an index and the values taken, if both are. -/
def both {α β : Type} (a : Option α) (b : Option β) : Option (α × β) :=
  match a, b with
  | some x, some y => some (x, y)
  | _, _ => none

/-- Object, index and data, padded (12.6). -/
def objectData (object index : Nat) (data : List Byte) : List Byte :=
  [byte object, byte index] ++ padObject data

/-- An axis that a write makes unfitted: from TRIPPED it enters IDLE and its trip source returns (R17). -/
def State.unfitAxis (s : State) (a : Fin 4) : State :=
  if s.axes[a].state = .tripped then s.clearTrip a else s

/-- Two settings of an axis have one fitted setting and one pair of channels. -/
def sameSensors (x y : AxisSettings) : Bool :=
  decide (x.fitted = y.fitted) && decide (x.angleCh = y.angleCh) && decide (x.pressCh = y.pressCh)

/-- The settings of an axis become `x`, with the effects of the change: AXIS_SENSOR is evaluated where the
fitted setting or a channel is changed (R17, R43, R176), and handed on last (log entry 54). -/
def State.rewriteAxis (s : State) (a : Fin 4) (x : AxisSettings) : State :=
  let was := s.settings.axes[a]
  let t := { s with settings := { s.settings with axes := s.settings.axes.set a x } }
  let u := if was.fitted && !x.fitted then t.unfitAxis a else t
  if sameSensors was x then u else u.evalSensor a

/-- An axis in any state other than IDLE or TRIPPED keeps its settings from being written (R176). -/
def State.axisBusy (s : State) (a : Fin 4) : Bool := s.axes[a].state.active

/-- SETTINGS WRITE of AXIS (R17, R18, R176). -/
def execSettingsWriteAxis (l : Link) (tag : Byte) (index : Nat) (data : AxisData) (s : State) :
    Result :=
  runRequest (.settingsWriteAxis l tag index data) l tag s fun s =>
    s.settingsWrite l (both (finOf? 4 index) data.taken) (fun x => s.axisBusy x.1)
      (fun x => s.rewriteAxis x.1 x.2) fun x => objectData 0 x.1 x.2.data

/-- SETTINGS WRITE of DRIVE: the oil channel (R49, R176). -/
def execSettingsWriteDrive (l : Link) (tag : Byte) (index oil : Nat) (s : State) : Result :=
  runRequest (.settingsWriteDrive l tag index oil) l tag s fun s =>
    s.settingsWrite l (both (finOf? 1 index) (finOf? 12 oil)) (fun _ => false)
      (fun x => { s with settings := { s.settings with oil := x.2 } })
      fun x => objectData 1 0 [byte x.2]

/-- An axis that uses channel `k`, or any fitted axis where `k` is the oil channel, is in a state that
keeps the channel's settings from being written (R49, R176). -/
def State.channelBusy (s : State) (k : Fin 12) : Bool :=
  (List.finRange 4).any fun a =>
    s.axes[a].state.inUse &&
    (decide (s.settings.axes[a].angleCh = k) || decide (s.settings.axes[a].pressCh = k) ||
      (decide (s.settings.oil = k) && s.settings.axes[a].fitted))

/-- SETTINGS WRITE of CHANNEL (R7, R176). -/
def execSettingsWriteChannel (l : Link) (tag : Byte) (index : Nat) (data : ChannelData) (s : State) :
    Result :=
  runRequest (.settingsWriteChannel l tag index data) l tag s fun s =>
    s.settingsWrite l (both (finOf? 12 index) data.taken) (fun x => s.channelBusy x.1)
      (fun x => s.rewriteChannel x.1 x.2) fun x => objectData 2 x.1 x.2.data

/-- A door in any state other than CLOSED or ISOLATED keeps its settings from being written (R176). -/
def State.doorBusy (s : State) (d : Fin 32) : Bool :=
  decide (s.doors[d].state ≠ .closed) && decide (s.doors[d].state ≠ .isolated)

/-- SETTINGS WRITE of DOOR (R85, R176). -/
def execSettingsWriteDoor (l : Link) (tag : Byte) (index : Nat) (data : DoorData) (s : State) :
    Result :=
  runRequest (.settingsWriteDoor l tag index data) l tag s fun s =>
    s.settingsWrite l (both (finOf? 32 index) data.taken) (fun x => s.doorBusy x.1)
      (fun x => s.rewriteDoor x.1 x.2) fun x => objectData 3 x.1 x.2.data

/-- A write that would change the lane set of a zone in ALARM (R104, R176). -/
def State.zoneBusy (s : State) (z : Fin 8) (x : ZoneSettings) : Bool :=
  s.zones[z].alarm && decide (x.lanes ≠ s.settings.zones[z].lanes)

/-- SETTINGS WRITE of ZONE (R104, R176). -/
def execSettingsWriteZone (l : Link) (tag : Byte) (index : Nat) (data : ZoneData) (s : State) :
    Result :=
  runRequest (.settingsWriteZone l tag index data) l tag s fun s =>
    s.settingsWrite l (both (finOf? 8 index) data.taken) (fun x => s.zoneBusy x.1 x.2)
      (fun x => s.rewriteZone x.1 x.2) fun x => objectData 4 x.1 x.2.data

/-- N and B become what a write carries, clamped (R139, R140). -/
def State.rewriteScanner (s : State) (n b : Nat) : State :=
  let t := { s with settings := { s.settings with boards := n, blanking := b } }
  t.hand (t.firstFrame s.settings.boards)

/-- SETTINGS WRITE of SCANNER (R139, R140, R176). -/
def execSettingsWriteScanner (l : Link) (tag : Byte) (index boards blanking : Nat) (s : State) :
    Result :=
  runRequest (.settingsWriteScanner l tag index boards blanking) l tag s fun s =>
    s.settingsWrite l (finOf? 1 index) (fun _ => false)
      (fun _ => s.rewriteScanner (min boards 16) (clamp 1 4 blanking))
      fun _ => objectData 5 0 [byte (min boards 16), byte (clamp 1 4 blanking)]

/-- SETTINGS WRITE of ROUTING: both trip lines are re-evaluated in the same act (R156, R176). -/
def execSettingsWriteRouting (l : Link) (tag : Byte) (index : Nat) (data : RoutingData) (s : State) :
    Result :=
  runRequest (.settingsWriteRouting l tag index data) l tag s fun s =>
    s.settingsWrite l (both (finOf? 1 index) data.taken) (fun _ => false)
      (fun x => { s with settings := { s.settings with routing := x.2 } }.evalLines)
      fun x => objectData 6 0 x.2.data

/-- A write of an output's settings would close a loop (R119, R161, check 3). -/
def State.outputLoops (s : State) (k : Fin 8) (x : OutputSettings) : Bool :=
  match x.source with
  | .permissive _ => looped { s.settings with outputs := s.settings.outputs.set k x }
  | _ => false

/-- SETTINGS WRITE of OUTPUT (R161, R176). The loop is judged after the store (log entry 21). -/
def execSettingsWriteOutput (l : Link) (tag : Byte) (index : Nat) (data : OutputData) (s : State) :
    Result :=
  runRequest (.settingsWriteOutput l tag index data) l tag s fun s =>
    match both (finOf? 8 index) (s.outputTaken data) with
    | some x =>
      if s.atService l && !s.store.busy && s.outputLoops x.1 x.2 then deny s .state
      else s.settingsWrite l (some x) (fun _ => false) (fun x => s.rewriteOutput x.1 x.2)
        fun x => objectData 7 x.1 x.2.data
    | none => s.settingsWrite l (none : Option Unit) (fun _ => false) (fun _ => s) fun _ => []

/-- SETTINGS WRITE of LINK: the supervision time (R169, R176). -/
def execSettingsWriteLink (l : Link) (tag : Byte) (index time : Nat) (s : State) : Result :=
  runRequest (.settingsWriteLink l tag index time) l tag s fun s =>
    let t := clamp 500 10000 time
    s.settingsWrite l (Link.ofCode index) (fun _ => false)
      (fun m => { s with settings :=
        { s.settings with supervision := s.settings.supervision.set m t } })
      fun m => objectData 8 m.code (be16 t)

/-- What SETTINGS WRITE answers to an object code that is not one of the nine (R176). -/
def State.undefinedObject (s : State) (l : Link) : RefusalCode :=
  if s.atService l then .badField else .level

/-! ## SETTINGS READ (R177) -/

/-- The settings of a named object in the layouts of 12.8; `none` where the object or index is
undefined. -/
def Settings.objectBytes (x : Settings) (object index : Nat) : Option (List Byte) :=
  match object with
  | 0 => (finOf? 4 index).map fun a => x.axes[a].data
  | 1 => (finOf? 1 index).map fun _ => [byte x.oil]
  | 2 => (finOf? 12 index).map fun k => x.channels[k].data
  | 3 => (finOf? 32 index).map fun d => x.doors[d].data
  | 4 => (finOf? 8 index).map fun z => x.zones[z].data
  | 5 => (finOf? 1 index).map fun _ => [byte x.boards, byte x.blanking]
  | 6 => (finOf? 1 index).map fun _ => x.routing.data
  | 7 => (finOf? 8 index).map fun k => x.outputs[k].data
  | 8 => (Link.ofCode index).map fun l => be16 (x.supervision.get l)
  | 9 => (finOf? 64 index).map fun t => x.terms[t].data
  | 10 => (finOf? 16 index).map fun p =>
      byte x.permissives[p].length :: entriesData x.permissives[p]
  | 11 => (finOf? 64 index).map fun p => be32 x.patterns[p].toNat
  | _ => none

/-- SETTINGS READ (R177). -/
def execSettingsRead (l : Link) (tag : Byte) (object index : Nat) (s : State) : Result :=
  runRequest (.settingsRead l tag object index) l tag s fun s =>
    match Settings.objectBytes s.settings object index with
    | none => deny s .badField
    | some bs => done s (objectData object index bs ++ [boolByte s.store.unstored])

/-! ## Storing (R178) -/

/-- The copy a store begins to write: the working settings with the next revision and their CRC. -/
def State.copyToStore (s : State) : Image where
  settings := s.settings
  revision := if s.store.revision = 65535 then 0 else s.store.revision + 1
  crcGood := true

/-- STORE SETTINGS (R178). -/
def execStoreSettings (l : Link) (tag : Byte) (s : State) : Result :=
  runRequest (.storeSettings l tag) l tag s fun s =>
    if !s.atService l then deny s .level
    else if s.store.busy then deny s .busy
    else ({ s with store := { s.store with inFlight := some s.copyToStore } }, .accepted [])

/-- The end of a store: the image read back is `img`, the copy taken was `copy` (R178). -/
def State.endStore (s : State) (copy img : Image) : State :=
  if img = copy then
    { s with store :=
      { s.store with
        image := img
        inFlight := none
        revision := copy.revision
        unstored := false } }.report (.storeResult true copy.revision)
  else
    { s with store := { s.store with image := img, inFlight := none } }.report
      (.storeResult false s.store.revision)

/-- STORE_COMPLETION. What the storage reads back is the event's operand: `none` stands for the copy
itself (R178; log entry 9). -/
def execStoreCompletion (readBack : Option Image) (s : State) : Result :=
  runEvent (.storeCompletion readBack) s fun s =>
    match s.store.inFlight with
    | none => s
    | some copy => s.endStore copy (readBack.getD copy)

/-! ## Counters (R181) -/

/-- The counters of a group, 4 bytes each, after the group code (12.6). -/
def Counters.groupBytes (c : Counters) : Nat → Option (List Byte)
  | 0 => some (byte 0 :: c.axes.toList.flatMap fun k =>
      be32 k.reached ++ be32 k.otherwise ++ be32 k.trips)
  | 1 => some (byte 1 :: (c.doors.toList.take 16).flatMap fun k =>
      be32 k.releases ++ be32 k.closures ++ be32 k.obstructions)
  | 2 => some (byte 2 :: (c.doors.toList.drop 16).flatMap fun k =>
      be32 k.releases ++ be32 k.closures ++ be32 k.obstructions)
  | 3 => some (byte 3 :: [c.links.bridge, c.links.localLink].flatMap fun k =>
      be32 k.good ++ be32 k.crc ++ be32 k.gap ++ be32 k.overrun ++ be32 k.discarded)
  | _ => none

/-- Every counter of a group set to 0. -/
def Counters.cleared (c : Counters) : Nat → Counters
  | 0 => { c with axes := Counters.zero.axes }
  | 1 => { c with doors := Vector.ofFn fun d => if d.val < 16 then ⟨0, 0, 0⟩ else c.doors[d] }
  | 2 => { c with doors := Vector.ofFn fun d => if d.val < 16 then c.doors[d] else ⟨0, 0, 0⟩ }
  | 3 => { c with links := Counters.zero.links }
  | _ => c

/-- READ COUNTERS (R181). -/
def execReadCounters (l : Link) (tag : Byte) (group clear : Nat) (s : State) : Result :=
  runRequest (.readCounters l tag group clear) l tag s fun s =>
    match s.counters.groupBytes group, boolOfCode clear with
    | some bs, some c => done (if c then { s with counters := s.counters.cleared group } else s) bs
    | _, _ => deny s .badField

/-! ## Clock and identity (R182) -/

/-- SET CLOCK (R182). -/
def execSetClock (l : Link) (tag : Byte) (value : DeckTime) (s : State) : Result :=
  runRequest (.setClock l tag value) l tag s fun s =>
    done { s with clock := value } (be32 value.toNat)

/-- The identity block (12.6). The part revision is a free value (log entry 17). -/
def State.identity (s : State) : List Byte :=
  be16 Config.partCode ++ [byte (Config.partRevisionLessOne.val + 1)] ++ be16 s.store.revision ++
  [bitsByte [s.store.defaulted, s.store.unstored, s.store.busy]] ++ be32 s.clock.toNat

/-- IDENTIFY (R182). -/
def execIdentify (l : Link) (tag : Byte) (s : State) : Result :=
  runRequest (.identify l tag) l tag s fun s => done s s.identity

end Sys2Proof.Machine
end

