-- ==== Sys2Proof/Machine/Clock.lean ====
section
/-! DEFINITION. What the part does of itself when no command waits: the notices it has handed on, the
frames it takes, the timers that run out, and the passing of one millisecond (log entries 1 and 3). -/

namespace Sys2Proof.Machine

/-! ## One millisecond -/

/-- A running timer one millisecond on. -/
def tickTimer (t : Option Nat) : Option Nat := t.map (· - 1)

def AxisRecord.tick (x : AxisRecord) : AxisRecord :=
  { x with
    warning := tickTimer x.warning
    motionTimer := tickTimer x.motionTimer
    refresh := tickTimer x.refresh }

def Authority.tick (x : Authority) : Authority :=
  { x with request := x.request.map fun r => { r with deadline := r.deadline - 1 } }

def DoorRecord.tick (x : DoorRecord) : DoorRecord :=
  { x with
    travel := tickTimer x.travel
    pause := tickTimer x.pause
    conflict := tickTimer x.conflict }

def CallTable.tick (t : CallTable) : CallTable :=
  { t with
    table := t.table.map fun c => { c with timer := tickTimer c.timer }
    chimeTimer := tickTimer t.chimeTimer }

/-- A thousand ticks of 1 µs of the frame in progress (R57). -/
def Generator.tick (g : Generator) : Generator := { g with position := g.position + 1000 }

def ScanFrame.tick (f : ScanFrame) : ScanFrame := { f with position := f.position + 1 }

def LinkController.tick (c : LinkController) : LinkController := { c with timer := tickTimer c.timer }

/-- One elapsed millisecond: the deck clock counts and every running timer runs (R182; log entry 3). -/
def State.tick (s : State) : State :=
  { s with
    clock := s.clock + 1
    uptime := s.uptime + 1
    axes := Vector.ofFn fun a => s.axes[a].tick
    valves := Vector.ofFn fun a => s.valves[a].tick
    station := { s.station with auth := Vector.ofFn fun a => s.station.auth[a].tick }
    doors := Vector.ofFn fun d => s.doors[d].tick
    calls := s.calls.tick
    scanner := { s.scanner with frame := s.scanner.frame.map ScanFrame.tick }
    links := ⟨s.links.bridge.tick, s.links.localLink.tick⟩ }

/-! ## What is due -/

/-- An event where its timer has run out. -/
def ifDue (t : Option Nat) (i : Instr) : List Instr := if t = some 0 then [i] else []

/-- What is due of an axis, in an order that no rule gives (log entry 1). -/
def State.dueOfAxis (s : State) (a : Fin 4) : List Instr :=
  let x := s.axes[a]
  ifDue x.warning (.warningTimerExpiry a) ++ ifDue x.motionTimer (.motionTimerExpiry a) ++
  ifDue x.refresh (if x.state = .manual then .manualRefreshExpiry a else .jogRefreshExpiry a) ++
  ifDue (s.station.auth[a].request.map (·.deadline)) (.deadlineExpiry a) ++
  (if Config.frameTicks ≤ s.valves[a].position then [.valveFrameStart a] else [])

/-- What is due of a door, in an order that no rule gives (log entry 1). -/
def State.dueOfDoor (s : State) (d : Fin 32) : List Instr :=
  let x := s.doors[d]
  ifDue x.travel (.travelTimerExpiry d) ++ ifDue x.pause (.pauseTimerExpiry d) ++
  ifDue x.conflict (.conflictTimerExpiry d)

/-- The call durations that have run out, in table order, and then the CHIME timer: an order that no rule gives,
the model's choice (log entry 1). -/
def State.dueOfCalls (s : State) : List Instr :=
  s.calls.table.flatMap (fun c => ifDue c.timer (.durationTimerExpiry c.number)) ++
  ifDue s.calls.chimeTimer .chimeTimerExpiry

/-- The end of a scan frame: the next one starts, or with N = 0 none does (R139, R140). -/
def State.dueOfScanner (s : State) : List Instr :=
  match s.scanner.frame with
  | none => []
  | some f =>
    if f.position < f.boards + f.blanking then []
    else if s.settings.boards = 0 then [.lastScanFrameEnd]
    else [.boardFrameStart]

/-- Every timer that has run out and every frame that has ended, axes and doors in ascending number, the bridge
before the local link (order: log entry 1). -/
def State.due (s : State) : List Instr :=
  (List.finRange 4).flatMap s.dueOfAxis ++ (List.finRange 32).flatMap s.dueOfDoor ++ s.dueOfCalls ++
  s.dueOfScanner ++ ifDue s.links.bridge.timer (.linkLost .bridge) ++
  ifDue s.links.localLink.timer (.linkLost .localLink)

/-! ## What the part does next of itself -/

/-- An act of the part's own: a command it takes, a frame it refuses itself, a millisecond, or, when it
does not run, nothing. -/
inductive OwnAct
  | command (i : Instr)
  | refuse (l : Link) (f : Frame) (code : RefusalCode)
  | tick
  | rest
  deriving DecidableEq, Repr

/-- What taking a waiting frame comes to (R167, R176). -/
def State.actOfFrame (s : State) (l : Link) (f : Frame) : OwnAct :=
  match decodeFrame l f with
  | .request i => .command i
  | .refuse code => .refuse l f code
  | .undefinedObject => .refuse l f (s.undefinedObject l)

/-- The notices in order first, then a frame that can be taken, then what is due, else a millisecond
(log entry 1). -/
def State.ownAct (s : State) : OwnAct :=
  if s.power ≠ .running then .rest
  else match s.handed, s.links.bridge.takes, s.links.localLink.takes, s.due with
    | i :: _, _, _, _ => .command i
    | [], some f, _, _ => s.actOfFrame .bridge f
    | [], none, some f, _ => s.actOfFrame .localLink f
    | [], none, none, i :: _ => .command i
    | [], none, none, [] => .tick

end Sys2Proof.Machine
end

