-- ==== Sys2Proof/Machine/AxisEvents.lean ====
section
/-! DEFINITION. The events of the axis controllers and the valve drive generators (02, 03). An axis
whose fitted setting is no is not acted on (R17). -/

namespace Sys2Proof

/-- The cause a change of holder gives (R41). -/
def HolderReason.outcome : HolderReason → MotionOutcome
  | .linkLost => .linkLost
  | .passed => .stationTaken

namespace Machine

/-- An event acts on a fitted axis only (R17). -/
def State.ifFitted (s : State) (a : Fin 4) (f : State → State) : State :=
  if s.settings.axes[a].fitted then f s else s

/-- AXIS_UPDATE: the completion notice of the angle channel (R25). -/
def execAxisUpdate (a : Fin 4) (angle : Reading) (s : State) : Result :=
  runEvent (.axisUpdate a angle) s fun s => s.ifFitted a (·.updateAxis a angle)

/-- PRESSURE_CHECK: the completion notice of the pressure channel (R63). -/
def execPressureCheck (a : Fin 4) (pressure : Reading) (s : State) : Result :=
  runEvent (.pressureCheck a pressure) s (·.pressureNotice a pressure)

/-- The angle channel became INVALID (R31). -/
def State.angleLost (s : State) (a : Fin 4) : State :=
  match s.axes[a].state with
  | .warning => s.enterRest a .idle .sensorLost
  | .moving => s.enterStopping a .sensorLost
  | .settling => s.enterStopping a .sensorLost
  | .stopping => s
  | .jogging => s
  | .manual => s
  | .idle => s
  | .tripped => s

/-- ANGLE_VALIDITY_CHANGE (R31, R43); AXIS_SENSOR is handed on after the change of state (log entry 54). -/
def execAngleValidityChange (a : Fin 4) (valid : Bool) (s : State) : Result :=
  runEvent (.angleValidityChange a valid) s fun s =>
    s.ifFitted a fun s => (if valid then s else s.angleLost a).evalSensor a

/-- PRESSURE_VALIDITY_CHANGE acts on the AXIS_SENSOR source alone (R31, R43). -/
def execPressureValidityChange (a : Fin 4) (valid : Bool) (s : State) : Result :=
  runEvent (.pressureValidityChange a valid) s fun s => s.ifFitted a (·.evalSensor a)

/-- DISABLING_NOTICE: an axis in STOPPING has no further updates and comes to rest at once (R29). -/
def execDisablingNotice (a : Fin 4) (s : State) : Result :=
  runEvent (.disablingNotice a) s fun s =>
    s.ifFitted a fun s =>
      if s.axes[a].state = .stopping then s.enterRest a .idle s.axes[a].outcome else s

/-- LIMIT_SWITCH_CHANGE (R32). -/
def execLimitSwitchChange (a : Fin 4) (side : Direction) (asserted : Bool) (s : State) : Result :=
  runEvent (.limitSwitchChange a side asserted) s fun s =>
    s.ifFitted a fun s => if asserted && s.axes[a].meets side then s.limitMet a else s

/-- PERMISSIVE_SLOT_CHANGE (R27). -/
def execPermissiveSlotChange (a : Fin 4) (dir : Direction) (result : Bool) (s : State) : Result :=
  runEvent (.permissiveSlotChange a dir result) s fun s =>
    s.ifFitted a fun s =>
      if result = false ∧ s.axes[a].state = .moving ∧ s.axes[a].direction = some dir then
        s.enterStopping a .permissiveLost
      else s

/-- HOLDER_CHANGE (R41). -/
def execHolderChange (a : Fin 4) (reason : HolderReason) (s : State) : Result :=
  runEvent (.holderChange a reason) s fun s =>
    s.ifFitted a fun s =>
      if s.axes[a].state = .manual then s.endSession a reason.outcome
      else s.endTravel a reason.outcome

/-- DECK_HOLD_NOTICE (R42). -/
def execDeckHoldNotice (a : Fin 4) (s : State) : Result :=
  runEvent (.deckHoldNotice a) s fun s =>
    s.ifFitted a fun s =>
      match s.axes[a].state with
      | .manual => s.endSession a .held
      | .stopping => s.modAxis a fun x => { x with stopOutcome := some .held }
      | _ => s.endTravel a .held

/-- LOSS_OF_SERVICE_LEVEL: the link that fell, where it holds an axis in MANUAL, loses the session
(R40). -/
def execLossOfServiceLevel (a : Fin 4) (l : Link) (s : State) : Result :=
  runEvent (.lossOfServiceLevel a l) s fun s =>
    s.ifFitted a fun s =>
      if s.axes[a].state = .manual ∧ s.holder a = some l then s.endSession a .stopped else s

/-- STOP_LINE_CHANGE: an assertion brings an active axis to IDLE at once, with a cut (R33). -/
def execStopLineChange (a : Fin 4) (asserted : Bool) (s : State) : Result :=
  runEvent (.stopLineChange a asserted) s fun s =>
    s.ifFitted a fun s =>
      if asserted && s.axes[a].state.active then (s.cut a).endSession a .pumpStop else s

/-- WARNING_TIMER_EXPIRY (R24). -/
def execWarningTimerExpiry (a : Fin 4) (s : State) : Result :=
  runEvent (.warningTimerExpiry a) s fun s =>
    if s.axes[a].warning = none then s
    else
      let t := s.modAxis a fun x => { x with warning := none }
      let d := s.axes[a].direction.getD .raise
      if s.axes[a].state ≠ .warning then t
      else if !s.permits a d then t.enterRest a .idle .notPermitted
      else if s.limit a d then t.enterRest a .idle .limit
      else
        (t.modAxis a fun x =>
          { x with motionTimer := some (s.settings.axes[a].motionLimit * 1000) }).travel a .moving

/-- MOTION_TIMER_EXPIRY (R28); the raise of AXIS_TIMEOUT is handed on before the change of state (log
entry 54). -/
def execMotionTimerExpiry (a : Fin 4) (s : State) : Result :=
  runEvent (.motionTimerExpiry a) s fun s =>
    if s.axes[a].motionTimer = none then s
    else
      let t := s.modAxis a fun x => { x with motionTimer := none }
      match s.axes[a].state with
      | .moving => (t.hand [.momentaryRaise (.axisTimeout a)]).enterStopping a .timeout
      | .settling => (t.hand [.momentaryRaise (.axisTimeout a)]).enterStopping a .timeout
      | .jogging => (t.hand [.momentaryRaise (.axisTimeout a)]).enterStopping a .timeout
      | _ => t

/-- JOG_REFRESH_EXPIRY (R37). -/
def execJogRefreshExpiry (a : Fin 4) (s : State) : Result :=
  runEvent (.jogRefreshExpiry a) s fun s =>
    if s.axes[a].refresh = none ∨ s.axes[a].state = .manual then s
    else
      let t := s.modAxis a fun x => { x with refresh := none }
      if s.axes[a].state = .jogging then t.enterStopping a .jogReleased else t

/-- MANUAL_REFRESH_EXPIRY: c becomes 0, the staged value and the state are kept (R39). -/
def execManualRefreshExpiry (a : Fin 4) (s : State) : Result :=
  runEvent (.manualRefreshExpiry a) s fun s =>
    if s.axes[a].refresh ≠ none ∧ s.axes[a].state = .manual then
      (s.modAxis a fun x => { x with refresh := none }).setC a 0
    else s

/-- VALVE_FRAME_START (R57 to R59). -/
def execValveFrameStart (a : Fin 4) (s : State) : Result :=
  runEvent (.valveFrameStart a) s fun s => s.modValve a Generator.frameStart

end Machine

end Sys2Proof
end

