-- ==== Sys2Proof/Machine/Calls.lean ====
section
/-! DEFINITION. The call controller (07): admission and removal of driver calls, acknowledgement,
trimming and the CHIME line. -/

namespace Sys2Proof.Machine

/-! ## Numbering (R125) -/

/-- The number after `n`, wrapping from 255 to 1. -/
def nextNumber (n : Nat) : Nat := if n < 255 then n + 1 else 1

/-- The first number from `n` that is not in use, tried at most `fuel` times. -/
def firstFree (used : List Nat) : Nat → Nat → Nat
  | 0, n => n
  | fuel + 1, n => if used.contains n then firstFree used fuel (nextNumber n) else n

/-- The number the next admission gives. -/
def CallTable.freeNumber (t : CallTable) : Nat := firstFree (t.table.map (·.number)) 255 t.number

/-- Calls numbered in table order from `n`. -/
def resequence : List Call → Nat → List Call
  | [], _ => []
  | c :: rest, n => { c with sequence := n } :: resequence rest (n + 1)

/-- The table as an admission finds it: renumbered when the sequence counter stands at its top. -/
def CallTable.ready (t : CallTable) : CallTable :=
  if t.sequence < Config.counterTop then t
  else { t with table := resequence t.table 1, sequence := t.table.length + 1 }

/-- The call as it is admitted: number, sequence number, admission time and timer given (R125, R127). -/
def CallTable.stamp (t : CallTable) (c : Call) (now : DeckTime) : Call :=
  { c with
    number := t.freeNumber
    acked := 0
    timer := if c.duration = 0 then none else some (c.duration * 1000)
    admitted := now
    sequence := t.ready.sequence }

/-- The CHIME line is asserted and its timer started (R135). -/
def CallTable.ring (t : CallTable) : CallTable :=
  { t with chime := true, chimeTimer := some Config.chimeTime }

/-- The table after the admission of `c`. -/
def CallTable.enter (t : CallTable) (c : Call) (now : DeckTime) : CallTable :=
  let u := { t.ready with
    table := t.ready.table ++ [t.stamp c now]
    number := nextNumber t.freeNumber
    sequence := t.ready.sequence + 1 }
  if c.chime then u.ring else u

/-- A call is admitted: it joins the end of the table, is reported and may ring (R127 to R129). -/
def State.admitCall (s : State) (c : Call) : State :=
  { s with calls := s.calls.enter c s.clock }.report (.callAdmitted (s.calls.stamp c s.clock))

/-! ## Removal -/

/-- The item a removal adds to the removed-call list (R129). -/
def RemovedCall.of (c : Call) (r : RemovalReason) (now : DeckTime) : RemovedCall :=
  ⟨c.number, c.kind, c.origin, c.lanes, c.acked, r, now⟩

/-- The removed-call list keeps the last eight removals (R129). -/
def CallTable.note (t : CallTable) (r : RemovedCall) : CallTable :=
  { t with removed := lastN Config.removedLimit (t.removed ++ [r]) }

/-- One removal, recorded and reported (R129). -/
def State.noteRemoval (s : State) (g : Call × RemovalReason) : State :=
  { s with calls := s.calls.note (RemovedCall.of g.1 g.2 s.clock) }.report (.callRemoved g.1 g.2)

/-- What an act makes of one call: kept as it then stands, or removed as it then stood. -/
abbrev Verdict := Call × Option RemovalReason

/-- The calls that stay in the table. -/
def CallTable.keep (t : CallTable) (cs : List Call) : CallTable := { t with table := cs }

/-- One act over the table, in table order: every call is judged, those removed leave it, and the
removals are recorded and reported in table order (R129). -/
def State.sweepCalls (s : State) (judge : Call → Verdict) : State :=
  let vs := s.calls.table.map judge
  (vs.filterMap fun v => v.2.map fun r => (v.1, r)).foldl State.noteRemoval
    { s with calls := s.calls.keep (vs.filterMap fun v => if v.2.isNone then some v.1 else none) }

/-- The calls a test picks are removed with one reason. -/
def removeIf (p : Call → Bool) (r : RemovalReason) (c : Call) : Verdict :=
  (c, if p c then some r else none)

/-! ## Automatic posts (R128) -/

/-- A call of the origin stands in the table. -/
def CallTable.hasOrigin (t : CallTable) (o : Origin) : Bool := t.table.any fun c => c.origin = o

/-- An automatic post adds no second call of its origin (R128). -/
def State.postAutomatic (s : State) (c : Call) : State :=
  if s.calls.hasOrigin c.origin then s else s.admitCall c

/-- The STAND_CLEAR call of an axis, its settings read as they stand (R128). -/
def State.standClearCall (s : State) (a : Fin 4) : Call where
  number := 0
  kind := .standClear
  priority := 6
  origin := .axis a
  lanes := s.settings.axes[a].warningLanes
  pattern := s.settings.axes[a].warningPattern
  chime := false
  ack := false
  acked := 0
  duration := 0
  timer := none
  admitted := 0
  sequence := 0

/-- The EVACUATE call of a zone (R128). -/
def State.evacuateCall (s : State) (z : Fin 8) : Call where
  number := 0
  kind := .evacuate
  priority := 7
  origin := .zone z
  lanes := s.settings.zones[z].lanes
  pattern := s.settings.zones[z].evacPattern
  chime := true
  ack := false
  acked := 0
  duration := 0
  timer := none
  admitted := 0
  sequence := 0

/-- STAND_CLEAR_POST (R128). -/
def execStandClearPost (a : Fin 4) (s : State) : Result :=
  runEvent (.standClearPost a) s fun s => s.postAutomatic (s.standClearCall a)

/-- EVACUATE_POST (R128). -/
def execEvacuatePost (z : Fin 8) (s : State) : Result :=
  runEvent (.evacuatePost z) s fun s => s.postAutomatic (s.evacuateCall z)

/-- STAND_CLEAR_REMOVAL (R132). -/
def execStandClearRemoval (a : Fin 4) (s : State) : Result :=
  runEvent (.standClearRemoval a) s fun s =>
    s.sweepCalls (removeIf (fun c => c.origin = .axis a) .axisIdle)

/-- A call before a withdrawal of lanes (R133). -/
def trimCall (lanes : LaneSet) (c : Call) : Verdict :=
  if c.kind ≠ .recall ∨ c.lanes &&& lanes = 0 then (c, none)
  else
    let t := { c with lanes := c.lanes &&& ~~~lanes, acked := c.acked &&& ~~~lanes }
    if t.lanes = 0 then (t, some .zoneAlarm)
    else if t.ack ∧ t.acked = t.lanes then (t, some .answered)
    else (t, none)

/-- RECALL_TRIM (R133). -/
def execRecallTrim (z : Fin 8) (s : State) : Result :=
  runEvent (.recallTrim z) s fun s => s.sweepCalls (trimCall s.settings.zones[z].lanes)

/-- A call before a press on lane `n` (R134). -/
def ackCall (n : Fin 16) (c : Call) : Verdict :=
  if c.ack && laneIn c.lanes n && !laneIn c.acked n then
    let t := { c with acked := c.acked ||| laneBit n }
    if t.acked = t.lanes then (t, some .answered) else (t, none)
  else (c, none)

/-- LANE_ACKNOWLEDGEMENT (R134). -/
def execLaneAcknowledgement (n : Fin 16) (s : State) : Result :=
  runEvent (.laneAcknowledgement n) s fun s => s.sweepCalls (ackCall n)

/-- DURATION_TIMER_EXPIRY (R131). -/
def execDurationTimerExpiry (number : Nat) (s : State) : Result :=
  runEvent (.durationTimerExpiry number) s fun s =>
    s.sweepCalls (removeIf (fun c => c.number = number && c.timer.isSome) .expired)

/-- CHIME_TIMER_EXPIRY (R135). -/
def execChimeTimerExpiry (s : State) : Result :=
  runEvent .chimeTimerExpiry s fun s =>
    if s.calls.chimeTimer = none then s
    else { s with calls := { s.calls with chimeTimer := none, chime := false } }

/-! ## CALL POST and CALL CANCEL -/

/-- External calls in the table (R124). -/
def CallTable.externals (t : CallTable) : Nat := (t.table.filter (·.origin.external)).length

/-- Ack required as taken, by acknowledgement mode and kind (R127). -/
def ackTaken (k : CallKind) (mode : Nat) : Bool :=
  if k = .evacuate then false
  else if mode = 1 then true
  else if mode = 2 then false
  else decide (k = .recall)

/-- The call a CALL POST admits, its fields as taken (R127). -/
def postedCall (l : Link) (k : CallKind) (pattern : Fin 64) (d : CallData) : Call where
  number := 0
  kind := k
  priority := if k = .evacuate then 7 else clamp 1 5 d.priority
  origin := .link l
  lanes := d.lanes
  pattern := pattern
  chime := decide (k = .evacuate) || decide (d.chime = 1)
  ack := ackTaken k d.ackMode
  acked := 0
  duration := min d.duration 3600
  timer := none
  admitted := 0
  sequence := 0

/-- The data of a CALL POST reply (12.6). -/
def Call.postData (c : Call) : List Byte :=
  [byte c.number] ++ be32 c.sequence ++ [byte c.priority, boolByte c.chime, boolByte c.ack] ++
  be16 c.duration

/-- The origin check of CALL POST (R126, check 2). -/
def postForbidden (l : Link) (k : CallKind) : Bool :=
  decide (k = .standClear) || (decide (k = .evacuate) && decide (l = .localLink))

/-- CALL POST (R126, R127). -/
def execCallPost (l : Link) (tag : Byte) (data : CallData) (s : State) : Result :=
  runRequest (.callPost l tag data) l tag s fun s =>
    match CallKind.ofCode data.kind with
    | none => deny s .badField
    | some k =>
      if (boolOfCode data.chime).isNone || decide (2 < data.ackMode) then deny s .badField
      else if postForbidden l k then deny s .noAuthority
      else match finOf? 64 data.pattern with
        | none => deny s .badField
        | some p =>
          if data.lanes = 0 then deny s .badField
          else if k = .recall ∧ data.lanes &&& s.alarmLanes ≠ 0 then deny s .zoneInAlarm
          else if Config.externalLimit ≤ s.calls.externals then deny s .tableFull
          else
            let c := postedCall l k p data
            done (s.admitCall c) (s.calls.stamp c s.clock).postData

/-- CALL CANCEL (R130). -/
def execCallCancel (l : Link) (tag : Byte) (number : Nat) (s : State) : Result :=
  runRequest (.callCancel l tag number) l tag s fun s =>
    if number = 0 then deny s .badField
    else match s.calls.table.find? (·.number = number) with
      | none => deny s .notFound
      | some c =>
        if c.kind = .standClear then deny s .state
        else if c.kind = .evacuate ∧ l = .localLink then deny s .noAuthority
        else done (s.sweepCalls (removeIf (·.number = number) .cancelled)) [byte number]

end Sys2Proof.Machine
end

