-- ==== Sys2Proof/Machine/Startup.lean ====
section
/-! DEFINITION. Power-on, the end of the settings load, the loss of supply and the command reset (11
R178 to R180, and each chapter's rules of its state after reset). -/

namespace Sys2Proof.Machine

/-! ## The stored image -/

/-- What storage holds after the supply fails: a store in flight leaves an image whose CRC does not
match (R178; log entry 29). -/
def Store.interrupted (st : Store) : Image :=
  if st.busy then { st.image with crcGood := false } else st.image

/-- The settings a load puts in force (R179). -/
def Image.loaded (i : Image) : Settings := if i.crcGood then i.settings else factorySettings

/-- The store after a load of its image (R179, R180). -/
def Store.afterLoad (st : Store) : Store where
  image := st.image
  inFlight := st.inFlight
  revision := if st.image.crcGood then st.image.revision else 0
  defaulted := !st.image.crcGood
  unstored := false

/-! ## Power -/

/-- POWER_ON: supply applied, or the external reset input: the settings load begins (R179). -/
def execPowerOn (s : State) : Result :=
  .next { State.powerOn s.store.interrupted with pending := s.pending }

/-- POWER_LOSS: the part stops; only the stored image is left (R178). -/
def execPowerLoss (s : State) : Result :=
  .next { State.powerOn s.store.interrupted with power := .off, pending := s.pending }

/-! ## The end of the settings load (R179) -/

/-- The settings, the first input sample and the first door scan in force (R12, R15, R179). Valve
frames begin: the first frame start is due (R57). -/
def State.takeLoad (s : State) (inputs : InputLevels) (doors : Vector DoorInputs 32) : State :=
  { State.powerOn s.store.image with
    power := .running
    pending := s.pending
    settings := Image.loaded s.store.image
    store := s.store.afterLoad
    inputs := ⟨inputs, inputs⟩
    chain := ⟨doors, doors, Vector.replicate 32 DoorOutputs.off, Vector.replicate 32 DoorOutputs.off⟩
    valves := Vector.replicate 4 { Generator.powerOn with position := Config.frameTicks }
    doors := Vector.ofFn fun d => { DoorRecord.powerOn with seen := doors[d] }
    zones := Vector.ofFn fun z => { ZoneRecord.powerOn with fire := inputs.fire[z] } }

/-- The links, counters of links and notices of `r`, the rest of `s`: what an act does without reports
and without handing on. -/
def State.quiet (s r : State) : State :=
  { s with
    links := r.links
    handed := r.handed
    counters := { s.counters with links := r.counters.links } }

/-- A door derived at start-up; its outputs, timers and conflict timer as R108 gives, nothing
reported. A position of kind NONE stays CLOSED (R85). -/
def State.startDoor (s : State) (d : Fin 32) : State :=
  if s.doorFitted d then s.deriveDoor d .settings s.chain.levels[d] else s

/-- Every door derived from the first scan, silently (R108). -/
def State.startDoors (s : State) : State :=
  ((List.finRange 32).foldl State.startDoor s).quiet s

/-- Every zone's condition evaluated from the initial fire inputs, its entry reported (R108). What the
entry hands the alarm unit and the evaluator are their initial values, taken below. Several zones are
taken in ascending number (log entry 13). -/
def State.startZones (s : State) : State :=
  let t := (List.finRange 8).foldl (fun s z => s.evalZone z .fireInput) s
  { t with handed := s.handed ++
      ((List.finRange 8).filter fun z => t.zones[z].alarm).flatMap fun z =>
        [.recallTrim z, .evacuatePost z] }

/-- Every axis's AXIS_SENSOR condition, as first evaluated (R43, R45). -/
def State.startSensors (s : State) : State :=
  { s with axes := Vector.ofFn fun a => { s.axes[a] with sensor := s.sensorLost a } }

/-- The alarm list built from the conditions present, then SETTINGS_DEFAULTED (R163; log entry 14). The
lines' and followers' changes are initial values, but for the STOP line the axes are told of, ascending
(log entry 54). -/
def State.startAlarms (s : State) : State :=
  let order : List CondSource :=
    [.estop] ++ (List.finRange 8).map .fire ++ (List.finRange 4).map .axisSensor
  let t := (order.filter s.condition).foldl (fun s src => s.setFlag src true) s
  let u := if s.store.defaulted then t.raiseMomentary .settingsDefaulted else t
  { u with handed := s.handed ++
      if u.alarms.stop then (List.finRange 4).map fun a => .stopLineChange a true else [] }

/-- The initial held value and level of a line; a line following a slot takes 0 (R163). -/
def State.startLine (s : State) (k : Fin 8) : OutLine :=
  let x := s.settings.outputs[k]
  let held := decide (x.source = .fixed) && x.powerOn
  let value := match x.source with
    | .fixed => held
    | .permissive _ => false
    | _ => s.outputValue k
  ⟨held, value != x.invert⟩

/-- The initial levels of the output lines (R163). -/
def State.startLines (s : State) : State :=
  { s with alarms := { s.alarms with lines := Vector.ofFn s.startLine } }

/-- The start evaluation: unreported, every last change time the present one; each slot's result is then
handed to the alarm unit (R122). Every slot is computed from its entries (R112), one whose terms have not
changed too (log entry 53). The results are handed on in ascending slot order (log entry 54). -/
def State.startSlots (s : State) : State :=
  let values := s.freshValues
  let slots : Vector Slot 16 :=
    Vector.ofFn fun p => ⟨slotResult s.settings.permissives[p] values, s.clock⟩
  { s with evaluator := ⟨values, slots⟩ }.hand
    ((List.finRange 16).map fun p => .outputLineSourceChange (.permissive p) slots[p].result)

/-- Each block takes its power-on state and begins its work (R179). -/
def State.start (s : State) (inputs : InputLevels) (doors : Vector DoorInputs 32) : State :=
  let t := (s.takeLoad inputs doors).startDoors.startZones.startSensors.startAlarms.startLines
  let u := t.startSlots
  u.hand (u.firstFrame 0)

/-- SETTINGS_LOAD_END, with the first input sample and the first door scan (R12, R15, R179; log entry
13). -/
def execSettingsLoadEnd (inputs : InputLevels) (doors : Vector DoorInputs 32) (s : State) : Result :=
  if s.power = .loading then .next (s.start inputs doors).pump else .next s

/-! ## Command reset (R180) -/

/-- Notices in flight that the reset's effects on their receivers overtake: to the call and station
controllers, whose state it clears, of holders, holds and levels, and of condition sources, since the
alarm list is rebuilt from the conditions as they stand (R164; log entry 27). -/
def overtaken : Instr → Bool
  | .standClearPost _ => true
  | .evacuatePost _ => true
  | .standClearRemoval _ => true
  | .recallTrim _ => true
  | .laneAcknowledgement _ => true
  | .axisStateChangeSeen .. => true
  | .stationLinkLoss _ => true
  | .serviceKeyRelease => true
  | .holderChange .. => true
  | .deckHoldNotice _ => true
  | .lossOfServiceLevel .. => true
  | .alarmSourceChange .. => true
  | _ => false

/-- The overtaken notices are dropped. -/
def State.dropOvertaken (s : State) : State :=
  s.takenFirst overtaken

/-- Stage 1: the image or the factory defaults become the working settings; the channels' settings are
applied block by block below (R180). -/
def State.reload (s : State) : State :=
  let x := Image.loaded s.store.image
  { s with settings := { x with channels := s.settings.channels }, store := s.store.afterLoad }

/-- The reloaded channel settings applied where they differ (R8). The channels are taken, and hand on their
notices, in ascending number, an order the rules do not give: the model's choice (log entry 28). -/
def State.resetChannels (s : State) (x : Settings) : State :=
  (List.finRange 12).foldl (fun s k => s.rewriteChannel k x.channels[k]) s

/-- The axis record after a command reset (R46, R47). -/
def AxisRecord.reset (x : AxisRecord) : AxisRecord :=
  { x.settled with
    state := .idle
    staged := 0
    settle := 0
    tripKind := none
    update := none
    check := none }

/-- One axis at a command reset (R46): its motion ends RESET, its new state is handed to the evaluator
and the alarm unit (order: log entry 54), and AXIS_SENSOR evaluated afresh (R43). A trip hands no return
of its source, which the rebuilt list does not hold (R164; log entry 27). -/
def State.resetAxis (s : State) (a : Fin 4) : State :=
  let t := ((s.setC a 0).endMotion a .reset).modAxis a AxisRecord.reset
  (if s.axes[a].state = .idle then t
    else t.hand [.sourceChange (.axisState a) ⟨AxisState.idle.code, true⟩,
      .outputLineSourceChange (.axisActive a) false]).evalSensor a

/-- The station controller at a command reset (R83). -/
def State.resetStation (s : State) : State :=
  let t := { s with station := Station.powerOn }
  if s.station.hold = .none then t
  else t.hand [.sourceChange .deckHold ⟨HoldStatus.none.code, true⟩]

/-- A held door whose zone, as reloaded, is in ALARM is released (R109). -/
def State.releaseIfAlarm (s : State) (d : Fin 32) : State :=
  if s.doorFitted d && s.zones[s.settings.doors[d].zone].alarm then s.releaseDoor d .zoneAlarm else s

/-- The door controller at a command reset, `old` being the settings before it (R109); the doors whose kind
changed and the zones are each taken in ascending number (log entry 28). -/
def State.resetDoors (s : State) (old : Settings) : State :=
  let t := ((List.finRange 32).foldl (fun s d => s.rekindDoor d old.doors[d].kind) s).recount
  let u := (List.finRange 8).foldl (fun s z => s.evalZone z .fireInput) t
  (List.finRange 32).foldl State.releaseIfAlarm u

/-- The call controller at a command reset (R138). -/
def State.resetCalls (s : State) : State := s.sweepCalls (removeIf (fun _ => true) .reset)

/-- The posts of the zones in ALARM, once the call table is empty (R109, R138). -/
def State.postAlarmZones (s : State) : State :=
  s.hand (((List.finRange 8).filter fun z => s.zones[z].alarm).map Instr.evacuatePost)

/-- One output line's reloaded settings applied where they differ (R164; their place in the reset is log
entry 56). -/
def State.resetLine (old : Settings) (s : State) (k : Fin 8) : State :=
  s.applyOutput k old.outputs[k]

/-- The alarm unit at a command reset (R164). The list is rebuilt and the trip lines re-evaluated before the
reloaded output settings are applied, the lines in ascending number: the model's choice (log entry 56). -/
def State.resetAlarms (s : State) (old : Settings) : State :=
  (List.finRange 8).foldl (State.resetLine old) s.rebuildAlarms

/-- The permissive evaluator at a command reset: every term and slot afresh (R123). -/
def State.resetSlots (s : State) : State := s.reslot s.freshValues (fun _ => true) none

/-- Stages 1 and 2: the reload and the block effects, the EVACUATE posts handed on before the start of a scan
frame (order: log entry 28). -/
def State.resetBlocks (s : State) : State :=
  let x := Image.loaded s.store.image
  let t := (s.dropOvertaken.reload.resetChannels x)
  let u := ((List.finRange 4).foldl State.resetAxis t).resetStation.resetDoors s.settings
  let v := (u.dropOvertaken.resetCalls.resetAlarms s.settings).resetSlots.postAlarmZones
  v.hand (v.firstFrame s.settings.boards)

/-- Stage 3: the report queues are emptied; everything else of the link controllers, and their
counters, stand as before the reset (R175, R180). -/
def State.emptyQueues (s before : State) : State :=
  { s with
    links :=
      ⟨{ before.links.bridge with queue := [], lost := false },
       { before.links.localLink with queue := [], lost := false }⟩
    counters := { s.counters with links := before.counters.links } }

/-- CONTROLLER RESET carried out (R180). The raise of SETTINGS_DEFAULTED is handed on last, after the EVACUATE
posts of the zones in ALARM, an order R180 does not give: the model's choice (log entry 28). -/
def State.commandReset (s : State) : State :=
  let t := (s.resetBlocks.emptyQueues s)
  let u := t.report (.controllerResetDone t.store.revision t.store.defaulted)
  if t.store.defaulted then u.hand [.momentaryRaise .settingsDefaulted] else u

/-- CONTROLLER RESET (R180). -/
def execControllerReset (l : Link) (tag : Byte) (s : State) : Result :=
  runRequest (.controllerReset l tag) l tag s fun s =>
    if !s.atService l then deny s .level
    else if s.store.busy then deny s .busy
    else done s.commandReset []

end Sys2Proof.Machine
end

