-- ==== Sys2Proof/Machine/Status.lean ====
section
/-! DEFINITION. The status requests and their records (12.4, 12.6). None of them changes a state. -/

namespace Sys2Proof.Machine

/-! ## Status replies (R184) -/

/-- The bytes of a status reply's payload before its records: reply kind, summary, count, next. -/
def statusFixed (summary : List Byte) : Nat := 3 + summary.length

/-- The records that fit, whole and in order, in the room left: how many, and their bytes. -/
def fitRecords : List (List Byte) → Nat → Nat × List Byte
  | [], _ => (0, [])
  | r :: rest, room =>
    if r.length ≤ room then
      let x := fitRecords rest (room - r.length)
      (x.1 + 1, r ++ x.2)
    else (0, [])

/-- The next-position byte: 0xFF when the last record has been sent, else the first left out. -/
def nextPosition (start sent total : Nat) : Byte :=
  if total ≤ start + sent then 0xFF else byte (start + sent)

/-- A reply that names all records: those from the start position onward that fit (R184). The data
follow the reply kind. -/
def statusAll (summary : List Byte) (records : List (List Byte)) (start : Nat) : List Byte :=
  let x := fitRecords (records.drop start) (Config.maxPayload - statusFixed summary)
  summary ++ [byte x.1, nextPosition start x.1 records.length] ++ x.2

/-- A reply that names one record: the count is 1 and nothing is left out (log entry 24). -/
def statusOne (record : List Byte) : List Byte := [1, 0xFF] ++ record

/-- A status request naming record `n` or all of them by 0xFF: a start position at or above 0xFF is
refused, as is a number that names no record (R184). -/
def State.statusReply (s : State) (n start : Nat) (summary : List Byte)
    (records : List (List Byte)) : State × ReplyData :=
  if n = 0xFF then
    if 0xFF ≤ start then deny s .badField else done s (statusAll summary records start)
  else match records[n]? with
    | some r => done s (statusOne r)
    | none => deny s .badField

/-- A record for each of `n` things, in order. -/
def eachOf (n : Nat) (f : Fin n → List Byte) : List (List Byte) := (List.finRange n).map f

/-! ## Channels and inputs -/

/-- Validity: 0 VALID, 1 INVALID (12.3). -/
def validityByte (valid : Bool) : Byte := boolByte (!valid)

/-- A channel record (12.6). -/
def State.channelBytes (s : State) (k : Fin 12) : List Byte :=
  let r := s.channels[k]
  [byte k, bitsByte [s.settings.channels[k].enabled, r.everValid], validityByte r.valid,
    byte r.count] ++ be16 r.raw ++ be16 r.filtered ++ beInt16 r.scaled ++ be32 r.changed.toNat

/-- CHANNEL STATUS (R10). -/
def execChannelStatus (l : Link) (tag : Byte) (channel start : Nat) (s : State) : Result :=
  runRequest (.channelStatus l tag channel start) l tag s fun s =>
    s.statusReply channel start [] (eachOf 12 s.channelBytes)

/-- One door position in the input block (12.6). -/
def State.positionByte (s : State) (d : Fin 32) : Byte :=
  let i := s.chain.levels[d]
  let o := s.chain.outputs[d]
  bitsByte [i.openSwitch, i.closedSwitch, i.edge, false, o.magnet, o.closeDrive, o.openDrive]

/-- The input block (12.6). -/
def State.inputBlock (s : State) : List Byte :=
  let v := s.inputs.levels
  [bitsByte [v.estop, v.serviceKey, v.localPriority], bitsByte v.fire.toList,
    bitsByte (v.limLo.toList ++ v.limHi.toList)] ++ bits16 v.gi.toList ++
  (List.finRange 32).map s.positionByte

/-- INPUT STATUS (R16). -/
def execInputStatus (l : Link) (tag : Byte) (s : State) : Result :=
  runRequest (.inputStatus l tag) l tag s fun s => done s s.inputBlock

/-! ## Axes -/

/-- The code of an optional direction, 0 where absent. -/
def directionCode (d : Option Direction) : Nat := d.elim 0 Direction.code

/-- The motion record's thirteen bytes, zeros where absent (12.4). -/
def motionBytes (m : Option MotionRecord) : List Byte :=
  match m with
  | none => List.replicate 13 0
  | some x =>
    [byte x.origin.code, byte x.kind.code] ++ beInt16 (x.target.getD 0) ++ be32 x.start.toNat ++
    beTime x.finish ++ [byte (x.outcome.elim 0 MotionOutcome.code)]

/-- The motion flags (12.4). -/
def motionFlags (m : Option MotionRecord) : Byte :=
  match m with
  | none => 0
  | some x => bitsByte [true, x.target.isSome, x.finish.isSome, x.outcome.isSome]

/-- The requester of an axis's pending request. -/
def State.requester (s : State) (a : Fin 4) : Option Link :=
  s.station.auth[a].request.map (·.requester)

/-- An axis status record (12.4). -/
def State.axisBytes (s : State) (a : Fin 4) : List Byte :=
  let x := s.axes[a]
  [byte a,
    bitsByte [s.settings.axes[a].fitted, x.target.isSome, x.direction.isSome, x.stopOutcome.isSome,
      x.tripKind.isSome, (s.requester a).isSome],
    motionFlags x.motion, byte x.state.code, byte (directionCode x.direction),
    byte (x.stopOutcome.elim 0 MotionOutcome.code), byte (x.tripKind.elim 0 TripKind.code)] ++
  beInt16 (x.target.getD 0) ++ beInt16 x.c ++ beInt16 x.staged ++
  [byte x.settle, byte (Link.codeOpt (s.holder a)), byte (Link.codeOpt (s.requester a))] ++
  beTimer x.warning ++ beTimer x.motionTimer ++ beTimer x.refresh ++
  beInt16 (s.angle a).scaled ++ [validityByte (s.angle a).valid] ++
  beInt16 (s.pressure a).scaled ++ [validityByte (s.pressure a).valid] ++ motionBytes x.motion

/-- AXIS STATUS (R44). -/
def execAxisStatus (l : Link) (tag : Byte) (axis start : Nat) (s : State) : Result :=
  runRequest (.axisStatus l tag axis start) l tag s fun s =>
    s.statusReply axis start [] (eachOf 4 s.axisBytes)

/-- The last update record's seventeen bytes, zeros where absent (12.6). Bits of the flags byte say whether
the record, idx and e are there. T used, the oil validity and u have no such bit: where the mode read no
temperature or formed no magnitude (log entry 16) their bytes are 0, the model's choice (log entry 55). -/
def updateBytes (u : Option UpdateRecord) : List Byte :=
  match u with
  | none => List.replicate 17 0
  | some r =>
    [byte r.mode.code] ++ beInt16 (r.t.getD 0) ++
    [r.oilValid.elim 0 validityByte, byte (r.idx.getD 0)] ++ beInt32 (r.e.getD 0) ++
    be16 (r.u.getD 0) ++ beInt16 r.d ++ beInt16 r.cPrev ++ beInt16 r.cNew

/-- The last check record's eleven bytes, zeros where absent (12.6). -/
def checkBytes (c : Option CheckRecord) : List Byte :=
  match c with
  | none => List.replicate 11 0
  | some r =>
    beInt16 r.pressure ++ beInt16 r.angle ++ [byte r.band] ++ be16 r.ref ++ be16 r.hi ++ be16 r.lo

/-- The generator's six bytes (12.6). -/
def Generator.bytes (g : Generator) : List Byte :=
  beInt16 g.command ++ be16 g.applied ++ [byte (directionCode g.lines), boolByte g.cut]

/-- The drive status block (12.6). -/
def State.driveBlock (s : State) (a : Fin 4) : List Byte :=
  let x := s.axes[a]
  let oil := s.channels[s.settings.oil]
  [byte a, byte s.settings.oil] ++ beInt16 oil.scaled ++
  [validityByte oil.valid, byte s.settings.axes[a].tableMode.code,
    byte s.settings.axes[a].loopMode.code] ++ beInt16 x.c ++
  [bitsByte [x.update.isSome, x.update.any (·.idx.isSome), x.update.any (·.e.isSome),
    x.confirm.isSome, x.check.isSome]] ++
  updateBytes x.update ++ s.valves[a].bytes ++
  [boolByte x.confirm.isSome, byte (x.confirm.elim 0 TripKind.code)] ++ checkBytes x.check

/-- DRIVE STATUS (R68). -/
def execDriveStatus (l : Link) (tag : Byte) (axis : Nat) (s : State) : Result :=
  runRequest (.driveStatus l tag axis) l tag s fun s =>
    match s.fittedAxis? axis with
    | none => deny s .badField
    | some a => done s (s.driveBlock a)

/-! ## Stations -/

/-- One axis's item of the station block (12.6). -/
def State.authBytes (s : State) (a : Fin 4) : List Byte :=
  let r := s.station.auth[a].request
  [byte a, byte (Link.codeOpt (s.holder a)), bitsByte [r.isSome],
    byte (Link.codeOpt (s.requester a))] ++
  beTime (r.map (·.time)) ++ beTimer (r.map (·.deadline))

/-- The station block (12.6). -/
def State.stationBlock (s : State) : List Byte :=
  (List.finRange 4).flatMap s.authBytes ++ s.holdData ++
  [byte s.station.level.bridge.code, byte s.station.level.localLink.code,
    bitsByte [s.inputs.levels.serviceKey, s.inputs.levels.localPriority]]

/-- STATION STATUS (R82). -/
def execStationStatus (l : Link) (tag : Byte) (s : State) : Result :=
  runRequest (.stationStatus l tag) l tag s fun s => done s s.stationBlock

/-! ## Doors and zones -/

/-- A door status record (12.4). -/
def State.doorBytes (s : State) (d : Fin 32) : List Byte :=
  let x := s.doors[d]
  let i := s.chain.levels[d]
  let o := s.chain.outputs[d]
  [byte d, byte s.settings.doors[d].kind.code, byte s.settings.doors[d].zone, byte x.state.code,
    byte x.retry,
    bitsByte [s.settings.doors[d].seaClosed, x.closeDuration.isSome, x.cause.isSome],
    byte (x.cause.elim 0 FaultCause.code), bitsByte [i.openSwitch, i.closedSwitch, i.edge],
    bitsByte [o.magnet, o.closeDrive, o.openDrive]] ++
  be32 x.closingSince.toNat ++ be32 x.lastRelease.toNat ++ be32 x.lastClosed.toNat ++
  be32 (x.closeDuration.getD 0) ++ beTimer x.travel ++ beTimer x.pause ++ beTimer x.conflict

/-- DOOR STATUS (R107). -/
def execDoorStatus (l : Link) (tag : Byte) (door start : Nat) (s : State) : Result :=
  runRequest (.doorStatus l tag door start) l tag s fun s =>
    s.statusReply door start [] (eachOf 32 s.doorBytes)

/-- A zone record (12.6). -/
def State.zoneBytes (s : State) (z : Fin 8) : List Byte :=
  let x := s.zones[z]
  [byte z, boolByte x.alarm,
    bitsByte [s.settings.zones[z].fireEnabled, x.manual, x.fire, x.since.isSome]] ++
  be16 s.settings.zones[z].lanes.toNat ++ beTime x.since ++ [byte s.openCounts.zone[z]]

/-- ZONE STATUS; naming all zones, with the SEA_OPEN_COUNT (R107; log entry 22). -/
def execZoneStatus (l : Link) (tag : Byte) (zone start : Nat) (s : State) : Result :=
  runRequest (.zoneStatus l tag zone start) l tag s fun s =>
    s.statusReply zone start [byte s.openCounts.sea] (eachOf 8 s.zoneBytes)

/-! ## Permissives -/

/-- A term status record (12.4, R121). -/
def State.termBytes (s : State) (t : Fin 64) : List Byte :=
  let x := s.settings.terms[t]
  let v := x.source.map s.sourceValue
  [byte t] ++ x.data ++ [boolByte s.evaluator.values[t]] ++ beInt16 (v.elim 0 (·.value)) ++
  [bitsByte [v.isSome, v.any fun r => !r.valid]]

/-- TERM STATUS (R121). -/
def execTermStatus (l : Link) (tag : Byte) (term start : Nat) (s : State) : Result :=
  runRequest (.termStatus l tag term start) l tag s fun s =>
    s.statusReply term start [] (eachOf 64 s.termBytes)

/-- A permissive status record (12.4, R121). -/
def State.slotBytes (s : State) (p : Fin 16) : List Byte :=
  let es := s.settings.permissives[p]
  [byte p, byte es.length] ++ entriesData es ++ [boolByte s.evaluator.slots[p].result] ++
  be32 s.evaluator.slots[p].changed.toNat ++ es.map fun e => boolByte s.evaluator.values[e.term]

/-- PERMISSIVE STATUS (R121). -/
def execPermissiveStatus (l : Link) (tag : Byte) (slot start : Nat) (s : State) : Result :=
  runRequest (.permissiveStatus l tag slot start) l tag s fun s =>
    s.statusReply slot start [] (eachOf 16 s.slotBytes)

/-! ## Calls and boards -/

/-- The first twenty bytes of a call record (12.4). -/
def Call.head (c : Call) : List Byte :=
  [byte c.number, byte c.kind.code, byte c.priority, byte c.origin.code, bitsByte [c.chime, c.ack],
    byte c.pattern] ++ be16 c.lanes.toNat ++ be16 c.acked.toNat ++ be16 c.duration ++
  be32 c.admitted.toNat ++ be32 c.sequence

/-- A call record (12.4). -/
def Call.bytes (c : Call) : List Byte := c.head ++ beTimer c.timer

/-- An item of the removed-call list (12.6). -/
def RemovedCall.bytes (r : RemovedCall) : List Byte :=
  [byte r.number, byte r.kind.code, byte r.origin.code] ++ be16 r.lanes.toNat ++
  be16 r.acked.toNat ++ [byte r.reason.code] ++ be32 r.time.toNat

/-- The call summary (12.6). -/
def CallTable.summary (t : CallTable) : List Byte :=
  [byte t.externals, byte (t.table.length - t.externals), byte t.number] ++ be32 t.sequence ++
  [boolByte t.chime] ++ beTimer t.chimeTimer ++ [byte t.removed.length] ++
  t.removed.flatMap RemovedCall.bytes

/-- CALL STATUS names all calls by 0 (R136, R184). -/
def execCallStatus (l : Link) (tag : Byte) (number start : Nat) (s : State) : Result :=
  runRequest (.callStatus l tag number start) l tag s fun s =>
    if number = 0 then
      if 0xFF ≤ start then deny s .badField
      else done s (statusAll s.calls.summary (s.calls.table.map Call.bytes) start)
    else match s.calls.table.find? (·.number = number) with
      | some c => done s (statusOne c.bytes)
      | none => deny s .notFound

/-- N in effect: that of the frame in progress, and with none the setting (R140, R147; log entry 23). -/
def State.frameBoards (s : State) : Nat := s.scanner.frame.elim s.settings.boards (·.boards)

/-- B in effect: that of the frame in progress, and with none the setting (R140, R147; log entry 23). -/
def State.frameBlanking (s : State) : Nat := s.scanner.frame.elim s.settings.blanking (·.blanking)

/-- A board record (12.6). -/
def State.boardBytes (s : State) (b : Fin 16) : List Byte :=
  let x := s.scanner.shown[b]
  let k := s.scanner.buttons[b]
  [byte b, bitsByte [decide (b.val < s.frameBoards), x.winner.isSome, x.pattern.isSome, k.pressed],
    byte (x.winner.elim 0 (·.1)), byte (x.winner.elim 0 (·.2)), byte (x.pattern.elim 0 (·.val)),
    boolByte (!x.lit), byte k.count]

/-- N, B and the flash phase of the latest frame start (R147; log entries 18 and 23). -/
def State.boardSummary (s : State) : List Byte :=
  [byte s.frameBoards, byte s.frameBlanking, boolByte (!s.scanner.flashLit)]

/-- BOARD STATUS (R147); naming one board too, with the summary. -/
def execBoardStatus (l : Link) (tag : Byte) (board start : Nat) (s : State) : Result :=
  runRequest (.boardStatus l tag board start) l tag s fun s =>
    if board = 0xFF then s.statusReply board start s.boardSummary (eachOf 16 s.boardBytes)
    else match finOf? 16 board with
      | some b => done s (s.boardSummary ++ statusOne (s.boardBytes b))
      | none => deny s .badField

/-! ## Alarms, outputs and links -/

/-- An alarm entry (12.4). -/
def AlarmEntry.bytes (e : AlarmEntry) : List Byte :=
  [byte e.source,
    match e.state with
    | .activeUnacked => 0
    | .activeAcked => 1
    | .returnedUnacked => 2,
    byte e.occurrences] ++ be32 e.first.toNat ++ be32 e.last.toNat

/-- The entries of one ALARM LIST reply (R155). -/
def listedEntries (es : List AlarmEntry) (start : Nat) : List AlarmEntry :=
  (es.drop start).take Config.alarmListLimit

/-- The alarm list block (12.6). -/
def State.alarmBlock (s : State) (start : Nat) : List Byte :=
  let es := listedEntries s.alarms.list start
  [byte s.alarms.list.length, boolByte s.alarms.alarm, boolByte s.alarms.stop] ++
  bits16 s.settings.routing.alarmEnable.toList ++ bits16 s.settings.routing.stopEnable.toList ++
  [boolByte s.settings.routing.stopFollowsAlarm, byte es.length] ++ es.flatMap AlarmEntry.bytes

/-- ALARM LIST (R155). -/
def execAlarmList (l : Link) (tag : Byte) (start : Nat) (s : State) : Result :=
  runRequest (.alarmList l tag start) l tag s fun s =>
    if 59 < start then deny s .badField else done s (s.alarmBlock start)

/-- One line's item of the output block (12.6). -/
def State.lineBytes (s : State) (k : Fin 8) : List Byte :=
  let x := s.settings.outputs[k]
  [byte k, byte x.source.kindCode, byte x.source.index,
    bitsByte [x.invert, x.powerOn, s.alarms.lines[k].held, s.outputValue k, s.alarms.lines[k].level]]

/-- The output block (12.6). -/
def State.outputBlock (s : State) : List Byte :=
  (List.finRange 8).flatMap s.lineBytes ++ [boolByte s.calls.chime]

/-- OUTPUT STATUS (R162). -/
def execOutputStatus (l : Link) (tag : Byte) (s : State) : Result :=
  runRequest (.outputStatus l tag) l tag s fun s => done s s.outputBlock

/-- Link state codes (12.3). -/
def LinkState.code : LinkState → Nat
  | .down => 0
  | .up => 1
  | .lost => 2

/-- One link's item of the link block (12.6). -/
def State.linkBytes (s : State) (l : Link) : List Byte :=
  let c := s.links.get l
  [byte l.code, byte c.state.code] ++ beTimer c.timer ++ be16 (s.settings.supervision.get l) ++
  [byte (s.station.level.get l).code, bitsByte c.selection.toList, byte c.queue.length,
    boolByte c.lost]

/-- LINK STATUS (R174). -/
def execLinkStatus (l : Link) (tag : Byte) (s : State) : Result :=
  runRequest (.linkStatus l tag) l tag s fun s =>
    done s (s.linkBytes .bridge ++ s.linkBytes .localLink)

end Sys2Proof.Machine
end

