-- ==== Sys2Proof/Machine/Dispatch.lean ====
section
/-! DEFINITION. Every command to its meaning. -/

namespace Sys2Proof.Machine

def exec (i : Instr) (s : State) : Host.Outcome State Fault Refusal :=
  match i with
  | .powerOn => Sys2Proof.Machine.execPowerOn s
  | .settingsLoadEnd inputs doors => Sys2Proof.Machine.execSettingsLoadEnd inputs doors s
  | .powerLoss => Sys2Proof.Machine.execPowerLoss s
  | .channelCompletion k raw => Sys2Proof.Machine.execChannelCompletion k raw s
  | .discreteInputChange x samples => Sys2Proof.Machine.execDiscreteInputChange x samples s
  | .doorScan levels => Sys2Proof.Machine.execDoorScan levels s
  | .doorInputChange d inputs => Sys2Proof.Machine.execDoorInputChange d inputs s
  | .travelTimerExpiry d => Sys2Proof.Machine.execTravelTimerExpiry d s
  | .pauseTimerExpiry d => Sys2Proof.Machine.execPauseTimerExpiry d s
  | .conflictTimerExpiry d => Sys2Proof.Machine.execConflictTimerExpiry d s
  | .fireInputChange z asserted => Sys2Proof.Machine.execFireInputChange z asserted s
  | .axisUpdate a angle => Sys2Proof.Machine.execAxisUpdate a angle s
  | .pressureCheck a pressure => Sys2Proof.Machine.execPressureCheck a pressure s
  | .angleValidityChange a valid => Sys2Proof.Machine.execAngleValidityChange a valid s
  | .pressureValidityChange a valid => Sys2Proof.Machine.execPressureValidityChange a valid s
  | .disablingNotice a => Sys2Proof.Machine.execDisablingNotice a s
  | .limitSwitchChange a side asserted => Sys2Proof.Machine.execLimitSwitchChange a side asserted s
  | .permissiveSlotChange a dir result => Sys2Proof.Machine.execPermissiveSlotChange a dir result s
  | .holderChange a reason => Sys2Proof.Machine.execHolderChange a reason s
  | .deckHoldNotice a => Sys2Proof.Machine.execDeckHoldNotice a s
  | .lossOfServiceLevel a l => Sys2Proof.Machine.execLossOfServiceLevel a l s
  | .stopLineChange a asserted => Sys2Proof.Machine.execStopLineChange a asserted s
  | .warningTimerExpiry a => Sys2Proof.Machine.execWarningTimerExpiry a s
  | .motionTimerExpiry a => Sys2Proof.Machine.execMotionTimerExpiry a s
  | .jogRefreshExpiry a => Sys2Proof.Machine.execJogRefreshExpiry a s
  | .manualRefreshExpiry a => Sys2Proof.Machine.execManualRefreshExpiry a s
  | .valveFrameStart a => Sys2Proof.Machine.execValveFrameStart a s
  | .axisStateChangeSeen a new => Sys2Proof.Machine.execAxisStateChangeSeen a new s
  | .deadlineExpiry a => Sys2Proof.Machine.execDeadlineExpiry a s
  | .stationLinkLoss l => Sys2Proof.Machine.execStationLinkLoss l s
  | .serviceKeyRelease => Sys2Proof.Machine.execServiceKeyRelease s
  | .sourceChange src v => Sys2Proof.Machine.execSourceChange src v s
  | .alarmSourceChange src active => Sys2Proof.Machine.execAlarmSourceChange src active s
  | .momentaryRaise src => Sys2Proof.Machine.execMomentaryRaise src s
  | .outputLineSourceChange src value => Sys2Proof.Machine.execOutputLineSourceChange src value s
  | .standClearPost a => Sys2Proof.Machine.execStandClearPost a s
  | .evacuatePost z => Sys2Proof.Machine.execEvacuatePost z s
  | .standClearRemoval a => Sys2Proof.Machine.execStandClearRemoval a s
  | .recallTrim z => Sys2Proof.Machine.execRecallTrim z s
  | .laneAcknowledgement n => Sys2Proof.Machine.execLaneAcknowledgement n s
  | .durationTimerExpiry number => Sys2Proof.Machine.execDurationTimerExpiry number s
  | .chimeTimerExpiry => Sys2Proof.Machine.execChimeTimerExpiry s
  | .boardFrameStart => Sys2Proof.Machine.execBoardFrameStart s
  | .laneButtonChange n pressed => Sys2Proof.Machine.execLaneButtonChange n pressed s
  | .buttonSample levels => Sys2Proof.Machine.execButtonSample levels s
  | .lastScanFrameEnd => Sys2Proof.Machine.execLastScanFrameEnd s
  | .byteReceived l b => Sys2Proof.Machine.execByteReceived l b s
  | .frameComplete l kind tag payload crc => Sys2Proof.Machine.execFrameComplete l kind tag payload crc s
  | .frameDiscard l cause => Sys2Proof.Machine.execFrameDiscard l cause s
  | .gapAbort l => Sys2Proof.Machine.execGapAbort l s
  | .receiveBreak l => Sys2Proof.Machine.execReceiveBreak l s
  | .linkLost l => Sys2Proof.Machine.execLinkLost l s
  | .transmitEnd l => Sys2Proof.Machine.execTransmitEnd l s
  | .unknownRequest l tag kind => Sys2Proof.Machine.execUnknownRequest l tag kind s
  | .storeCompletion readBack => Sys2Proof.Machine.execStoreCompletion readBack s
  | .channelStatus l tag channel start => Sys2Proof.Machine.execChannelStatus l tag channel start s
  | .inputStatus l tag => Sys2Proof.Machine.execInputStatus l tag s
  | .axisMove l tag axis target => Sys2Proof.Machine.execAxisMove l tag axis target s
  | .axisStop l tag axis => Sys2Proof.Machine.execAxisStop l tag axis s
  | .axisJog l tag axis direction => Sys2Proof.Machine.execAxisJog l tag axis direction s
  | .tripReset l tag axis => Sys2Proof.Machine.execTripReset l tag axis s
  | .manualEnter l tag axis => Sys2Proof.Machine.execManualEnter l tag axis s
  | .manualSet l tag axis value => Sys2Proof.Machine.execManualSet l tag axis value s
  | .manualApply l tag axis => Sys2Proof.Machine.execManualApply l tag axis s
  | .manualLeave l tag axis => Sys2Proof.Machine.execManualLeave l tag axis s
  | .axisStatus l tag axis start => Sys2Proof.Machine.execAxisStatus l tag axis start s
  | .driveStatus l tag axis => Sys2Proof.Machine.execDriveStatus l tag axis s
  | .takeStation l tag axis => Sys2Proof.Machine.execTakeStation l tag axis s
  | .yieldStation l tag axis => Sys2Proof.Machine.execYieldStation l tag axis s
  | .refuseStation l tag axis => Sys2Proof.Machine.execRefuseStation l tag axis s
  | .deckHold l tag => Sys2Proof.Machine.execDeckHold l tag s
  | .deckResume l tag both => Sys2Proof.Machine.execDeckResume l tag both s
  | .serviceEnter l tag => Sys2Proof.Machine.execServiceEnter l tag s
  | .serviceLeave l tag => Sys2Proof.Machine.execServiceLeave l tag s
  | .stationStatus l tag => Sys2Proof.Machine.execStationStatus l tag s
  | .doorHold l tag door => Sys2Proof.Machine.execDoorHold l tag door s
  | .doorHoldZone l tag zone => Sys2Proof.Machine.execDoorHoldZone l tag zone s
  | .doorRelease l tag door => Sys2Proof.Machine.execDoorRelease l tag door s
  | .doorReleaseZone l tag zone => Sys2Proof.Machine.execDoorReleaseZone l tag zone s
  | .doorIsolate l tag door => Sys2Proof.Machine.execDoorIsolate l tag door s
  | .doorRestore l tag door => Sys2Proof.Machine.execDoorRestore l tag door s
  | .zoneAlarm l tag zone action => Sys2Proof.Machine.execZoneAlarm l tag zone action s
  | .doorStatus l tag door start => Sys2Proof.Machine.execDoorStatus l tag door start s
  | .zoneStatus l tag zone start => Sys2Proof.Machine.execZoneStatus l tag zone start s
  | .termWrite l tag term data => Sys2Proof.Machine.execTermWrite l tag term data s
  | .permissiveWrite l tag slot entries => Sys2Proof.Machine.execPermissiveWrite l tag slot entries s
  | .termStatus l tag term start => Sys2Proof.Machine.execTermStatus l tag term start s
  | .permissiveStatus l tag slot start => Sys2Proof.Machine.execPermissiveStatus l tag slot start s
  | .callPost l tag data => Sys2Proof.Machine.execCallPost l tag data s
  | .callCancel l tag number => Sys2Proof.Machine.execCallCancel l tag number s
  | .callStatus l tag number start => Sys2Proof.Machine.execCallStatus l tag number start s
  | .patternWrite l tag pattern segments => Sys2Proof.Machine.execPatternWrite l tag pattern segments s
  | .boardStatus l tag board start => Sys2Proof.Machine.execBoardStatus l tag board start s
  | .alarmAck l tag source => Sys2Proof.Machine.execAlarmAck l tag source s
  | .alarmList l tag start => Sys2Proof.Machine.execAlarmList l tag start s
  | .outputSet l tag line value => Sys2Proof.Machine.execOutputSet l tag line value s
  | .outputStatus l tag => Sys2Proof.Machine.execOutputStatus l tag s
  | .reportSelect l tag flags => Sys2Proof.Machine.execReportSelect l tag flags s
  | .linkRestart l tag => Sys2Proof.Machine.execLinkRestart l tag s
  | .linkStatus l tag => Sys2Proof.Machine.execLinkStatus l tag s
  | .settingsWriteAxis l tag index data => Sys2Proof.Machine.execSettingsWriteAxis l tag index data s
  | .settingsWriteDrive l tag index oil => Sys2Proof.Machine.execSettingsWriteDrive l tag index oil s
  | .settingsWriteChannel l tag index data => Sys2Proof.Machine.execSettingsWriteChannel l tag index data s
  | .settingsWriteDoor l tag index data => Sys2Proof.Machine.execSettingsWriteDoor l tag index data s
  | .settingsWriteZone l tag index data => Sys2Proof.Machine.execSettingsWriteZone l tag index data s
  | .settingsWriteScanner l tag index boards blanking => Sys2Proof.Machine.execSettingsWriteScanner l tag index boards blanking s
  | .settingsWriteRouting l tag index data => Sys2Proof.Machine.execSettingsWriteRouting l tag index data s
  | .settingsWriteOutput l tag index data => Sys2Proof.Machine.execSettingsWriteOutput l tag index data s
  | .settingsWriteLink l tag index time => Sys2Proof.Machine.execSettingsWriteLink l tag index time s
  | .settingsRead l tag object index => Sys2Proof.Machine.execSettingsRead l tag object index s
  | .storeSettings l tag => Sys2Proof.Machine.execStoreSettings l tag s
  | .controllerReset l tag => Sys2Proof.Machine.execControllerReset l tag s
  | .readCounters l tag group clear => Sys2Proof.Machine.execReadCounters l tag group clear s
  | .setClock l tag value => Sys2Proof.Machine.execSetClock l tag value s
  | .identify l tag => Sys2Proof.Machine.execIdentify l tag s

end Sys2Proof.Machine
end

