-- ==== Sys2Proof/Machine/Step.lean ====
section
/-! DEFINITION. The step: the command at the front of the queue, or, with none waiting, an act of the
part's own. -/

namespace Sys2Proof.Machine

/-- With no command waiting, the part goes on by itself (log entry 1). -/
def idleStep (s : State) : Host.Outcome State Fault Refusal :=
  match s.ownAct with
  | .command i => exec i s
  | .refuse l f code => .next (s.refuseFrame l f code)
  | .tick => .next s.tick
  | .rest => .next s

/-- The command at the front of the queue acts on the rest of the state. -/
def step (s : State) : Host.Outcome State Fault Refusal :=
  match s.pending with
  | i :: rest => exec i { s with pending := rest }
  | [] => idleStep s

/-- The command a word spells put at the front of the queue; no row of the table gives bits, so no word
spells one and the state is unchanged. -/
def State.withFetchWord (s : State) (nbits w : Nat) : State :=
  match Sys2Proof.decodeTableWord nbits w with
  | some i => { s with pending := i :: s.pending }
  | none => s

end Sys2Proof.Machine
end

