-- ==== Sys2Proof/Safety.lean ====
section
/-! DEFINITION. The terms claims are made in: what every command leaves of the links, the laws of the
part that every step keeps, and what the rules call the ends of motions and the records of status
replies. -/

namespace Sys2Proof

/-- The link and TAG of a request; `none` for a command that is no request. -/
def Instr.sender : Instr → Option (Link × Byte)
  | .unknownRequest l t _ => some (l, t)
  | .channelStatus l t .. => some (l, t)
  | .inputStatus l t => some (l, t)
  | .axisMove l t .. => some (l, t)
  | .axisStop l t .. => some (l, t)
  | .axisJog l t .. => some (l, t)
  | .tripReset l t .. => some (l, t)
  | .manualEnter l t .. => some (l, t)
  | .manualSet l t .. => some (l, t)
  | .manualApply l t .. => some (l, t)
  | .manualLeave l t .. => some (l, t)
  | .axisStatus l t .. => some (l, t)
  | .driveStatus l t .. => some (l, t)
  | .takeStation l t .. => some (l, t)
  | .yieldStation l t .. => some (l, t)
  | .refuseStation l t .. => some (l, t)
  | .deckHold l t => some (l, t)
  | .deckResume l t .. => some (l, t)
  | .serviceEnter l t => some (l, t)
  | .serviceLeave l t => some (l, t)
  | .stationStatus l t => some (l, t)
  | .doorHold l t .. => some (l, t)
  | .doorHoldZone l t .. => some (l, t)
  | .doorRelease l t .. => some (l, t)
  | .doorReleaseZone l t .. => some (l, t)
  | .doorIsolate l t .. => some (l, t)
  | .doorRestore l t .. => some (l, t)
  | .zoneAlarm l t .. => some (l, t)
  | .doorStatus l t .. => some (l, t)
  | .zoneStatus l t .. => some (l, t)
  | .termWrite l t .. => some (l, t)
  | .permissiveWrite l t .. => some (l, t)
  | .termStatus l t .. => some (l, t)
  | .permissiveStatus l t .. => some (l, t)
  | .callPost l t .. => some (l, t)
  | .callCancel l t .. => some (l, t)
  | .callStatus l t .. => some (l, t)
  | .patternWrite l t .. => some (l, t)
  | .boardStatus l t .. => some (l, t)
  | .alarmAck l t .. => some (l, t)
  | .alarmList l t .. => some (l, t)
  | .outputSet l t .. => some (l, t)
  | .outputStatus l t => some (l, t)
  | .reportSelect l t .. => some (l, t)
  | .linkRestart l t => some (l, t)
  | .linkStatus l t => some (l, t)
  | .settingsWriteAxis l t .. => some (l, t)
  | .settingsWriteDrive l t .. => some (l, t)
  | .settingsWriteChannel l t .. => some (l, t)
  | .settingsWriteDoor l t .. => some (l, t)
  | .settingsWriteZone l t .. => some (l, t)
  | .settingsWriteScanner l t .. => some (l, t)
  | .settingsWriteRouting l t .. => some (l, t)
  | .settingsWriteOutput l t .. => some (l, t)
  | .settingsWriteLink l t .. => some (l, t)
  | .settingsRead l t .. => some (l, t)
  | .storeSettings l t => some (l, t)
  | .controllerReset l t => some (l, t)
  | .readCounters l t .. => some (l, t)
  | .setClock l t .. => some (l, t)
  | .identify l t => some (l, t)
  | _ => none

/-- A motion is under way: WARNING to STOPPING, and JOGGING (R19). -/
def AxisState.inMotion (x : AxisState) : Bool := x.active && decide (x ≠ .manual)

/-- Driving: MOVING, SETTLING or JOGGING. -/
def AxisState.travels (x : AxisState) : Bool :=
  decide (x = .moving) || decide (x = .settling) || decide (x = .jogging)

namespace Machine

/-! ## What a command leaves of the links -/

/-- Reports queued in order, each on one link or, with `none`, on both (R170). -/
def State.says (s : State) (rs : List (Option Link × ReportBody)) : State :=
  rs.foldl (fun s r => match r.1 with
    | some l => s.reportOn l r.2
    | none => s.report r.2) s

/-- A report queued on both links. -/
def toBoth (b : ReportBody) : Option Link × ReportBody := (none, b)

/-- A report queued on one link. -/
def toLink (l : Link) (b : ReportBody) : Option Link × ReportBody := (some l, b)

/-- What an event that queues the reports `rs` leaves: its notice is taken, the reports are queued, and
free transmitters begin. Only the links, their counters and the notices differ from `s`. -/
def State.acted (s : State) (i : Instr) (rs : List (Option Link × ReportBody)) : State :=
  ((s.taken i).says rs).pump

/-- What a request that queues the reports `rs` and is answered `d` leaves: its frame is taken, the
reports are queued, the reply is placed, and free transmitters begin. Only the links and their counters
differ from `s`. -/
def State.answered (s : State) (l : Link) (tag : Byte) (i : Instr)
    (rs : List (Option Link × ReportBody)) (d : ReplyData) : State :=
  (((s.openRequest l i).says rs).placeReply l ⟨i.kind, tag, d⟩).pump

/-- What an event that acts as `f` does leaves. -/
def State.actedBy (s : State) (i : Instr) (f : State → State) : State := (f (s.taken i)).pump

/-- What a request that acts as `f` does and is answered `d` leaves. -/
def State.answeredBy (s : State) (l : Link) (tag : Byte) (i : Instr) (d : ReplyData)
    (f : State → State) : State :=
  ((f (s.openRequest l i)).placeReply l ⟨i.kind, tag, d⟩).pump

/-- The reply a link was last given: in its slot, or already on the line. -/
def LinkController.lastReply (c : LinkController) : Option Reply :=
  match c.slot, c.line with
  | some r, _ => some r
  | none, some (.reply r) => some r
  | none, _ => none

/-! ## The laws of the part -/

/-- The command of each axis: it is its generator's pending command (R56); 0 in IDLE, WARNING and
TRIPPED; nothing is staged outside MANUAL; neither exceeds Dmax (R17, R39, R55). -/
def State.ValveLaw (s : State) : Prop :=
  ∀ a : Fin 4,
    s.valves[a].command = s.axes[a].c ∧
    (s.axes[a].state = .idle ∨ s.axes[a].state = .warning ∨ s.axes[a].state = .tripped →
      s.axes[a].c = 0) ∧
    (s.axes[a].state ≠ .manual → s.axes[a].staged = 0) ∧
    s.axes[a].c.natAbs ≤ s.settings.axes[a].dMax ∧
    s.axes[a].staged.natAbs ≤ s.settings.axes[a].dMax

/-- Which optional fields and timers of an axis record each state has (02, 2.2): the direction and the
running motion in a motion, the warning timer in WARNING, the motion timer in travel, the stopping
outcome in STOPPING, the trip kind in TRIPPED. -/
def State.AxisLaw (s : State) : Prop :=
  ∀ a : Fin 4,
    (s.axes[a].direction.isSome = s.axes[a].state.inMotion) ∧
    (s.axes[a].running?.isSome = s.axes[a].state.inMotion) ∧
    (s.axes[a].warning.isSome = decide (s.axes[a].state = .warning)) ∧
    (s.axes[a].motionTimer.isSome = s.axes[a].state.travels) ∧
    (s.axes[a].stopOutcome.isSome = decide (s.axes[a].state = .stopping)) ∧
    (s.axes[a].tripKind.isSome = decide (s.axes[a].state = .tripped))

/-- A pending request stands against a holder that is the other link (R70); the two links are never both
at SERVICE, and none is with the key released but while the notice of its release is on its way (R80,
R81); the hold status is NONE exactly while the claim set is empty (R77, R79). -/
def State.StationLaw (s : State) : Prop :=
  (∀ a : Fin 4, ∀ r : AuthorityRequest, s.station.auth[a].request = some r →
    s.holder a = some r.requester.other) ∧
  ¬(s.station.level.bridge = .service ∧ s.station.level.localLink = .service) ∧
  (∀ l : Link, s.station.level.get l = .service →
    s.inputs.levels.serviceKey = true ∨ .serviceKeyRelease ∈ s.handed) ∧
  (s.station.held = false ↔ s.station.hold = .none)

/-- At most one entry per source (R153); a flag is set exactly while its source's entry is active, and
never for a momentary source (R150 to R152); both trip lines are as their rules give (R157, R158). -/
def State.AlarmLaw (s : State) : Prop :=
  (s.alarms.list.map (·.source)).Nodup ∧
  (∀ c : Fin 60, s.alarms.flags[c] = true ↔
    ∃ e ∈ s.alarms.list, e.source = c ∧ e.state.isActive = true) ∧
  (∀ c : Fin 60, momentaryCode c = true → s.alarms.flags[c] = false) ∧
  s.alarms.alarm = alarmDue s.settings.routing s.alarms.list ∧
  s.alarms.stop = stopDue s.settings.routing s.alarms.list s.alarms.alarm

/-- An axis that is active is fitted (R17, R176). While the STOP line is asserted none is active but one
whose notice of it is on its way (R33); in WARNING, MOVING, SETTLING and JOGGING the holder is a link, in
JOGGING the local link, but for one whose notice of a change is on its way (R41). -/
def State.MotionLaw (s : State) : Prop :=
  ∀ a : Fin 4, s.axes[a].state.active = true →
    s.settings.axes[a].fitted = true ∧
    (s.alarms.stop = true → .stopLineChange a true ∈ s.handed) ∧
    (s.axes[a].state ≠ .stopping → s.axes[a].state ≠ .manual →
      (∃ l, s.holder a = some l ∧ (s.axes[a].state = .jogging → l = .localLink)) ∨
      ∃ r, .holderChange a r ∈ s.handed)

/-- No fitted door of a zone in ALARM is held: none is ARMED, OPENING or OPEN_HELD (R87, R88, R105). -/
def State.FireDoorLaw (s : State) : Prop :=
  ∀ d : Fin 32, s.doorFitted d = true → s.zones[s.settings.doors[d].zone].alarm = true →
    s.doors[d].state.heldOpen = false

/-- At most eight external calls (R124); at most one call of each automatic origin (R128); the numbers of
the calls are distinct (R125); the number counter stays in 1 to 255 and sequence numbers rise in table
order, below the sequence counter (R125). -/
def State.CallLaw (s : State) : Prop :=
  s.calls.externals ≤ 8 ∧
  s.calls.table.Pairwise (fun c d => c.origin.external = true ∨ c.origin ≠ d.origin) ∧
  (s.calls.table.map (·.number)).Nodup ∧
  (1 ≤ s.calls.number ∧ s.calls.number ≤ 255) ∧
  s.calls.table.Pairwise (fun c d => c.sequence < d.sequence) ∧
  (∀ c ∈ s.calls.table, c.sequence < s.calls.sequence) ∧
  s.calls.sequence ≤ Config.counterTop

/-- No RECALL call is addressed to a lane of a zone in ALARM, but while the withdrawal of its lanes is on
its way (R133). -/
def State.RecallLaw (s : State) : Prop :=
  ∀ c ∈ s.calls.table, c.kind = .recall → ∀ z : Fin 8, s.zones[z].alarm = true →
    c.lanes &&& s.settings.zones[z].lanes = 0 ∨ .recallTrim z ∈ s.handed

/-- A queue holds at most 32 reports (R170); the supervision timer runs exactly in UP (R169); a frame is
in assembly exactly outside HUNT (R165). -/
def State.LinkLaw (s : State) : Prop :=
  ∀ l : Link,
    (s.links.get l).queue.length ≤ 32 ∧
    ((s.links.get l).timer.isSome = decide ((s.links.get l).state = .up)) ∧
    ((s.links.get l).assembly.isNone = decide ((s.links.get l).receiver = .hunt))

/-! ## What the rules name -/

/-- The record an axis that stood as `x` has at rest in `into`, a running motion completed with outcome
`o` (02, 2.2; R19). -/
def AxisRecord.atRest (x : AxisRecord) (into : AxisState) (now : DeckTime) (o : MotionOutcome) :
    AxisRecord :=
  { x with
    state := into
    target := none
    direction := none
    c := 0
    stopOutcome := none
    warning := none
    motionTimer := none
    refresh := none
    confirm := none
    motion := x.motion.map fun m =>
      if m.finish.isNone then { m with finish := some now, outcome := some o } else m }

/-- `base` with axis `a`, that stood as `x`, at rest in `into`: its command 0 and handed to its
generator, and the end of a running motion counted (R19, R20, R56). -/
def State.withAxisAtRest (base : State) (a : Fin 4) (x : AxisRecord) (into : AxisState)
    (o : MotionOutcome) : State :=
  { base with
    axes := base.axes.set a (x.atRest into base.clock o)
    valves := base.valves.set a { base.valves[a] with command := 0 }
    counters :=
      if x.running then
        { base.counters with
          axes := base.counters.axes.set a (base.counters.axes[a].ended o) }
      else base.counters }

/-- The reports of that: AXIS STATE, then AXIS OUTCOME where a motion ended (R19, R20). -/
def restReports (a : Fin 4) (x : AxisRecord) (into : AxisState) (now : DeckTime)
    (o : MotionOutcome) : List (Option Link × ReportBody) :=
  toBoth (.axisState a x.state into (some o)) ::
  match x.motion with
  | some m => if m.finish.isNone then
      [toBoth (.axisOutcome a { m with finish := some now, outcome := some o })] else []
  | none => []

/-- The record of an axis that enters STOPPING with outcome `o` (R29). -/
def AxisRecord.nowStopping (x : AxisRecord) (o : MotionOutcome) : AxisRecord :=
  { x with state := .stopping, motionTimer := none, refresh := none, stopOutcome := some o }

/-- `base` with axis `a`, that stood as `x`, in STOPPING with outcome `o`; with c 0 it goes on to IDLE at
once (R29). -/
def State.withAxisStopping (base : State) (a : Fin 4) (x : AxisRecord) (o : MotionOutcome) : State :=
  if x.c = 0 then base.withAxisAtRest a (x.nowStopping o) .idle o
  else { base with axes := base.axes.set a (x.nowStopping o) }

/-- The reports of that (R19, R20). -/
def stopReports (a : Fin 4) (x : AxisRecord) (now : DeckTime) (o : MotionOutcome) :
    List (Option Link × ReportBody) :=
  toBoth (.axisState a x.state .stopping (some o)) ::
  (if x.c = 0 then restReports a (x.nowStopping o) .idle now o else [])

/-- What that hands on (R20; order: log entry 54). -/
def stopNotices (a : Fin 4) (x : AxisRecord) : List Instr :=
  axisNotices a x.state .stopping ++ (if x.c = 0 then axisNotices a .stopping .idle else [])

/-- The valve frame in progress of an axis cut (R60). -/
def State.withCut (base : State) (a : Fin 4) : State :=
  { base with valves := base.valves.set a { base.valves[a] with cut := true } }

/-- `base` with axis `a` standing as `x` and its generator's pending command as `x` has it (R56). -/
def State.withAxis (base : State) (a : Fin 4) (x : AxisRecord) : State :=
  { base with
    axes := base.axes.set a x
    valves := base.valves.set a { base.valves[a] with command := x.c } }

/-- The record after a drive computation that left `r` (R48, R67). -/
def AxisRecord.driven (x : AxisRecord) (r : UpdateRecord) : AxisRecord :=
  { x with
    c := r.cNew
    confirm := if r.cNew = 0 then none else x.confirm
    update := some r }

/-- Axis `a`, standing as `x` with c not 0, enters STOPPING with outcome `o` during the update `i`, which is
then computed as a STOPPING update: at a limit switch on c's side it comes to rest with its frame cut;
otherwise c goes toward 0 at the stop slew, and at 0 it comes to rest (R26, R29, R37; the fields of the
update record that the mode does not form are absent, log entry 16). -/
def State.StopsInUpdate (s : State) (i : Instr) (a : Fin 4) (x : AxisRecord) (o : MotionOutcome) :
    Prop :=
  let set := s.settings.axes[a]
  let met := (0 < x.c ∧ s.inputs.levels.limHi[a] = true) ∨ (x.c < 0 ∧ s.inputs.levels.limLo[a] = true)
  let c := slewed x.c 0 set.stopSlew set.dMax
  let z := x.nowStopping o
  let y := z.driven ⟨.stopping, none, none, none, none, none, 0, x.c, c⟩
  let first := toBoth (.axisState a x.state .stopping (some o))
  let told := axisNotices a x.state .stopping
  (met → exec i s = .next
    { ((s.acted i (first :: restReports a z .idle s.clock o)).withAxisAtRest a z .idle o).withCut a with
      handed := s.handed.erase i ++ (told ++ axisNotices a .stopping .idle) }) ∧
  (¬met → c ≠ 0 → exec i s = .next
    { (s.acted i [first]).withAxis a y with handed := s.handed.erase i ++ told }) ∧
  (¬met → c = 0 → exec i s = .next
    { (s.acted i (first :: restReports a y .idle s.clock o)).withAxisAtRest a y .idle o with
      handed := s.handed.erase i ++ (told ++ axisNotices a .stopping .idle) })

/-- `base` with door `d` standing as `x`, its outputs written and the open-door counts as they then are
(R86, R101). -/
def State.withDoor (base : State) (d : Fin 32) (x : DoorRecord) : State :=
  let t := { base with
    doors := base.doors.set d x
    chain := { base.chain with
      outputs := base.chain.outputs.set d (doorOutputs base.settings.doors[d].kind x.state) } }
  { t with openCounts := ⟨Vector.ofFn t.zoneOpenCount, t.seaOpenCount⟩ }

/-- The DOOR STATE report of a change of a door's state (R101). -/
def doorReports (d : Fin 32) (prev new : DoorState) (cause : DoorCause) :
    List (Option Link × ReportBody) :=
  if prev = new then [] else [toBoth (.doorState d prev new cause)]

/-- What the change from `s` to door `d` standing as `x` hands on: the new state, each open-door count
that changed, and DOOR_FAULT at entry to FAULT and at exit from it (R99, R101; order: log entry 54). -/
def State.doorNotices (s : State) (d : Fin 32) (x : DoorRecord) : List Instr :=
  (if s.doors[d].state = x.state then [] else [.sourceChange (.doorState d) ⟨x.state.code, true⟩]) ++
  countNotices s.openCounts (s.withDoor d x).openCounts ++ faultNotices d s.doors[d].state x.state

/-- The record of a door `d` that enters CLOSING (R93). -/
def State.closingRecord (s : State) (d : Fin 32) (x : DoorRecord) : DoorRecord :=
  { x with
    state := .closing
    closingSince := s.clock
    mark := s.uptime
    travel := some (s.settings.doors[d].closeLimit * 1000) }

/-- The record of a door `d` that enters OBSTRUCTED (R95). -/
def State.obstructedRecord (s : State) (d : Fin 32) (x : DoorRecord) : DoorRecord :=
  { x with
    state := .obstructed
    travel := none
    pause := some (s.settings.doors[d].pause * 1000) }

/-- `s` after door `d` has gone to the record `y`: its change reported with `cause`, its outputs and the
counts written, and all of it handed on (R86, R99, R101). -/
def State.doorGoes (s : State) (d : Fin 32) (y : DoorRecord) (cause : DoorCause) : State :=
  { (s.says (doorReports d s.doors[d].state y.state cause)).withDoor d y with
    handed := s.handed ++ s.doorNotices d y }

/-- `s` after door `d`, its record otherwise `y`, has entered CLOSING, and a sliding door with `edge`
asserted gone on to OBSTRUCTED, a second change counted, reported and handed on (R93, R95; log entry
15). -/
def State.doorCloses (s : State) (d : Fin 32) (y : DoorRecord) (cause : DoorCause) (edge : Bool) :
    State :=
  let t := s.doorGoes d (s.closingRecord d y) cause
  if s.settings.doors[d].kind = .sliding ∧ edge = true then
    (t.countDoor d fun k => { k with obstructions := saturate k.obstructions }).doorGoes d
      (s.obstructedRecord d (s.closingRecord d y)) .edge
  else t

/-- `s` after door `d`, CLOSED, is held (R87). -/
def State.doorHeld (s : State) (d : Fin 32) : State :=
  let x := s.doors[d]
  s.doorGoes d (if s.settings.doors[d].kind = .sliding then
      { x with state := .opening, travel := some (s.settings.doors[d].closeLimit * 1000) }
    else { x with state := .armed }) .hold

/-- `s` after a release of door `d`: its last release time and retry count set and a release counted; from
ARMED with the closed switch asserted it is CLOSED, otherwise it enters CLOSING; a door that is not held
stays (R92). -/
def State.doorReleased (s : State) (d : Fin 32) (cause : DoorCause) : State :=
  let x := s.doors[d]
  let y : DoorRecord := { x with lastRelease := s.clock, retry := 0 }
  let t := s.countDoor d fun k => { k with releases := saturate k.releases }
  if x.state.heldOpen = false then s
  else if x.state = .armed ∧ x.seen.closedSwitch = true then t.doorGoes d { y with state := .closed } cause
  else t.doorCloses d y cause x.seen.edge

/-- The state a release leaves a door in (R92, R93). -/
def releasedState (k : DoorKind) (x : DoorRecord) : DoorState :=
  if x.state.heldOpen = false then x.state
  else if x.state = .armed ∧ x.seen.closedSwitch = true then .closed
  else if k = .sliding ∧ x.seen.edge = true then .obstructed
  else .closing

/-- The state a door takes at start-up from its kind and the inputs of the first scan (R85, R108). -/
def startState (k : DoorKind) (i : DoorInputs) : DoorState :=
  if k = .absent then .closed
  else if i.closedSwitch then .closed
  else if k = .sliding ∧ i.edge = true then .obstructed
  else .closing

/-- The result a slot's entries have of term values (R112). -/
def resultOf (es : List PermEntry) (values : Vector Bool 64) : Bool :=
  decide (es ≠ [] ∧ ∀ e ∈ es, values[e.term] ≠ e.invert)

/-- What a change of slot `p` to `r` hands on (R115). -/
def slotTold (p : Fin 16) (r : Bool) : List Instr :=
  (if h : p.val < 8 then
    [.permissiveSlotChange ⟨p.val / 2, by omega⟩ (if p.val % 2 = 1 then .raise else .lower) r]
  else []) ++ [.outputLineSourceChange (.permissive p) r]

/-- The slots as they stand with new term values, those that `touched` names recomputed: a changed result
takes the deck clock as its last change time (R112, R114). -/
def State.slotsAfter (s : State) (x : Settings) (values : Vector Bool 64) (touched : Fin 16 → Bool) :
    Vector Slot 16 :=
  Vector.ofFn fun p =>
    if touched p = true ∧ resultOf x.permissives[p] values ≠ s.evaluator.slots[p].result then
      ⟨resultOf x.permissives[p] values, s.clock⟩
    else s.evaluator.slots[p]

/-- The slots whose result changes, ascending. -/
def State.slotsMoved (s : State) (after : Vector Slot 16) : List (Fin 16) :=
  (List.finRange 16).filter fun p => decide (after[p].result ≠ s.evaluator.slots[p].result)

/-- The PERMISSIVE CHANGED reports of that (R116). -/
def State.slotReports (s : State) (after : Vector Slot 16) (src : Option Source) :
    List (Option Link × ReportBody) :=
  (s.slotsMoved after).map fun p => toBoth (.permissiveChanged p after[p].result src)

/-- What that hands on, in ascending slot order (R114, R115; the consumers of one slot: log entry 54). -/
def State.slotNotices (s : State) (after : Vector Slot 16) : List Instr :=
  (s.slotsMoved after).flatMap fun p => slotTold p after[p].result

/-- Slot `p` lists a term whose value changes (R114). -/
def listsMoved (x : Settings) (old new : Vector Bool 64) (p : Fin 16) : Bool :=
  x.permissives[p].any fun e => decide (old[e.term] ≠ new[e.term])

/-- Slot `p` guards an axis in WARNING, MOVING, SETTLING, JOGGING or MANUAL (R117, R118). -/
def State.guarded (s : State) (p : Fin 16) : Prop :=
  ∃ a : Fin 4, (p.val = 2 * a.val ∨ p.val = 2 * a.val + 1) ∧
    s.axes[a].state ≠ .idle ∧ s.axes[a].state ≠ .stopping ∧ s.axes[a].state ≠ .tripped

/-- Slot `p` leads to slot `q` through an output line (R119). -/
def leads (x : Settings) (p q : Fin 16) : Prop :=
  ∃ k : Fin 8, (∃ e ∈ x.permissives[p], x.terms[e.term].source = some (.outputLine k)) ∧
    x.outputs[k].source = .permissive q

/-- Call `c` as an admission gives it its number, sequence number, timer and time (R125, R127). -/
def State.callIn (s : State) (c : Call) : Call :=
  { c with
    number := s.calls.freeNumber
    acked := 0
    timer := if c.duration = 0 then none else some (c.duration * 1000)
    admitted := s.clock
    sequence := if s.calls.sequence < 4294967295 then s.calls.sequence
      else s.calls.table.length + 1 }

/-- `base` with that call admitted: at the end of the table, the calls before it renumbered where the
sequence counter stands at its top, the counters past its numbers, and the CHIME line asserted by one
whose chime field is yes (R125, R127, R135). -/
def State.withCall (base : State) (c : Call) : State :=
  { base with calls := { base.calls with
      table := (if base.calls.sequence < 4294967295 then base.calls.table
        else base.calls.table.mapIdx fun k x => { x with sequence := k + 1 }) ++ [c]
      number := if c.number < 255 then c.number + 1 else 1
      sequence := c.sequence + 1
      chime := c.chime || base.calls.chime
      chimeTimer := if c.chime then some 2000 else base.calls.chimeTimer } }

/-- `base` with the calls `stay` left in the table and the calls `gone` recorded as removed, the list
keeping the last eight (R129). -/
def State.withRemovals (base : State) (stay : List Call) (gone : List (Call × RemovalReason)) : State :=
  let removed := base.calls.removed ++
    gone.map fun g => ⟨g.1.number, g.1.kind, g.1.origin, g.1.lanes, g.1.acked, g.2, base.clock⟩
  { base with calls := { base.calls with
      table := stay
      removed := if gone = [] then base.calls.removed else removed.drop (removed.length - 8) } }

/-- The CALL STATE reports of that, in table order (R129). -/
def removalReports (gone : List (Call × RemovalReason)) : List (Option Link × ReportBody) :=
  gone.map fun g => toBoth (.callRemoved g.1 g.2)

/-- What a frame start loads on the fitted board `b`: its winner, lit or, for a winner of priority 6 or 7
in the dark half of the flash, dark (R142, R143). -/
def State.loadedBoard (s : State) (b : Fin 16) : Shown :=
  let dark := s.clock.toNat / 500 % 2 = 1
  match winnerOf s.calls.table b with
  | none => ⟨none, some 0, true, s.settings.patterns[(0 : Fin 64)]⟩
  | some c =>
    if 6 ≤ c.priority ∧ dark then ⟨some (c.number, c.priority), some c.pattern, false, 0⟩
    else ⟨some (c.number, c.priority), some c.pattern, true, s.settings.patterns[c.pattern]⟩

/-- The boards from `n` up whose button is pressed: clearing them releases it (R140). -/
def State.releasedBoards (s : State) (n : Nat) : List (Fin 16) :=
  (List.finRange 16).filter fun b => decide (n ≤ b.val ∧ s.scanner.buttons[b].pressed = true)

/-- The output lines with those that follow `src` at the level its value gives (R159). -/
def State.linesFollowing (s : State) (src : OutSource) (value : Bool) : Vector OutLine 8 :=
  Vector.ofFn fun k =>
    if s.settings.outputs[k].source = src then
      { s.alarms.lines[k] with level := value != s.settings.outputs[k].invert }
    else s.alarms.lines[k]

/-- What a change to the lines `new` hands on, in ascending line order (R159). -/
def State.lineNotices (s : State) (new : Vector OutLine 8) : List Instr :=
  ((List.finRange 8).filter fun k => decide (new[k].level ≠ s.alarms.lines[k].level)).map fun k =>
    .sourceChange (.outputLine k) ⟨if new[k].level then 1 else 0, true⟩

/-- `base` with the alarm list `es`, both trip lines as it and the routing give them, and the lines that
follow the ALARM line (R157 to R159). -/
def State.withAlarms (base : State) (es : List AlarmEntry) : State :=
  let r := base.settings.routing
  let alarm := alarmDue r es
  { base with alarms := { base.alarms with
      list := es
      alarm := alarm
      stop := stopDue r es alarm
      lines := if alarm = base.alarms.alarm then base.alarms.lines
        else base.linesFollowing .alarmLine alarm } }

/-- The TRIP LINE CHANGED reports of that, the ALARM line first (R158). -/
def State.tripReports (s : State) (es : List AlarmEntry) : List (Option Link × ReportBody) :=
  let t := s.withAlarms es
  (if t.alarms.alarm = s.alarms.alarm then [] else [toBoth (.tripLineChanged false t.alarms.alarm)]) ++
  (if t.alarms.stop = s.alarms.stop then [] else [toBoth (.tripLineChanged true t.alarms.stop)])

/-- What that hands on: the STOP line to every axis, then the lines' levels (R158, R159; order: log entry
54). -/
def State.tripNotices (s : State) (es : List AlarmEntry) : List Instr :=
  let t := s.withAlarms es
  (if t.alarms.stop = s.alarms.stop then []
    else (List.finRange 4).map fun a => .stopLineChange a t.alarms.stop) ++
  s.lineNotices t.alarms.lines

/-- The reports of entries that join the list one after another: ALARM CHANGED of each, then TRIP LINE
CHANGED of what it changes (R153, R158, R163). -/
def State.joinReports (s : State) : List AlarmEntry → List (Option Link × ReportBody)
  | [] => []
  | e :: es =>
    let new := s.alarms.list ++ [e]
    toBoth (.alarmChanged e.source none (some e.state) e.occurrences e.first e.last
      (if momentaryCode e.source then .momentary else .active)) ::
    (s.tripReports new ++ (s.withAlarms new).joinReports es)

/-- The list with the entry of `code` in its place replaced (R151). -/
def replaced (es : List AlarmEntry) (code : Fin 60) (x : AlarmEntry) : List AlarmEntry :=
  es.map fun e => if e.source = code then x else e

/-- An entry after an acknowledgement (R154). -/
def acknowledged (now : DeckTime) (e : AlarmEntry) : Option AlarmEntry :=
  match e.state with
  | .activeUnacked => some { e with state := .activeAcked, last := now }
  | .returnedUnacked => none
  | .activeAcked => some e

/-- `base` with link `l` standing as `c` and its counters as `k`. -/
def State.withLink (base : State) (l : Link) (c : LinkController) (k : LinkCounters) : State :=
  { base with
    links := base.links.set l c
    counters := { base.counters with links := base.counters.links.set l k } }

/-- What a restart leaves of a link controller; the reply slot and the frame on the line stay (R173). -/
def LinkController.cleared (c : LinkController) (l : Link) : LinkController where
  receiver := .hunt
  assembly := none
  waiting := none
  slot := c.slot
  line := c.line
  state := .down
  timer := none
  queue := []
  selection := match l with
    | .bridge => #v[true, true, true, true, true, true, true]
    | .localLink => #v[true, true, false, false, false, true, true]
  lost := false

/-- `base` with link `l` restarted, and the fall of its level reported after the clearing (R84, R173). -/
def State.linkRestarted (base : State) (l : Link) : State :=
  let t := { base with links := base.links.set l ((base.links.get l).cleared l) }
  { t.says (if base.station.level.get l = .service then
      [toBoth (.levelChanged l .operate .linkRestart)] else []) with
    station := { base.station with level := base.station.level.set l .operate } }

/-- What that hands on: the return of the link's alarm source, and to each axis the link holds the loss of
its level (R81, R169, R173; order: log entry 54). -/
def State.restartNotices (s : State) (l : Link) : List Instr :=
  (if (s.links.get l).state = .lost then [.alarmSourceChange (.linkLost l) false] else []) ++
  (if s.station.level.get l = .service then
    ((List.finRange 4).filter fun a => decide (s.holder a = some l)).map fun a =>
      .lossOfServiceLevel a l
  else [])

/-- The authority record of an axis after the loss of link `l`: held by it, it passes to the waiting
requester or to none; asked for by it, the request is removed (R75, R76). -/
def Authority.afterLoss (x : Authority) (l : Link) : Authority :=
  match x.holder, x.request with
  | none, r => ⟨none, r⟩
  | some h, none => if h = l then ⟨none, none⟩ else ⟨some h, none⟩
  | some h, some r =>
    if h = l then ⟨some r.requester, none⟩
    else if r.requester = l then ⟨some h, none⟩
    else ⟨some h, some r⟩

/-- The report of that for axis `a`: STATION CHANGED, or STATION ANSWER to the holder (R75, R76). -/
def Authority.lossReports (x : Authority) (a : Fin 4) (l : Link) :
    List (Option Link × ReportBody) :=
  match x.holder, x.request with
  | none, _ => []
  | some h, none => if h = l then [toBoth (.stationChanged a (some l) none .linkLost)] else []
  | some h, some r =>
    if h = l then [toBoth (.stationChanged a (some l) (some r.requester) .lostToRequester)]
    else if r.requester = l then [toLink h (.stationAnswer a .requesterLost)]
    else []

/-- `base` after the station controller has acted on the loss of link `l`, the axes in ascending order:
each axis the link held is told of the change of its holder (R75, R76), in that order (log entry 54). -/
def State.linkGone (base : State) (l : Link) : State :=
  { base.says ((List.finRange 4).flatMap fun a => base.station.auth[a].lossReports a l) with
    station := { base.station with
      auth := Vector.ofFn fun a => base.station.auth[a].afterLoss l }
    handed := base.handed ++
      ((List.finRange 4).filter fun a => decide (base.holder a = some l)).map fun a =>
        .holderChange a .linkLost }

/-- `s` after link `l` has received the frame `f` with the CRC `crc`: judged, counted, handed to
supervision, and waiting or lost to overrun (R166, R169). A good frame finds a loss of the link that is
still on its way taken (R75, R76; log entry 2). -/
def State.frameIn (s : State) (l : Link) (f : Frame) (crc : BitVec 16) : State :=
  let good := crc16 (byte (f.payload.length + 2) :: f.kind :: f.tag :: f.payload) = crc
  let base := if good ∧ .stationLinkLoss l ∈ s.handed then (s.taken (.stationLinkLoss l)).linkGone l
    else s
  let c := base.links.get l
  let k := base.counters.links.get l
  if ¬good then
    base.withLink l { c with receiver := .hunt, assembly := none }
      { k with crc := min (k.crc + 1) 4294967295 }
  else
    { base.withLink l
        { c with
          receiver := .hunt
          assembly := none
          state := .up
          timer := some (base.settings.supervision.get l)
          waiting := if c.waiting = none then some f else c.waiting }
        { k with
          good := min (k.good + 1) 4294967295
          overrun := if c.waiting = none then k.overrun else min (k.overrun + 1) 4294967295 } with
      handed := base.handed ++
        (if c.state = .lost then [.alarmSourceChange (.linkLost l) false] else []) }

/-- A settings write `i`: refused LEVEL, then BAD_FIELD where its values may not be taken, then BUSY while
a store is in flight or the object is in use; otherwise it goes as `goes` says (R176). -/
def State.WriteRule (s : State) (l : Link) (tag : Byte) (i : Instr) (valid inUse goes : Prop) : Prop :=
  let refuses := fun code => exec i s = .next (s.answered l tag i [] (.refused code))
  (s.station.level.get l = .operate → refuses .level) ∧
  (s.station.level.get l = .service →
    (¬valid → refuses .badField) ∧
    (valid → s.store.inFlight.isSome = true ∨ inUse → refuses .busy) ∧
    (valid → s.store.inFlight = none → ¬inUse → goes))

/-- What every write that is taken leaves: its reports queued, the object, its index and the values taken
in the reply, the settings `x` in force and the unstored-changes flag set (R176). -/
def State.wrote (s : State) (l : Link) (tag : Byte) (i : Instr)
    (rs : List (Option Link × ReportBody)) (object index : Nat) (data : List Byte) (x : Settings) :
    State :=
  { s.answered l tag i rs (.done (byte object :: byte index ::
      (data ++ List.replicate (127 - data.length) 0))) with
    settings := x
    store := { s.store with unstored := true } }

/-- A channel record after its settings went from `was` to `x` (R7). -/
def ChannelRecord.afterWrite (r : ChannelRecord) (was x : ChannelSettings) (now : DeckTime) :
    ChannelRecord :=
  let off := was.enabled = true ∧ x.enabled = false
  let ranged := was.rawMin ≠ x.rawMin ∨ was.rawMax ≠ x.rawMax
  let scales := was.zero ≠ x.zero ∨ was.gain ≠ x.gain ∨ was.offset ≠ x.offset
  { r with
    valid := r.valid && decide ¬off
    count := if off ∨ ranged then 0 else r.count
    changed := if off ∧ r.valid = true then now else r.changed
    filter := if was.depth = x.depth then r.filter else []
    scaled := if scales ∧ r.valid = true ∧ ¬off then
        scaleValue r.filtered x.zero x.gain x.offset
      else r.scaled }

/-- What a write that is taken leaves where it acts as `f` does, the settings `x` being in force (R176). -/
def State.wroteBy (s : State) (l : Link) (tag : Byte) (i : Instr) (object index : Nat)
    (data : List Byte) (x : Settings) (f : State → State) : State :=
  { s.answeredBy l tag i (.done (byte object :: byte index ::
      (data ++ List.replicate (127 - data.length) 0))) (fun t => f { t with settings := x }) with
    store := { s.store with unstored := true } }

/-- `s` after zone `z`, standing as `y`, has its condition evaluated: at the start of the condition it
enters ALARM, reports it, releases its held doors in ascending number, and hands on the trim of its lanes
before its EVACUATE post (log entry 26), its alarm source and its source changes, all after the doors'
changes (log entry 54); at its end it returns to NORMAL and hands that on; and otherwise only the record is
`y` (R102, R105, R106). -/
def State.zoneJudged (s : State) (z : Fin 8) (y : ZoneRecord) (by_ : ZoneCause) : State :=
  let was := s.zones[z].alarm
  let fire := s.settings.zones[z].fireEnabled && y.fire
  let holds := fire || y.manual
  let u := { s with zones := s.zones.set z { y with
    alarm := holds
    since := if holds = true ∧ was = false then some s.clock else y.since } }
  if holds = was then u
  else if holds = true then
    let v := ((List.finRange 32).filter (s.doorOfZone z)).foldl
      (fun t d => t.doorReleased d .zoneAlarm)
      (u.says [toBoth (.zoneState z true (if fire = true then .fireInput else .manual))])
    { v with handed := v.handed ++ [.recallTrim z, .evacuatePost z, .alarmSourceChange (.fire z) true,
        .outputLineSourceChange (.zoneAlarm z) true, .sourceChange (.zoneAlarm z) ⟨1, true⟩] }
  else
    { u.says [toBoth (.zoneState z false by_)] with
      handed := s.handed ++ [.alarmSourceChange (.fire z) false,
        .outputLineSourceChange (.zoneAlarm z) false, .sourceChange (.zoneAlarm z) ⟨0, true⟩] }

/-! ## Layouts of records and blocks (12) -/

/-- The number in the `w` bytes from offset `o`, most significant byte first (12). -/
def fieldAt (bs : List Byte) (o w : Nat) : Nat :=
  ((bs.drop o).take w).foldl (fun n b => 256 * n + b.toNat) 0

/-- The value of a field of flags: bit i is the i-th of them. -/
def flagBits (bs : List Bool) : Int := (bs.zipIdx.map fun x => if x.1 then 2 ^ x.2 else 0).sum

/-- The bytes carry each field, an offset, a width in bytes and a value: in two's complement where it is
negative, and cut to the field where it is too large for it. -/
def Carries (bs : List Byte) (fields : List (Nat × Nat × Int)) : Prop :=
  ∀ f ∈ fields, (fieldAt bs f.1 f.2.1 : Int) = f.2.2 % 256 ^ f.2.1

/-- A record of `n` bytes that carries the fields. -/
def Laid (bs : List Byte) (n : Nat) (fields : List (Nat × Nat × Int)) : Prop :=
  bs.length = n ∧ Carries bs fields

/-- A remaining time as a field: 0xFFFFFFFF stands for a stopped timer (12.4). -/
def timerField (t : Option Nat) : Int := t.getD 0xFFFFFFFF

/-- A deck time as a field, 0 where it is absent (R183). -/
def timeField (t : Option DeckTime) : Int := (t.getD 0).toNat

/-- A code as a field, 0 where it is absent (12.3, R183). -/
def codeField {α : Type} (x : Option α) (code : α → Nat) : Int := x.elim 0 fun y => (code y : Int)

end Machine

end Sys2Proof
end

