-- ==== Sys2Proof/Certificates/Slice0/Obligations.lean ====
section
/-! DEFINITION. The statements for the provers: what the commands do, what they leave alone, and the
laws every step keeps. -/

open Sys2Proof Sys2Proof.Machine

/-! ## The step and the frame of every command -/

/-- The step is the command at the front of the queue, run on the rest. With no command waiting the part
acts of itself in the order log entry 1 chooses: nothing while it does not run; the oldest notice; a
waiting frame, the bridge's first, refused by the link where it spells no request of the right length;
the first event that is due, in the order axes, doors, calls, scanner, links; and else a millisecond
(log entry 3), on which the deck clock counts, every timer and deadline runs, each valve frame moves on
by 1,000 ticks (log entry 32) and the scan frame by one position. Due is the expiry of each timer or
deadline that stands at 0, the start of a valve frame where the position has reached 4,096 ticks (R57),
and at a scan position of boards plus blanking the next frame or, with N = 0, the end of the last (R139,
R140). The order of timers that run out in one millisecond, within a block too, is the model's choice
(log entry 1). -/
def Obligations.StepRunsFrontCommandElseOwnAct : Prop :=
  (∀ (c : Instr) (rest : List Instr) (s : State), s.pending = c :: rest →
    step s = exec c { s with pending := rest }) ∧
  (∀ s : State, s.pending = [] →
    let takes := fun (l : Link) (f : Frame) =>
      (s.links.get l).waiting = some f ∧ (s.links.get l).slot = none
    let refuses := fun (l : Link) (f : Frame) (code : RefusalCode) => step s = .next { s with
      links := s.links.set l { s.links.get l with
        waiting := none
        slot := some ⟨f.kind, f.tag, .refused code⟩ } }.pump
    let out := fun (t : Option Nat) (i : Instr) => if t = some 0 then [i] else []
    let due := ((List.finRange 4).flatMap fun a =>
        out s.axes[a].warning (.warningTimerExpiry a) ++
        out s.axes[a].motionTimer (.motionTimerExpiry a) ++
        out s.axes[a].refresh (if s.axes[a].state = .manual then .manualRefreshExpiry a
          else .jogRefreshExpiry a) ++
        out (s.station.auth[a].request.map (·.deadline)) (.deadlineExpiry a) ++
        (if 4096 ≤ s.valves[a].position then [.valveFrameStart a] else [])) ++
      ((List.finRange 32).flatMap fun d =>
        out s.doors[d].travel (.travelTimerExpiry d) ++ out s.doors[d].pause (.pauseTimerExpiry d) ++
        out s.doors[d].conflict (.conflictTimerExpiry d)) ++
      (s.calls.table.flatMap fun c => out c.timer (.durationTimerExpiry c.number)) ++
      out s.calls.chimeTimer .chimeTimerExpiry ++
      (match s.scanner.frame with
        | none => []
        | some f =>
          if f.position < f.boards + f.blanking then []
          else if s.settings.boards = 0 then [.lastScanFrameEnd]
          else [.boardFrameStart]) ++
      out s.links.bridge.timer (.linkLost .bridge) ++ out s.links.localLink.timer (.linkLost .localLink)
    (s.power ≠ .running → step s = .next s) ∧
    (s.power = .running → ∀ i rest, s.handed = i :: rest → step s = exec i s) ∧
    (s.power = .running → s.handed = [] →
      (∀ l f, takes l f → (l = .localLink → ∀ g, ¬takes .bridge g) →
        (∀ i, decodeFrame l f = .request i → step s = exec i s) ∧
        (∀ code, decodeFrame l f = .refuse code → refuses l f code) ∧
        (decodeFrame l f = .undefinedObject →
          refuses l f (if s.station.level.get l = .service then .badField else .level))) ∧
      ((∀ l f, ¬takes l f) →
        (∀ i rest, due = i :: rest → step s = exec i s) ∧
        (due = [] → step s = .next { s with
          clock := s.clock + 1
          uptime := s.uptime + 1
          axes := Vector.ofFn fun a => { s.axes[a] with
            warning := s.axes[a].warning.map (· - 1)
            motionTimer := s.axes[a].motionTimer.map (· - 1)
            refresh := s.axes[a].refresh.map (· - 1) }
          valves := Vector.ofFn fun a => { s.valves[a] with position := s.valves[a].position + 1000 }
          station := { s.station with auth := Vector.ofFn fun a => { s.station.auth[a] with
            request := s.station.auth[a].request.map fun r => { r with deadline := r.deadline - 1 } } }
          doors := Vector.ofFn fun d => { s.doors[d] with
            travel := s.doors[d].travel.map (· - 1)
            pause := s.doors[d].pause.map (· - 1)
            conflict := s.doors[d].conflict.map (· - 1) }
          calls := { s.calls with
            table := s.calls.table.map fun c => { c with timer := c.timer.map (· - 1) }
            chimeTimer := s.calls.chimeTimer.map (· - 1) }
          scanner := { s.scanner with
            frame := s.scanner.frame.map fun f => { f with position := f.position + 1 } }
          links := ⟨{ s.links.bridge with timer := s.links.bridge.timer.map (· - 1) },
            { s.links.localLink with timer := s.links.localLink.timer.map (· - 1) }⟩ }))))

/-- Every command answers a next state and leaves the queue of waiting commands alone: no row of the
table ends in a fault or a refusal. Without supply and during the settings load nothing but POWER_ON,
POWER_LOSS and, during the load, its end changes any state (R178, R179; for the events and requests that
no rule names there this is the model's choice, log entry 5). -/
def Obligations.EveryCommandAnswersNext : Prop :=
  (∀ (i : Instr) (s : State), ∃ t, exec i s = .next t ∧ t.pending = s.pending) ∧
  (∀ (i : Instr) (s : State), s.power ≠ .running → i ≠ .powerOn → i ≠ .powerLoss →
    (s.power = .loading → ∀ inputs doors, i ≠ .settingsLoadEnd inputs doors) →
    exec i s = .next s)

/-- Every request is answered in its own act by one reply of its KIND and TAG (R167); a reply found in
its slot has begun on the line (log entry 10). A request that is refused changes nothing but the links:
its frame leaves the waiting position and its refusal is placed (R167). -/
def Obligations.RequestsAreAnsweredAndRefusalsChangeNothing : Prop :=
  (∀ (i : Instr) (l : Link) (tag : Byte) (s : State),
    i.sender = some (l, tag) → s.power = .running →
    ∃ t d, exec i s = .next t ∧ (t.links.get l).lastReply = some ⟨i.kind, tag, d⟩ ∧
      (∀ f, (s.links.get l).waiting = some f → decodeFrame l f = .request i →
        (t.links.get l).waiting = none)) ∧
  (∀ (i : Instr) (l : Link) (tag : Byte) (code : RefusalCode) (s t : State),
    i.sender = some (l, tag) → s.power = .running → exec i s = .next t →
    (t.links.get l).lastReply = some ⟨i.kind, tag, .refused code⟩ →
    t = s.answered l tag i [] (.refused code))

/-! ## Power and start-up -/

/-- POWER_ON begins the settings load and POWER_LOSS stops the part; each leaves only the stored image,
whose CRC a store in flight has left bad (R178, R179; log entries 6 and 29). SETTINGS_LOAD_END puts the
stored image, or the factory settings where its CRC is bad, in force, and in one act with the first
input sample and the first door scan (log entry 13) starts every block: the inputs undebounced, each
door derived from the scan, its edge taking it on to OBSTRUCTED (log entry 42), each zone from its FIRE
input, the alarm list from ESTOP, FIRE, AXIS_SENSOR and SETTINGS_DEFAULTED in that order (log entry 14)
with the trip lines, the output lines, the term values and slots, every slot computed from its entries
(log entry 53), the scanner with its flash phase LIT (log entry 18), the links DOWN with the reports of
that queued, and what is handed on (R8, R12, R15, R45, R57, R83, R108, R122, R137, R148, R163, R175,
R179). The order among separate notices of one act, where no rule gives it, is the model's choice (log
entry 54). What the rest of the state holds before the load ends (log entries 6 and 44), and that the
first valve frames are due at its end (log entry 32) and the conflict timer may start there (log entry
40), are the model's choice. -/
def Obligations.PowerEventsAndStartOfThePart : Prop :=
  (∀ s : State,
    let image := if s.store.inFlight.isSome then { s.store.image with crcGood := false }
      else s.store.image
    exec .powerOn s = .next { State.powerOn image with pending := s.pending } ∧
    exec .powerLoss s = .next { State.powerOn image with power := .off, pending := s.pending }) ∧
  (∀ (inputs : InputLevels) (doors : Vector DoorInputs 32) (s : State), s.power = .loading →
    let good := s.store.image.crcGood
    let settings := if good then s.store.image.settings else factorySettings
    let new := { State.powerOn s.store.image with
      settings := settings
      doors := Vector.ofFn fun d => { DoorRecord.powerOn with seen := doors[d] } }
    let both := fun (d : Fin 32) => doors[d].openSwitch = true ∧ doors[d].closedSwitch = true
    let struck := fun (d : Fin 32) => startState settings.doors[d].kind doors[d] = .obstructed
    let derived := fun (d : Fin 32) => { new.doors[d] with
      conflict := if both d then some 1000 else none }
    let lit := fun (z : Fin 8) => settings.zones[z].fireEnabled && inputs.fire[z]
    let zones := (List.finRange 8).filter lit
    let entry := fun (src : CondSource) => (⟨src.code, .activeUnacked, 0, 0, 1⟩ : AlarmEntry)
    let found := (if inputs.estop then [CondSource.estop] else []) ++ zones.map .fire ++
      ((List.finRange 4).filter fun a => settings.axes[a].fitted).map .axisSensor
    let entries := found.map entry ++
      (if good then [] else [⟨MomentarySource.settingsDefaulted.code, .returnedUnacked, 0, 0, 1⟩])
    ∃ t, exec (.settingsLoadEnd inputs doors) s = .next t ∧
      t.power = .running ∧ t.pending = s.pending ∧ t.clock = 0 ∧ t.uptime = 0 ∧
      t.settings = settings ∧
      t.store = ⟨s.store.image, s.store.inFlight, if good then s.store.image.revision else 0, !good,
        false⟩ ∧
      t.inputs = ⟨inputs, inputs⟩ ∧ t.chain.levels = doors ∧ t.chain.last = doors ∧
      (∀ d : Fin 32, t.chain.shifted[d] = DoorOutputs.off ∧
        t.chain.outputs[d] = doorOutputs settings.doors[d].kind t.doors[d].state ∧
        t.doors[d].state = startState settings.doors[d].kind doors[d] ∧
        t.doors[d] = if settings.doors[d].kind = .absent then new.doors[d]
          else if struck d then new.obstructedRecord d (new.closingRecord d (derived d))
          else if doors[d].closedSwitch then derived d else new.closingRecord d (derived d)) ∧
      t.counters = { Counters.zero with
        doors := Vector.ofFn fun d => ⟨0, 0, if struck d then 1 else 0⟩ } ∧
      t.openCounts = ⟨Vector.ofFn t.zoneOpenCount, t.seaOpenCount⟩ ∧
      (∀ z : Fin 8, t.zones[z] = ⟨lit z, false, inputs.fire[z], if lit z then some 0 else none⟩) ∧
      (∀ a : Fin 4, t.axes[a] =
        { AxisRecord.powerOn with sensor := settings.axes[a].fitted }) ∧
      (∀ a : Fin 4, t.valves[a] = { Generator.powerOn with position := 4096 }) ∧
      (∀ k : Fin 12, t.channels[k] = ChannelRecord.powerOn) ∧
      t.station = Station.powerOn ∧ t.calls = CallTable.powerOn ∧ t.scanner = Scanner.powerOn ∧
      t.alarms.list = entries ∧
      (∀ c : Fin 60, t.alarms.flags[c] = found.any fun src => decide (src.code = c)) ∧
      t.alarms.alarm = alarmDue settings.routing entries ∧
      t.alarms.stop = stopDue settings.routing entries t.alarms.alarm ∧
      (∀ k : Fin 8,
        let x := settings.outputs[k]
        t.alarms.lines[k] = ⟨decide (x.source = .fixed) && x.powerOn, (match x.source with
          | .fixed => x.powerOn
          | .input n => inputs.gi[n]
          | .permissive _ => false
          | .axisActive _ => false
          | .zoneAlarm z => lit z
          | .alarmLine => t.alarms.alarm) != x.invert⟩) ∧
      (∀ n : Fin 64, t.evaluator.values[n] = match settings.terms[n].source with
        | none => false
        | some (.channel _) => false
        | some src => compares settings.terms[n].cmp (t.sourceValue src).value settings.terms[n].const) ∧
      (∀ p : Fin 16, t.evaluator.slots[p] =
        ⟨resultOf settings.permissives[p] t.evaluator.values, 0⟩) ∧
      t.links = (new.says (zones.map (fun z => toBoth (.zoneState z true .fireInput)) ++
        new.joinReports entries)).links ∧
      t.handed = zones.flatMap (fun z => [.recallTrim z, .evacuatePost z]) ++
        (if t.alarms.stop then (List.finRange 4).map fun a => .stopLineChange a true else []) ++
        (List.finRange 16).map (fun p =>
          .outputLineSourceChange (.permissive p) t.evaluator.slots[p].result) ++
        (if 1 ≤ settings.boards then [.boardFrameStart] else []))

/-- What the part holds right after reset (R47, R137; and of R8, R83, R148, R163, R175 the values named
here). -/
def Obligations.ResetValues : Prop :=
  let s := State.reset
  (∀ a : Fin 4, s.valves[a].command = 0 ∧ s.valves[a].applied = 0 ∧ s.valves[a].lines = none ∧
    s.valves[a].cut = false ∧ s.valves[a].valveLine = false ∧
    s.axes[a].confirm = none ∧ s.axes[a].update = none ∧ s.axes[a].check = none) ∧
  (s.calls.table = [] ∧ s.calls.number = 1 ∧ s.calls.sequence = 1 ∧ s.calls.removed = [] ∧
    s.calls.chimeTimer = none ∧ s.calls.chime = false) ∧
  (∀ k : Fin 12, s.channels[k] = ⟨0, 0, 0, false, 0, 0, false, []⟩) ∧
  (∀ a : Fin 4, s.station.auth[a] = ⟨none, none⟩) ∧
  s.station.hold = .none ∧ s.station.level = ⟨.operate, .operate⟩ ∧
  (∀ b : Fin 16, s.scanner.buttons[b] = ⟨false, 0⟩) ∧
  s.alarms.list = [] ∧ s.alarms.alarm = false ∧ s.alarms.stop = false ∧
  s.links.bridge.state = .down ∧ s.links.localLink.state = .down ∧
  s.links.bridge.queue = [] ∧ s.links.localLink.queue = []

/-! ## Measurement (01) -/

/-- A completion of an enabled channel: the validity step (R3, R4), the filter and scaling of an
accepted sample (R2, R5, R6), and the notices, the validity change before the completion notices (R9). A
disabled channel has none (R1). That each notice carries what this completion left, and that a change of
validity and value is one source change, is the model's choice (log entry 35). The scaled value: the
exact product over 4096, truncated toward zero, plus the offset, only the sum saturated (R6). The order
among separate notices of one act, where no rule gives it, is the model's choice (log entry 54). -/
def Obligations.ChannelCompletionUpdatesRecord : Prop :=
  (∀ (k : Fin 12) (raw : Fin 4096) (s : State), s.power = .running →
    let x := s.settings.channels[k]
    let old := s.channels[k]
    let i := Instr.channelCompletion k raw
    let within := x.rawMin ≤ raw.val ∧ raw.val ≤ x.rawMax
    (x.enabled = false → exec i s = .next (s.acted i [])) ∧
    (x.enabled = true → ∃ t, exec i s = .next t ∧
      let new := t.channels[k]
      t = { s.acted i [] with
        channels := s.channels.set k new
        handed := s.handed.erase i ++
          ((if new.valid ≠ old.valid then s.validityNotices k new.valid else []) ++
          (if new.valid ≠ old.valid ∨ new.scaled ≠ old.scaled then
            [.sourceChange (.channel k) ⟨new.scaled, new.valid⟩] else []) ++
          s.completionNotices k ⟨new.scaled, new.valid⟩) } ∧
      new.raw = raw.val ∧
      (old.valid = true → within → new.valid = true ∧ new.count = 0) ∧
      (old.valid = true → ¬within → old.count < 2 → new.valid = true ∧ new.count = old.count + 1) ∧
      (old.valid = true → ¬within → 2 ≤ old.count →
        new.valid = false ∧ new.count = 0 ∧ new.changed = s.clock) ∧
      (old.valid = false → ¬within → new.valid = false ∧ new.count = 0) ∧
      (old.valid = false → within → old.count < 2 →
        new.valid = false ∧ new.count = old.count + 1) ∧
      (old.valid = false → within → 2 ≤ old.count →
        new.valid = true ∧ new.count = 0 ∧ new.changed = s.clock ∧ new.everValid = true ∧
        new.filter = [raw.val].drop (1 - x.depth)) ∧
      (new.valid = old.valid → new.changed = old.changed ∧ new.everValid = old.everValid) ∧
      (new.valid = false → new.everValid = old.everValid) ∧
      (old.valid = true → within →
        new.filter = (old.filter ++ [raw.val]).drop (old.filter.length + 1 - x.depth)) ∧
      (within ∧ new.valid = true →
        new.filtered = new.filter.sum / new.filter.length ∧
        new.scaled = scaleValue new.filtered x.zero x.gain x.offset) ∧
      (¬(within ∧ new.valid = true) →
        new.filter = old.filter ∧ new.filtered = old.filtered ∧ new.scaled = old.scaled))) ∧
  (∀ (filtered zeroRaw : Nat) (gain offset : Int),
    let p := ((filtered : Int) - zeroRaw) * gain
    ∃ q : Int, (0 ≤ p → q * 4096 ≤ p ∧ p < (q + 1) * 4096) ∧
      (p < 0 → p ≤ q * 4096 ∧ (q - 1) * 4096 < p) ∧
      scaleValue filtered zeroRaw gain offset =
        if 32767 < q + offset then 32767
        else if q + offset < -32768 then -32768
        else q + offset)

/-- Samples of a discrete input, taken one after the other (log entry 30): the debounced state takes a
level at the second of two samples in a row that have it, and each change is handed, once, to each block
listed for the input (R11, 01 1.2). Two equal samples leave the debounced state at their level; a lone
sample, or samples that alternate, leave it as it was and hand nothing on. A door scan takes each level
that two scans agree on, shifts out the outputs held, and hands each position that changed on as one
event with all three of its inputs (R13, R14, R15). The order among separate notices of one act, where
no rule gives it, is the model's choice (log entry 54). -/
def Obligations.InputsAndDoorScansAreHandedOn : Prop :=
  (∀ (x : Input) (samples : List Bool) (s : State), s.power = .running →
    let i := Instr.discreteInputChange x samples
    let level := s.inputs.levels.get x
    let last := s.inputs.last.get x
    let run := samples.foldl (fun (p : Bool × Bool × List Bool) b =>
      if b = p.2.1 ∧ b ≠ p.1 then (b, b, p.2.2 ++ [b]) else (p.1, b, p.2.2)) (level, last, [])
    let becomes := fun (told : Bool → List Instr) => exec i s = .next { s.acted i [] with
      inputs := ⟨s.inputs.levels.put x run.1, s.inputs.last.put x run.2.1⟩
      handed := s.handed.erase i ++ run.2.2.flatMap told }
    (x = .estop → becomes fun b => [.alarmSourceChange .estop b]) ∧
    (x = .serviceKey → becomes fun b => if b then [] else [.serviceKeyRelease]) ∧
    (x = .localPriority → becomes fun _ => []) ∧
    (∀ z, x = .fire z → becomes fun b => [.fireInputChange z b]) ∧
    (∀ a, x = .limLo a → becomes fun b => [.limitSwitchChange a .lower b]) ∧
    (∀ a, x = .limHi a → becomes fun b => [.limitSwitchChange a .raise b]) ∧
    (∀ n, x = .gi n → becomes fun b => [.sourceChange (.input n) ⟨if b then 1 else 0, true⟩,
      .outputLineSourceChange (.input n) b]) ∧
    (∀ b, ∃ t, exec (.discreteInputChange x [b, b]) s = .next t ∧ t.inputs.levels.get x = b ∧
      t.inputs.last.get x = b) ∧
    ((last :: samples).IsChain (· ≠ ·) → ∃ t, exec i s = .next t ∧ t.inputs.levels = s.inputs.levels ∧
      t.handed = s.handed.erase i)) ∧
  (∀ (samples : Vector DoorInputs 32) (s : State), s.power = .running →
    let i := Instr.doorScan samples
    let pick := fun (last sample level : Bool) => if sample = last then sample else level
    let levels : Fin 32 → DoorInputs := fun d =>
      ⟨pick s.chain.last[d].openSwitch samples[d].openSwitch s.chain.levels[d].openSwitch,
       pick s.chain.last[d].closedSwitch samples[d].closedSwitch s.chain.levels[d].closedSwitch,
       pick s.chain.last[d].edge samples[d].edge s.chain.levels[d].edge⟩
    exec i s = .next { s.acted i [] with
      chain := ⟨Vector.ofFn levels, samples, s.chain.outputs, s.chain.outputs⟩
      handed := s.handed.erase i ++ ((List.finRange 32).filter fun d =>
        decide (s.chain.levels[d] ≠ levels d)).map fun d => .doorInputChange d (levels d) })

/-! ## Status requests (12) -/

/-- A status request naming one record is answered DONE with that record, a count of 1 and nothing left
out (log entry 24); a number that names none is refused BAD_FIELD, or NOT_FOUND for a call (R10, R44,
R107, R121, R136, R147, R184). N and B of BOARD STATUS are those of the frame in progress (R147; log
entries 18 and 23), and the count of ZONE STATUS stands in the reply that names all (log entry 22). A
status request naming all its records is answered with whole records from the start position, in order,
as many as fit a payload of 248 bytes, their count, and the position of the first left out or 0xFF
(R184); a start position of 0xFF is refused BAD_FIELD. Where each field stands in the channel, axis,
door, zone, term, permissive, board and call records and in the call summary with its removed calls
(12.4, 12.6): its offset, width and value, 0 where it is absent (R183) and 0xFFFFFFFF for a stopped
timer; and the codes of 12.3 in them. -/
def Obligations.StatusRepliesCarryTheirRecords : Prop :=
  (∀ (l : Link) (tag : Byte) (start : Nat) (s : State), s.power = .running →
    let reads := fun i d => exec i s = .next (s.answered l tag i [] d)
    (∀ k : Fin 12, reads (.channelStatus l tag k start) (.done ([1, 0xFF] ++ s.channelBytes k))) ∧
    (∀ a : Fin 4, reads (.axisStatus l tag a start) (.done ([1, 0xFF] ++ s.axisBytes a))) ∧
    (∀ d : Fin 32, reads (.doorStatus l tag d start) (.done ([1, 0xFF] ++ s.doorBytes d))) ∧
    (∀ z : Fin 8, reads (.zoneStatus l tag z start) (.done ([1, 0xFF] ++ s.zoneBytes z))) ∧
    (∀ t : Fin 64, reads (.termStatus l tag t start) (.done ([1, 0xFF] ++ s.termBytes t))) ∧
    (∀ p : Fin 16, reads (.permissiveStatus l tag p start) (.done ([1, 0xFF] ++ s.slotBytes p))) ∧
    (∀ b : Fin 16, reads (.boardStatus l tag b start)
      (.done (s.boardSummary ++ [1, 0xFF] ++ s.boardBytes b))) ∧
    (∀ f, s.scanner.frame = some f → s.boardSummary =
      [byte f.boards, byte f.blanking, if s.scanner.flashLit then 0 else 1]) ∧
    (∀ n c, n ≠ 0 → s.calls.table.find? (·.number = n) = some c →
      reads (.callStatus l tag n start) (.done ([1, 0xFF] ++ c.bytes))) ∧
    (∀ n, n ≠ 0 → s.calls.table.find? (·.number = n) = none →
      reads (.callStatus l tag n start) (.refused .notFound)) ∧
    (∀ n, n ≠ 0xFF → 12 ≤ n → reads (.channelStatus l tag n start) (.refused .badField)) ∧
    (∀ n, n ≠ 0xFF → 4 ≤ n → reads (.axisStatus l tag n start) (.refused .badField)) ∧
    (∀ n, n ≠ 0xFF → 32 ≤ n → reads (.doorStatus l tag n start) (.refused .badField)) ∧
    (∀ n, n ≠ 0xFF → 8 ≤ n → reads (.zoneStatus l tag n start) (.refused .badField)) ∧
    (∀ n, n ≠ 0xFF → 64 ≤ n → reads (.termStatus l tag n start) (.refused .badField)) ∧
    (∀ n, n ≠ 0xFF → 16 ≤ n → reads (.permissiveStatus l tag n start) (.refused .badField)) ∧
    (∀ n, n ≠ 0xFF → 16 ≤ n → reads (.boardStatus l tag n start) (.refused .badField))) ∧
  (∀ (l : Link) (tag : Byte) (start : Nat) (s : State), s.power = .running →
    let reads := fun i d => exec i s = .next (s.answered l tag i [] d)
    let lists := fun i (summary : List Byte) (records : List (List Byte)) =>
      (255 ≤ start → reads i (.refused .badField)) ∧
      (start < 255 → ∃ n ≤ records.length - start,
        reads i (.done (summary ++
          [byte n, if records.length ≤ start + n then 0xFF else byte (start + n)] ++
          ((records.drop start).take n).flatten)) ∧
        (n = 0 ∨ 3 + summary.length + ((records.drop start).take n).flatten.length ≤ 248) ∧
        (n < records.length - start →
          248 < 3 + summary.length + ((records.drop start).take (n + 1)).flatten.length))
    lists (.channelStatus l tag 0xFF start) [] ((List.finRange 12).map s.channelBytes) ∧
    lists (.axisStatus l tag 0xFF start) [] ((List.finRange 4).map s.axisBytes) ∧
    lists (.doorStatus l tag 0xFF start) [] ((List.finRange 32).map s.doorBytes) ∧
    lists (.zoneStatus l tag 0xFF start) [byte s.openCounts.sea]
      ((List.finRange 8).map s.zoneBytes) ∧
    lists (.termStatus l tag 0xFF start) [] ((List.finRange 64).map s.termBytes) ∧
    lists (.permissiveStatus l tag 0xFF start) [] ((List.finRange 16).map s.slotBytes) ∧
    lists (.boardStatus l tag 0xFF start) s.boardSummary ((List.finRange 16).map s.boardBytes) ∧
    lists (.callStatus l tag 0 start) s.calls.summary (s.calls.table.map Call.bytes)) ∧
  ((∀ s : State,
     (∀ k : Fin 12, let r := s.channels[k]
       Laid (s.channelBytes k) 14 [(0, 1, k.val),
         (1, 1, flagBits [s.settings.channels[k].enabled, r.everValid]), (2, 1, flagBits [!r.valid]),
         (3, 1, r.count), (4, 2, r.raw), (6, 2, r.filtered), (8, 2, r.scaled), (10, 4, r.changed.toNat)]) ∧
     (∀ a : Fin 4, let x := s.axes[a]
       let auth := s.station.auth[a]
       let angle := s.channels[s.settings.axes[a].angleCh]
       let pressure := s.channels[s.settings.axes[a].pressCh]
       let motion := fun (f : MotionRecord → Bool) => x.motion.any f
       Laid (s.axisBytes a) 47 [(0, 1, a.val),
         (1, 1, flagBits [s.settings.axes[a].fitted, x.target.isSome, x.direction.isSome,
           x.stopOutcome.isSome, x.tripKind.isSome, auth.request.isSome]),
         (2, 1, flagBits [x.motion.isSome, motion (·.target.isSome), motion (·.finish.isSome),
           motion (·.outcome.isSome)]),
         (3, 1, x.state.code), (4, 1, codeField x.direction Direction.code),
         (5, 1, codeField x.stopOutcome MotionOutcome.code), (6, 1, codeField x.tripKind TripKind.code),
         (7, 2, x.target.getD 0), (9, 2, x.c), (11, 2, x.staged), (13, 1, x.settle),
         (14, 1, codeField auth.holder Link.code),
         (15, 1, codeField (auth.request.map (·.requester)) Link.code),
         (16, 4, timerField x.warning), (20, 4, timerField x.motionTimer), (24, 4, timerField x.refresh),
         (28, 2, angle.scaled), (30, 1, flagBits [!angle.valid]), (31, 2, pressure.scaled),
         (33, 1, flagBits [!pressure.valid]),
         (34, 1, codeField x.motion (·.origin.code)), (35, 1, codeField x.motion (·.kind.code)),
         (36, 2, (x.motion.bind (·.target)).getD 0), (38, 4, timeField (x.motion.map (·.start))),
         (42, 4, timeField (x.motion.bind (·.finish))),
         (46, 1, codeField (x.motion.bind (·.outcome)) MotionOutcome.code)]) ∧
     (∀ d : Fin 32, let x := s.doors[d]
       let i := s.chain.levels[d]
       let o := s.chain.outputs[d]
       Laid (s.doorBytes d) 37 [(0, 1, d.val), (1, 1, s.settings.doors[d].kind.code),
         (2, 1, s.settings.doors[d].zone.val), (3, 1, x.state.code), (4, 1, x.retry),
         (5, 1, flagBits [s.settings.doors[d].seaClosed, x.closeDuration.isSome, x.cause.isSome]),
         (6, 1, codeField x.cause FaultCause.code),
         (7, 1, flagBits [i.openSwitch, i.closedSwitch, i.edge]),
         (8, 1, flagBits [o.magnet, o.closeDrive, o.openDrive]),
         (9, 4, x.closingSince.toNat), (13, 4, x.lastRelease.toNat), (17, 4, x.lastClosed.toNat),
         (21, 4, ((x.closeDuration.getD 0 : Nat) : Int)), (25, 4, timerField x.travel),
         (29, 4, timerField x.pause), (33, 4, timerField x.conflict)]) ∧
     (∀ z : Fin 8, let x := s.zones[z]
       Laid (s.zoneBytes z) 10 [(0, 1, z.val), (1, 1, flagBits [x.alarm]),
         (2, 1, flagBits [s.settings.zones[z].fireEnabled, x.manual, x.fire, x.since.isSome]),
         (3, 2, s.settings.zones[z].lanes.toNat), (5, 4, timeField x.since),
         (9, 1, s.openCounts.zone[z])]) ∧
     (∀ t : Fin 64, let x := s.settings.terms[t]
       let v := x.source.map s.sourceValue
       Laid (s.termBytes t) 10 [(0, 1, t.val), (1, 1, codeField x.source Source.kindCode),
         (2, 1, codeField x.source Source.index), (3, 1, x.cmp.code), (4, 2, x.const),
         (6, 1, flagBits [s.evaluator.values[t]]), (7, 2, v.elim 0 (·.value)),
         (9, 1, flagBits [v.isSome, v.any (!·.valid)])]) ∧
     (∀ p : Fin 16, let es := s.settings.permissives[p]
       let n := es.length
       Laid (s.slotBytes p) (7 + 3 * n) [(0, 1, p.val), (1, 1, n),
         (2 + 2 * n, 1, flagBits [s.evaluator.slots[p].result]),
         (3 + 2 * n, 4, s.evaluator.slots[p].changed.toNat)] ∧
       ∀ j e, es[j]? = some e → Carries (s.slotBytes p) [(2 + 2 * j, 1, e.term.val),
         (3 + 2 * j, 1, flagBits [e.invert]), (7 + 2 * n + j, 1, flagBits [s.evaluator.values[e.term]])]) ∧
     (∀ b : Fin 16, let x := s.scanner.shown[b]
       let k := s.scanner.buttons[b]
       let boards := s.scanner.frame.elim s.settings.boards (·.boards)
       Laid (s.boardBytes b) 7 [(0, 1, b.val),
         (1, 1, flagBits [decide (b.val < boards), x.winner.isSome, x.pattern.isSome, k.pressed]),
         (2, 1, codeField x.winner (·.1)), (3, 1, codeField x.winner (·.2)),
         (4, 1, codeField x.pattern (·.val)), (5, 1, flagBits [!x.lit]), (6, 1, k.count)]) ∧
     (let t := s.calls
       let m := t.removed.length
       Laid t.summary (13 + 12 * m) [(0, 1, (t.table.filter (·.origin.external)).length),
         (1, 1, (t.table.filter (!·.origin.external)).length), (2, 1, t.number), (3, 4, t.sequence),
         (7, 1, flagBits [t.chime]), (8, 4, timerField t.chimeTimer), (12, 1, m)] ∧
       ∀ j r, t.removed[j]? = some r → Carries t.summary [(13 + 12 * j, 1, r.number),
         (14 + 12 * j, 1, r.kind.code), (15 + 12 * j, 1, r.origin.code),
         (16 + 12 * j, 2, r.lanes.toNat), (18 + 12 * j, 2, r.acked.toNat),
         (20 + 12 * j, 1, r.reason.code), (21 + 12 * j, 4, r.time.toNat)])) ∧
   (∀ c : Call, Laid c.bytes 24 [(0, 1, c.number), (1, 1, c.kind.code), (2, 1, c.priority),
     (3, 1, c.origin.code), (4, 1, flagBits [c.chime, c.ack]), (5, 1, c.pattern.val),
     (6, 2, c.lanes.toNat), (8, 2, c.acked.toNat), (10, 2, c.duration), (12, 4, c.admitted.toNat),
     (16, 4, c.sequence), (20, 4, timerField c.timer)]) ∧
   ([AxisState.idle, .warning, .moving, .settling, .stopping, .tripped, .jogging, .manual].map (·.code) =
       List.range 8 ∧
     [DoorState.closed, .armed, .opening, .openHeld, .closing, .obstructed, .fault, .isolated].map
       (·.code) = List.range 8 ∧
     [MotionOutcome.reached, .stopped, .held, .linkLost, .stationTaken, .tripped, .timeout, .notPermitted,
       .permissiveLost, .pumpStop, .limit, .sensorLost, .jogReleased, .reset].map (·.code) =
       (List.range 14).map (· + 1) ∧
     Link.bridge.code = 1 ∧ Link.localLink.code = 2 ∧ Direction.raise.code = 1 ∧ Direction.lower.code = 2 ∧
     TripKind.high.code = 1 ∧ TripKind.low.code = 2 ∧ MotionKind.move.code = 0 ∧ MotionKind.jog.code = 1 ∧
     [DoorKind.absent, .swing, .sliding].map (·.code) = List.range 3 ∧
     [FaultCause.closeTime, .openTime, .switches, .retries].map (·.code) = [1, 2, 3, 4] ∧
     [CallKind.evacuate, .standClear, .recall, .disembark, .notice].map (·.code) = List.range 5 ∧
     Origin.code (.link .bridge) = 1 ∧ Origin.code (.link .localLink) = 2 ∧
     (∀ z : Fin 8, Origin.code (.zone z) = 0x10 + z.val) ∧
     (∀ a : Fin 4, Origin.code (.axis a) = 0x20 + a.val) ∧
     [RemovalReason.cancelled, .expired, .answered, .axisIdle, .zoneAlarm, .reset].map (·.code) =
       [1, 2, 3, 4, 5, 6] ∧
     [Comparison.eq, .ne, .lt, .ge, .bitSet, .bitClr].map (·.code) = List.range 6 ∧
     [Source.channel 0, .axisState 0, .doorState 0, .zoneAlarm 0, .zoneOpenCount 0, .seaOpenCount, .input 0,
       .laneButton 0, .outputLine 0, .deckHold].map (·.kindCode) = (List.range 10).map (· + 1)))

/-- The requests that read a block are answered DONE with it, of the length 12.6 gives (R16, R68, R82,
R155, R162, R174, R177), the drive block with bytes of 0 for what the last update did not form (log
entry 55); a KIND that names no request is refused UNKNOWN_REQUEST (R167). Where each field stands in
the input, station, output, link and alarm list blocks and in the drive status block (12.6): its offset,
width and value, 0 where it is absent (R183; for T used, the oil validity and u the model's choice, log
entry 55) and 0xFFFFFFFF for a stopped timer. SETTINGS READ knows the twelve objects of 12.3, each with
an index in its range, and where each setting stands in the data of each object (12.8): its offset,
width and value. -/
def Obligations.BlockRequestsReadTheirBlock : Prop :=
  (∀ (l : Link) (tag : Byte) (s : State), s.power = .running →
    let reads := fun i d => exec i s = .next (s.answered l tag i [] d)
    (reads (.inputStatus l tag) (.done s.inputBlock) ∧ s.inputBlock.length = 37) ∧
    (reads (.stationStatus l tag) (.done s.stationBlock) ∧ s.stationBlock.length = 53) ∧
    (reads (.outputStatus l tag) (.done s.outputBlock) ∧ s.outputBlock.length = 33) ∧
    (reads (.linkStatus l tag) (.done (s.linkBytes .bridge ++ s.linkBytes .localLink)) ∧
      (s.linkBytes .bridge ++ s.linkBytes .localLink).length = 24) ∧
    (∀ n, n ≤ 59 → reads (.alarmList l tag n) (.done (s.alarmBlock n)) ∧
      (s.alarmBlock n).length = 9 + 11 * min (s.alarms.list.length - n) 16) ∧
    (∀ n, 59 < n → reads (.alarmList l tag n) (.refused .badField)) ∧
    (∀ a : Fin 4, s.settings.axes[a].fitted = true →
      reads (.driveStatus l tag a) (.done (s.driveBlock a)) ∧ (s.driveBlock a).length = 46) ∧
    (∀ n, (∀ a : Fin 4, a.val = n → s.settings.axes[a].fitted = false) →
      reads (.driveStatus l tag n) (.refused .badField)) ∧
    (∀ object index bs, Machine.Settings.objectBytes s.settings object index = some bs →
      reads (.settingsRead l tag object index) (.done ([byte object, byte index] ++ bs ++
        List.replicate (127 - bs.length) 0 ++ [if s.store.unstored then 1 else 0]))) ∧
    (∀ object index, Machine.Settings.objectBytes s.settings object index = none →
      reads (.settingsRead l tag object index) (.refused .badField)) ∧
    (∀ kind, reads (.unknownRequest l tag kind) (.refused .unknownRequest))) ∧
  (∀ s : State,
    (let v := s.inputs.levels;
      Laid s.inputBlock 37 ([(0, 1, flagBits [v.estop, v.serviceKey, v.localPriority]),
        (1, 1, flagBits v.fire.toList), (2, 1, flagBits (v.limLo.toList ++ v.limHi.toList)),
        (3, 2, flagBits v.gi.toList)] ++
        (List.finRange 32).map fun d => (5 + d.val, 1, flagBits [s.chain.levels[d].openSwitch,
          s.chain.levels[d].closedSwitch, s.chain.levels[d].edge, false, s.chain.outputs[d].magnet,
          s.chain.outputs[d].closeDrive, s.chain.outputs[d].openDrive]))) ∧
    Laid s.stationBlock 53 (((List.finRange 4).flatMap fun a =>
        let r := s.station.auth[a].request;
        [(12 * a.val, 1, (a.val : Int)),
          (12 * a.val + 1, 1, codeField s.station.auth[a].holder Link.code),
          (12 * a.val + 2, 1, flagBits [r.isSome]),
          (12 * a.val + 3, 1, codeField r (·.requester.code)),
          (12 * a.val + 4, 4, timeField (r.map (·.time))),
          (12 * a.val + 8, 4, timerField (r.map (·.deadline)))]) ++
      [(48, 1, flagBits [s.station.claims.bridge, s.station.claims.localLink]),
        (49, 1, (match s.station.hold with | .none => 0 | .pending => 1 | .established => 2)),
        (50, 1, flagBits [decide (s.station.level.bridge = .service)]),
        (51, 1, flagBits [decide (s.station.level.localLink = .service)]),
        (52, 1, flagBits [s.inputs.levels.serviceKey, s.inputs.levels.localPriority])]) ∧
    Laid s.outputBlock 33 (((List.finRange 8).flatMap fun k =>
        let x := s.settings.outputs[k];
        [(4 * k.val, 1, (k.val : Int)), (4 * k.val + 1, 1, (x.source.kindCode : Int)),
          (4 * k.val + 2, 1, (x.source.index : Int)),
          (4 * k.val + 3, 1, flagBits [x.invert, x.powerOn, s.alarms.lines[k].held, s.outputValue k,
            s.alarms.lines[k].level])]) ++
      [(32, 1, flagBits [s.calls.chime])]) ∧
    Laid (s.linkBytes .bridge ++ s.linkBytes .localLink) 24
      ([(0, Link.bridge), (12, Link.localLink)].flatMap fun (o, l) =>
        let c := s.links.get l;
        [(o, 1, (l.code : Int)),
          (o + 1, 1, (match c.state with | .down => 0 | .up => 1 | .lost => 2)),
          (o + 2, 4, timerField c.timer), (o + 6, 2, (s.settings.supervision.get l : Int)),
          (o + 8, 1, flagBits [decide (s.station.level.get l = .service)]),
          (o + 9, 1, flagBits c.selection.toList), (o + 10, 1, (c.queue.length : Int)),
          (o + 11, 1, flagBits [c.lost])]) ∧
    (∀ n : Nat, let es := s.alarms.list
      let r := s.settings.routing
      Carries (s.alarmBlock n) [(0, 1, es.length), (1, 1, flagBits [s.alarms.alarm]),
        (2, 1, flagBits [s.alarms.stop]), (3, 2, flagBits r.alarmEnable.toList),
        (5, 2, flagBits r.stopEnable.toList), (7, 1, flagBits [r.stopFollowsAlarm]),
        (8, 1, ((min (es.length - n) 16 : Nat) : Int))] ∧
      ∀ j e, j < 16 → es[n + j]? = some e → Carries (s.alarmBlock n) [(9 + 11 * j, 1, e.source.val),
        (10 + 11 * j, 1, (match e.state with
          | .activeUnacked => 0
          | .activeAcked => 1
          | .returnedUnacked => 2)),
        (11 + 11 * j, 1, e.occurrences), (12 + 11 * j, 4, e.first.toNat),
        (16 + 11 * j, 4, e.last.toNat)]) ∧
    (∀ a : Fin 4, let x := s.axes[a]
      let oil := s.channels[s.settings.oil]
      let g := s.valves[a]
      let u := x.update
      let k := x.check
      Laid (s.driveBlock a) 46 [(0, 1, a.val), (1, 1, s.settings.oil.val), (2, 2, oil.scaled),
        (4, 1, flagBits [!oil.valid]),
        (5, 1, flagBits [decide (s.settings.axes[a].tableMode = .split)]),
        (6, 1, flagBits [decide (s.settings.axes[a].loopMode = .forceOpen)]), (7, 2, x.c),
        (9, 1, flagBits [u.isSome, u.any (·.idx.isSome), u.any (·.e.isSome), x.confirm.isSome, k.isSome]),
        (10, 1, codeField u (·.mode.code)), (11, 2, (u.bind (·.t)).getD 0),
        (13, 1, flagBits [u.any (·.oilValid = some false)]), (14, 1, codeField (u.bind (·.idx)) id),
        (15, 4, (u.bind (·.e)).getD 0), (19, 2, codeField (u.bind (·.u)) id),
        (21, 2, u.elim 0 (·.d)), (23, 2, u.elim 0 (·.cPrev)), (25, 2, u.elim 0 (·.cNew)),
        (27, 2, g.command), (29, 2, g.applied), (31, 1, codeField g.lines Direction.code),
        (32, 1, flagBits [g.cut]), (33, 1, flagBits [x.confirm.isSome]),
        (34, 1, codeField x.confirm TripKind.code), (35, 2, k.elim 0 (·.pressure)),
        (37, 2, k.elim 0 (·.angle)), (39, 1, codeField k (·.band)), (40, 2, codeField k (·.ref)),
        (42, 2, codeField k (·.hi)), (44, 2, codeField k (·.lo))])) ∧
  (∀ x : Settings,
    let has := fun (object index n : Nat) (fields : List (Nat × Nat × Int)) =>
      ∃ bs, Machine.Settings.objectBytes x object index = some bs ∧ Laid bs n fields
    (∀ object index, Machine.Settings.objectBytes x object index = none ↔ 12 ≤ object ∨
      (object = 8 ∧ index ≠ 1 ∧ index ≠ 2) ∨
      (object ≠ 8 ∧ [4, 1, 12, 32, 8, 1, 1, 8, 0, 64, 16, 64].getD object 0 ≤ index)) ∧
    (∀ a : Fin 4, let y := x.axes[a]
      has 0 a 127 ([(0, 1, flagBits [y.fitted]), (1, 1, (y.angleCh.val : Int)),
        (2, 1, (y.pressCh.val : Int)), (3, 2, y.lLo), (5, 2, y.lHi), (7, 2, (y.inBand : Int)),
        (9, 1, (y.settleCount : Int)), (10, 1, (y.kp : Int)),
        (11, 1, flagBits [decide (y.tableMode = .split)]),
        (12, 1, flagBits [decide (y.loopMode = .forceOpen)]), (13, 2, (y.dMin : Int)),
        (15, 2, (y.dMax : Int)), (17, 2, (y.slew : Int)), (19, 2, (y.stopSlew : Int)),
        (21, 2, (y.motionLimit : Int)), (23, 1, ((y.warningTime - 1 : Nat) : Int)),
        (24, 2, (y.warningLanes.toNat : Int)), (26, 1, (y.warningPattern.val : Int)),
        (27, 2, (y.marginHi : Int)), (29, 2, (y.marginLo : Int))] ++
        (List.finRange 32).map (fun i => (31 + 2 * i.val, 2, ((y.ff[i] : Nat) : Int))) ++
        (List.finRange 16).map fun i => (95 + 2 * i.val, 2, ((y.prt[i] : Nat) : Int)))) ∧
    has 1 0 1 [(0, 1, x.oil.val)] ∧
    (∀ k : Fin 12, let y := x.channels[k]
      has 2 k 12 [(0, 1, flagBits [y.enabled]), (1, 2, y.rawMin), (3, 2, y.rawMax), (5, 1, y.depth),
        (6, 2, y.zero), (8, 2, y.gain), (10, 2, y.offset)]) ∧
    (∀ d : Fin 32, let y := x.doors[d]
      has 3 d 6 [(0, 1, (match y.kind with | .absent => 0 | .swing => 1 | .sliding => 2)),
        (1, 1, y.zone.val), (2, 1, flagBits [y.seaClosed]), (3, 1, y.closeLimit), (4, 1, y.pause),
        (5, 1, y.maxRetries)]) ∧
    (∀ z : Fin 8, let y := x.zones[z]
      has 4 z 4 [(0, 2, y.lanes.toNat), (2, 1, flagBits [y.fireEnabled]), (3, 1, y.evacPattern.val)]) ∧
    has 5 0 2 [(0, 1, x.boards), (1, 1, x.blanking)] ∧
    has 6 0 19 ((List.finRange 9).map (fun i => (i.val, 1, flagBits [x.routing.alarmEnable[i]])) ++
      (List.finRange 9).map (fun i => (9 + i.val, 1, flagBits [x.routing.stopEnable[i]])) ++
      [(18, 1, flagBits [x.routing.stopFollowsAlarm])]) ∧
    (∀ k : Fin 8, let y := x.outputs[k]
      has 7 k 4 [(0, 1, y.source.kindCode), (1, 1, y.source.index), (2, 1, flagBits [y.invert]),
        (3, 1, flagBits [y.powerOn])]) ∧
    (∀ l : Link, has 8 l.code 2 [(0, 2, x.supervision.get l)]) ∧
    (∀ t : Fin 64, let y := x.terms[t]
      has 9 t 5 [(0, 1, codeField y.source Source.kindCode), (1, 1, codeField y.source Source.index),
        (2, 1, y.cmp.code), (3, 2, y.const)]) ∧
    (∀ p : Fin 16, let es := x.permissives[p]
      has 10 p (1 + 2 * es.length) ((0, 1, (es.length : Int)) :: es.zipIdx.flatMap fun (e, j) =>
        [(1 + 2 * j, 1, (e.term.val : Int)), (2 + 2 * j, 1, flagBits [e.invert])])) ∧
    (∀ p : Fin 64, has 11 p 4 [(0, 4, x.patterns[p].toNat)]) ∧
    ([OutSource.fixed, .input 0, .permissive 0, .axisActive 0, .zoneAlarm 0, .alarmLine].map (·.kindCode) =
      List.range 6))

/-! ## Axes: moves (02) -/

/-- AXIS MOVE in IDLE, past the checks of R21: REACHED within in_band, refused where the slot of its
direction is FALSE, and otherwise WARNING, with the motion opened and the neighbours told (R19, R20,
R22). What was handed to the axis before, and does nothing at an axis in IDLE, stands as taken there and
does not act on the motion (R72; log entry 2). What a change of axis state hands on: the new state to
the evaluator, the alarm unit and the station controller, the post at an entry from IDLE and the removal
at an entry to rest to the call controller (R20). Those notices are of the axis's holder, a deck hold, a
level, the STOP line, a slot, a limit switch or a disabled channel, and each does nothing at an axis in
IDLE. The order among separate notices of one act, where no rule gives it, is the model's choice (log
entry 54). -/
def Obligations.AxisMoveStartsFromIdle : Prop :=
  (∀ (l : Link) (tag : Byte) (a : Fin 4) (target : Int) (s : State), s.power = .running →
    s.settings.axes[a].fitted = true → s.holder a = some l → s.station.held = false →
    s.alarms.stop = false → s.axes[a].state = .idle → (s.angle a).valid = true →
    let i := Instr.axisMove l tag a target
    let x := s.axes[a]
    let t := min (max target s.settings.axes[a].lLo) s.settings.axes[a].lHi
    let d : Direction := if (s.angle a).scaled < t then .raise else .lower
    ((t - (s.angle a).scaled).natAbs ≤ s.settings.axes[a].inBand →
      exec i s = .next (s.answered l tag i [] (.done (beInt16 t ++ [1])))) ∧
    (s.settings.axes[a].inBand < (t - (s.angle a).scaled).natAbs →
      (s.evaluator.slots[slotOf a d].result = false →
        exec i s = .next (s.answered l tag i [] (.refused .notPermitted))) ∧
      (s.evaluator.slots[slotOf a d].result = true →
        exec i s = .next
          { s.answered l tag i [toBoth (.axisState a .idle .warning none)]
              (.accepted (beInt16 t ++ [0])) with
            axes := s.axes.set a
              { x with
                state := .warning
                target := some t
                direction := some d
                warning := some (s.settings.axes[a].warningTime * 1000)
                motion := some ⟨l, .move, some t, s.clock, none, none⟩ }
            handed := s.handed.filter (fun n => !idleNotice a n) ++
              [.sourceChange (.axisState a) ⟨1, true⟩, .outputLineSourceChange (.axisActive a) true,
               .axisStateChangeSeen a .warning, .standClearPost a] }))) ∧
  (∀ (a : Fin 4) (prev new : AxisState), prev ≠ new →
    axisNotices a prev new =
      [.sourceChange (.axisState a) ⟨new.code, true⟩,
       .outputLineSourceChange (.axisActive a) (decide (new ≠ .idle ∧ new ≠ .tripped)),
       .axisStateChangeSeen a new] ++
      (if new = .idle ∨ new = .tripped then [.standClearRemoval a]
      else if prev = .idle ∧ (new = .warning ∨ new = .jogging ∨ new = .manual) then
        [.standClearPost a]
      else [])) ∧
  (∀ (a : Fin 4) (n : Instr),
    (idleNotice a n = true ↔ (∃ r, n = .holderChange a r) ∨ n = .deckHoldNotice a ∨
      (∃ l, n = .lossOfServiceLevel a l) ∨ (∃ b, n = .stopLineChange a b) ∨
      (∃ d b, n = .permissiveSlotChange a d b) ∨ (∃ d b, n = .limitSwitchChange a d b) ∨
      n = .disablingNotice a) ∧
    ∀ s : State, s.power = .running → s.axes[a].state = .idle → idleNotice a n = true →
      exec n s = .next (s.acted n []))

/-- The checks of AXIS MOVE in their order; the first that fails gives the refusal (R21). A retarget:
refused STATE against the running direction, NOT_PERMITTED where the slot is FALSE, and otherwise the
new target, SETTLING going back to MOVING where it lies out of band (R23). The order among separate
notices of one act, where no rule gives it, is the model's choice (log entry 54). -/
def Obligations.AxisMoveChecksAndRetargets : Prop :=
  (∀ (l : Link) (tag : Byte) (n : Nat) (target : Int) (s : State), s.power = .running →
    let i := Instr.axisMove l tag n target
    let refuses := fun code => exec i s = .next (s.answered l tag i [] (.refused code))
    ((∀ a : Fin 4, a.val = n → s.settings.axes[a].fitted = false) → refuses .badField) ∧
    (∀ a : Fin 4, a.val = n → s.settings.axes[a].fitted = true →
      (s.holder a ≠ some l → refuses .noAuthority) ∧
      (s.holder a = some l →
        (s.station.held = true → refuses .held) ∧
        (s.station.held = false →
          (s.alarms.stop = true → refuses .pumpStopped) ∧
          (s.alarms.stop = false →
            (s.axes[a].state = .tripped → refuses .tripped) ∧
            (s.axes[a].state = .stopping ∨ s.axes[a].state = .jogging ∨ s.axes[a].state = .manual →
              refuses .busy) ∧
            (s.axes[a].state = .idle ∨ s.axes[a].state = .warning ∨ s.axes[a].state = .moving ∨
              s.axes[a].state = .settling → (s.angle a).valid = false → refuses .sensor)))))) ∧
  (∀ (l : Link) (tag : Byte) (a : Fin 4) (target : Int) (s : State),
    s.power = .running → s.settings.axes[a].fitted = true → s.holder a = some l →
    s.station.held = false → s.alarms.stop = false → (s.angle a).valid = true →
    s.axes[a].state = .warning ∨ s.axes[a].state = .moving ∨ s.axes[a].state = .settling →
    ∀ d, s.axes[a].direction = some d →
    let i := Instr.axisMove l tag a target
    let x := s.axes[a]
    let band : Int := s.settings.axes[a].inBand
    let t := min (max target s.settings.axes[a].lLo) s.settings.axes[a].lHi
    let angle := (s.angle a).scaled
    let against := (d = .lower ∧ angle + band < t) ∨ (d = .raise ∧ t < angle - band)
    let y : AxisRecord := { x with
      target := some t
      motion := x.motion.map fun m => { m with target := some t } }
    (against → exec i s = .next (s.answered l tag i [] (.refused .state))) ∧
    (¬against → s.evaluator.slots[slotOf a d].result = false →
      exec i s = .next (s.answered l tag i [] (.refused .notPermitted))) ∧
    (¬against → s.evaluator.slots[slotOf a d].result = true →
      (x.state = .settling ∧ band < (t - angle).natAbs →
        exec i s = .next
          { s.answered l tag i [toBoth (.axisState a .settling .moving none)]
              (.accepted (beInt16 t ++ [0])) with
            axes := s.axes.set a { y with state := .moving, settle := 0 }
            handed := s.handed ++ axisNotices a .settling .moving }) ∧
      (¬(x.state = .settling ∧ band < (t - angle).natAbs) →
        exec i s = .next { s.answered l tag i [] (.accepted (beInt16 t ++ [0])) with
          axes := s.axes.set a y })))

/-- The end of the warning: IDLE where the slot is FALSE or the switch of the direction asserted,
otherwise MOVING with the motion timer started (R24). What ends a motion in WARNING brings the axis to
IDLE with its outcome (R30, R41, R42); what ends a MANUAL session clears the staged value with it (R40
to R42). The order among separate notices of one act, where no rule gives it, is the model's choice (log
entry 54). That the expiry acts whenever the timer runs, whatever is left of it, is the model's choice
(log entry 4). -/
def Obligations.WarningEndsInTravelOrIdle : Prop :=
  (∀ (a : Fin 4) (s : State), s.power = .running →
    s.axes[a].state = .warning → s.axes[a].warning.isSome = true →
    ∀ d, s.axes[a].direction = some d →
    let i := Instr.warningTimerExpiry a
    let x := s.axes[a]
    let ends := fun o => exec i s = .next
      { (s.acted i (restReports a x .idle s.clock o)).withAxisAtRest a x .idle o with
        handed := s.handed.erase i ++ axisNotices a .warning .idle }
    (s.evaluator.slots[slotOf a d].result = false → ends .notPermitted) ∧
    (s.evaluator.slots[slotOf a d].result = true → s.inputs.levels.limit a d = true →
      ends .limit) ∧
    (s.evaluator.slots[slotOf a d].result = true → s.inputs.levels.limit a d = false →
      exec i s = .next { s.acted i [toBoth (.axisState a .warning .moving none)] with
        axes := s.axes.set a
          { x with
            state := .moving
            warning := none
            motionTimer := some (s.settings.axes[a].motionLimit * 1000)
            settle := 0 }
        handed := s.handed.erase i ++ axisNotices a .warning .moving })) ∧
  (∀ (a : Fin 4) (r : HolderReason) (l : Link) (s : State), s.power = .running →
    s.settings.axes[a].fitted = true →
    let x := s.axes[a]
    let rests := fun i (y : AxisRecord) o => exec i s = .next
      { (s.acted i (restReports a y .idle s.clock o)).withAxisAtRest a y .idle o with
        handed := s.handed.erase i ++ axisNotices a x.state .idle }
    (x.state = .warning → rests (.holderChange a r) x r.outcome ∧ rests (.deckHoldNotice a) x .held) ∧
    (x.state = .manual →
      rests (.holderChange a r) { x with staged := 0 } r.outcome ∧
      rests (.deckHoldNotice a) { x with staged := 0 } .held ∧
      (s.holder a = some l → rests (.lossOfServiceLevel a l) { x with staged := 0 } .stopped)) ∧
    (x.state ≠ .manual ∨ s.holder a ≠ some l →
      exec (.lossOfServiceLevel a l) s = .next (s.acted (.lossOfServiceLevel a l) [])))

/-! ## Axes: updates (02, 03) -/

/-- An update in MOVING: it ends at the limit switch, drives toward the target out of band, and in band
goes on in SETTLING; with the angle channel INVALID it does nothing (R25, R26, R48 to R55). That T used,
the oil validity and u are absent in the update record of the one in band, which is SETTLING, is the
model's choice (log entry 16). The order among separate notices of one act, where no rule gives it, is
the model's choice (log entry 54). So are the two changes of state of one act, each told (log entry 15),
and that an INVALID update does nothing (log entry 47). -/
def Obligations.MovingUpdateDrivesOrSettles : Prop :=
  ∀ (a : Fin 4) (angle : Reading) (s : State), s.power = .running →
    s.settings.axes[a].fitted = true → s.axes[a].state = .moving →
    ∀ target, s.axes[a].target = some target → ∀ d, s.axes[a].direction = some d →
    let i := Instr.axisUpdate a angle
    let x := s.axes[a]
    let set := s.settings.axes[a]
    let oil := s.channels[s.settings.oil]
    let e := target - angle.value
    let idx := tableIndex set.tableMode oil.scaled (decide (0 < e))
    let u := demandMagnitude (unclampedMoving set.loopMode (set.ff.toList.getD idx 0) e set.kp)
      set.dMin set.dMax
    let demand : Int := if 0 < e then u else -u
    let settled := slewed x.c 0 set.slew set.dMax
    let y : AxisRecord :=
      { x.driven ⟨.settling, none, none, none, some e, none, 0, x.c, settled⟩ with
        state := .settling
        settle := min 1 set.settleCount }
    (angle.valid = false → exec i s = .next (s.acted i [])) ∧
    (angle.valid = true → s.inputs.levels.limit a d = true →
      exec i s = .next
        { ((s.acted i (restReports a x .idle s.clock .limit)).withAxisAtRest a x .idle
            .limit).withCut a with
          handed := s.handed.erase i ++ axisNotices a .moving .idle }) ∧
    (angle.valid = true → s.inputs.levels.limit a d = false → set.inBand < e.natAbs →
      exec i s = .next ((s.acted i []).withAxis a
        (x.driven ⟨.moving, some oil.scaled, some oil.valid, some idx, some e, some u, demand, x.c,
          slewed x.c demand set.slew set.dMax⟩))) ∧
    (angle.valid = true → s.inputs.levels.limit a d = false → e.natAbs ≤ set.inBand →
      (¬(min 1 set.settleCount = set.settleCount ∧ settled = 0) →
        exec i s = .next
          { (s.acted i [toBoth (.axisState a .moving .settling none)]).withAxis a y with
            handed := s.handed.erase i ++ axisNotices a .moving .settling }) ∧
      (min 1 set.settleCount = set.settleCount ∧ settled = 0 →
        exec i s = .next
          { (s.acted i (toBoth (.axisState a .moving .settling none) ::
              restReports a y .idle s.clock .reached)).withAxisAtRest a y .idle .reached with
            handed := s.handed.erase i ++ (axisNotices a .moving .settling ++
              axisNotices a .settling .idle) }))

/-- An update in SETTLING: in band it is counted, driven with demand 0, and ends the motion REACHED when
the count is full and c is 0; out of band it goes back to MOVING, or with its slot FALSE enters STOPPING
with PERMISSIVE_LOST, computed as a STOPPING update (R26, R27, R29, R32; absent fields of the update
record: log entry 16). With the channel INVALID it does nothing (log entry 47). The order among separate
notices of one act, where no rule gives it, is the model's choice (log entry 54). The absent fields of
the record (log entry 16), the INVALID update that does nothing (log entry 47) and two changes of state
of one act, each told (log entry 15), are the model's choice. -/
def Obligations.SettlingUpdateCountsOrReturns : Prop :=
  ∀ (a : Fin 4) (angle : Int) (s : State), s.power = .running →
    s.settings.axes[a].fitted = true → s.axes[a].state = .settling →
    ∀ target, s.axes[a].target = some target → ∀ d, s.axes[a].direction = some d →
    let i := Instr.axisUpdate a ⟨angle, true⟩
    let x := s.axes[a]
    let set := s.settings.axes[a]
    let oil := s.channels[s.settings.oil]
    let e := target - angle
    let idx := tableIndex set.tableMode oil.scaled (decide (0 < e))
    let u := demandMagnitude (unclampedMoving set.loopMode (set.ff.toList.getD idx 0) e set.kp)
      set.dMin set.dMax
    let demand : Int := if 0 < e then u else -u
    let settled := slewed x.c 0 set.slew set.dMax
    let count := min (x.settle + 1) set.settleCount
    let y : AxisRecord :=
      { x.driven ⟨.settling, none, none, none, some e, none, 0, x.c, settled⟩ with settle := count }
    (s.inputs.levels.limit a d = true → exec i s = .next
      { ((s.acted i (restReports a x .idle s.clock .limit)).withAxisAtRest a x .idle
          .limit).withCut a with
        handed := s.handed.erase i ++ axisNotices a .settling .idle }) ∧
    (s.inputs.levels.limit a d = false → e.natAbs ≤ set.inBand →
      (¬(count = set.settleCount ∧ settled = 0) → exec i s = .next ((s.acted i []).withAxis a y)) ∧
      (count = set.settleCount ∧ settled = 0 → exec i s = .next
        { (s.acted i (restReports a y .idle s.clock .reached)).withAxisAtRest a y .idle .reached with
          handed := s.handed.erase i ++ axisNotices a .settling .idle })) ∧
    (s.inputs.levels.limit a d = false → set.inBand < e.natAbs →
      s.evaluator.slots[slotOf a d].result = true → exec i s = .next
        { (s.acted i [toBoth (.axisState a .settling .moving none)]).withAxis a
            { x.driven ⟨.moving, some oil.scaled, some oil.valid, some idx, some e, some u, demand,
                x.c, slewed x.c demand set.slew set.dMax⟩ with
              state := .moving
              settle := 0 } with
          handed := s.handed.erase i ++ axisNotices a .settling .moving }) ∧
    (s.inputs.levels.limit a d = false → set.inBand < e.natAbs →
      s.evaluator.slots[slotOf a d].result = false → x.c = 0 → exec i s = .next
        { (s.acted i (stopReports a x s.clock .permissiveLost)).withAxisStopping a x
            .permissiveLost with
          handed := s.handed.erase i ++ stopNotices a x }) ∧
    (s.inputs.levels.limit a d = false → set.inBand < e.natAbs →
      s.evaluator.slots[slotOf a d].result = false → x.c ≠ 0 →
      s.StopsInUpdate i a x .permissiveLost) ∧
    (∀ v, exec (.axisUpdate a ⟨v, false⟩) s = .next (s.acted (.axisUpdate a ⟨v, false⟩) []))

/-- An update in STOPPING brings c toward 0 at the stop slew and ends the motion with the stopping
outcome at c = 0 or at a limit switch on c's side (R29, R32). A disabled angle channel ends it at once,
and does nothing at a fitted axis in any other state (R29). That T used, the oil validity and u are
absent in the update record of a STOPPING update is the model's choice (log entry 16). The order among
separate notices of one act, where no rule gives it, is the model's choice (log entry 54). -/
def Obligations.StoppingComesToRest : Prop :=
  ∀ (a : Fin 4) (angle : Reading) (s : State), s.power = .running →
    s.settings.axes[a].fitted = true →
    let x := s.axes[a]
    let i := Instr.axisUpdate a angle
    let j := Instr.disablingNotice a
    let set := s.settings.axes[a]
    let met := (0 < x.c ∧ s.inputs.levels.limHi[a] = true) ∨ (x.c < 0 ∧ s.inputs.levels.limLo[a] = true)
    let c := slewed x.c 0 set.stopSlew set.dMax
    let y := x.driven ⟨.stopping, none, none, none, none, none, 0, x.c, c⟩
    (x.state = .stopping → ∀ o, x.stopOutcome = some o →
      (met → exec i s = .next
        { ((s.acted i (restReports a x .idle s.clock o)).withAxisAtRest a x .idle o).withCut a with
          handed := s.handed.erase i ++ axisNotices a .stopping .idle }) ∧
      (¬met → c ≠ 0 → exec i s = .next ((s.acted i []).withAxis a y)) ∧
      (¬met → c = 0 → exec i s = .next
        { (s.acted i (restReports a y .idle s.clock o)).withAxisAtRest a y .idle o with
          handed := s.handed.erase i ++ axisNotices a .stopping .idle }) ∧
      exec j s = .next
        { (s.acted j (restReports a x .idle s.clock o)).withAxisAtRest a x .idle o with
          handed := s.handed.erase j ++ axisNotices a .stopping .idle }) ∧
    (x.state ≠ .stopping → exec j s = .next (s.acted j []))

/-- The events that end a motion in travel put the axis in STOPPING with their outcome (R27, R28, R29,
R37, R41, R42); with c 0 it goes on to IDLE at once. The same events leave an axis that is at rest, or
in another direction, as it is; a slot that turns TRUE and a timer that does not run do nothing; a deck
hold replaces the outcome of an axis in STOPPING (R27, R41, R42). The order among separate notices of
one act, where no rule gives it, is the model's choice (log entry 54). The two changes of state where c
is 0, each told (log entry 15), that an expiry acts whenever its timer runs (log entry 4), and that a
slot change acts by the direction it names (log entry 47), are the model's choice. -/
def Obligations.TravelEndsInStopping : Prop :=
  (∀ (a : Fin 4) (d : Direction) (r : HolderReason) (s : State), s.power = .running →
    s.settings.axes[a].fitted = true →
    let x := s.axes[a]
    let stops := fun i o first => exec i s = .next
      { (s.acted i (stopReports a { x with motionTimer := none } s.clock o)).withAxisStopping a x
          o with
        handed := s.handed.erase i ++ (first ++ stopNotices a x) }
    (x.state = .moving → x.direction = some d →
      stops (.permissiveSlotChange a d false) .permissiveLost []) ∧
    (x.state.travels = true → stops (.holderChange a r) r.outcome []) ∧
    (x.state.travels = true → stops (.deckHoldNotice a) .held []) ∧
    (x.state.travels = true → x.motionTimer.isSome = true →
      stops (.motionTimerExpiry a) .timeout [.momentaryRaise (.axisTimeout a)]) ∧
    (x.state = .jogging → x.refresh.isSome = true → stops (.jogRefreshExpiry a) .jogReleased [])) ∧
  (∀ (a : Fin 4) (d : Direction) (r : HolderReason) (s : State), s.power = .running →
    s.settings.axes[a].fitted = true →
    let x := s.axes[a]
    let nothing := fun i => exec i s = .next (s.acted i [])
    (x.state ≠ .moving ∨ x.direction ≠ some d → nothing (.permissiveSlotChange a d false)) ∧
    nothing (.permissiveSlotChange a d true) ∧
    (x.motionTimer = none → nothing (.motionTimerExpiry a)) ∧
    (x.refresh = none → nothing (.jogRefreshExpiry a)) ∧
    (x.warning = none → nothing (.warningTimerExpiry a)) ∧
    (x.state = .idle ∨ x.state = .tripped →
      nothing (.holderChange a r) ∧ nothing (.deckHoldNotice a)) ∧
    (x.state = .stopping → nothing (.holderChange a r) ∧
      exec (.deckHoldNotice a) s = .next { s.acted (.deckHoldNotice a) [] with
        axes := s.axes.set a { x with stopOutcome := some .held } }))

/-- AXIS STOP, of one axis, by its state, from either link, whatever the holder; and of all axes, in
ascending order (log entry 52), each fitted one as it would alone, unfitted ones passed over (R17, R30).
The order among separate notices of one act, where no rule gives it, is the model's choice (log entry
54). The two changes of state where c is 0, each told, are the model's choice (log entry 15). -/
def Obligations.AxisStopByState : Prop :=
  (∀ (l : Link) (tag : Byte) (a : Fin 4) (s : State), s.power = .running →
    s.settings.axes[a].fitted = true →
    let i := Instr.axisStop l tag a
    let x := s.axes[a]
    (x.state = .idle ∨ x.state = .stopping ∨ x.state = .tripped →
      exec i s = .next (s.answered l tag i [] (.done []))) ∧
    (x.state = .warning → exec i s = .next
      { (s.answered l tag i (restReports a x .idle s.clock .stopped) (.done [])).withAxisAtRest a x
          .idle .stopped with
        handed := s.handed ++ axisNotices a .warning .idle }) ∧
    (x.state.travels = true → exec i s = .next
      { (s.answered l tag i (stopReports a x s.clock .stopped) (.done [])).withAxisStopping a x
          .stopped with
        handed := s.handed ++ stopNotices a x }) ∧
    (x.state = .manual → exec i s = .next ((s.answered l tag i [] (.done [])).withAxis a
      { x with staged := 0, refresh := none, c := 0, confirm := none }))) ∧
  (∀ (l : Link) (tag : Byte) (s : State), s.power = .running →
    (∀ n : Nat, n ≠ 0xFF → (∀ b : Fin 4, b.val = n → s.settings.axes[b].fitted = false) →
      exec (.axisStop l tag n) s =
        .next (s.answered l tag (.axisStop l tag n) [] (.refused .badField))) ∧
    (let all := Instr.axisStop l tag 0xFF
    let cuts := fun (b : Fin 4) => s.settings.axes[b].fitted && decide (s.axes[b].state = .warning)
    let stops := fun (b : Fin 4) => s.settings.axes[b].fitted && s.axes[b].state.travels
    let frees := fun (b : Fin 4) => s.settings.axes[b].fitted && decide (s.axes[b].state = .manual)
    let rests := fun (b : Fin 4) => cuts b || (stops b && decide (s.axes[b].c = 0))
    let y := fun (b : Fin 4) => if stops b then s.axes[b].nowStopping .stopped else s.axes[b]
    let base := s.answered l tag all ((List.finRange 4).flatMap fun b =>
        if cuts b then restReports b s.axes[b] .idle s.clock .stopped
        else if stops b then stopReports b s.axes[b] s.clock .stopped else []) (.done [])
    exec all s = .next { base with
      axes := Vector.ofFn fun b =>
        if rests b then (y b).atRest .idle s.clock .stopped
        else if frees b then { s.axes[b] with staged := 0, refresh := none, c := 0, confirm := none }
        else y b
      valves := Vector.ofFn fun b => if rests b || frees b then { s.valves[b] with command := 0 }
        else s.valves[b]
      counters := { base.counters with
        axes := Vector.ofFn fun b => if rests b && s.axes[b].running then
            s.counters.axes[b].ended .stopped
          else s.counters.axes[b] }
      handed := s.handed ++ (List.finRange 4).flatMap fun b =>
        if cuts b then axisNotices b .warning .idle
        else if stops b then stopNotices b s.axes[b] else [] }))

/-! ## Axes: events (02) -/

/-- A validity change of the angle channel ends a motion in WARNING, MOVING or SETTLING when it became
INVALID; it and a validity change of the pressure channel evaluate AXIS_SENSOR, a change of which is
handed to the alarm unit (R31, R43). AXIS_SENSOR is evaluated from the channel records as they stand
when the notice is taken, the model's choice (log entry 35). The order among separate notices of one
act, where no rule gives it, is the model's choice (log entry 54). -/
def Obligations.ChannelValidityActsOnAxis : Prop :=
  ∀ (a : Fin 4) (valid : Bool) (s : State), s.power = .running →
    s.settings.axes[a].fitted = true →
    let i := Instr.angleValidityChange a valid
    let j := Instr.pressureValidityChange a valid
    let x := s.axes[a]
    let lost := !((s.angle a).valid && (s.pressure a).valid)
    let y : AxisRecord := { x with sensor := lost }
    let told : List Instr :=
      if lost = x.sensor then [] else [.alarmSourceChange (.axisSensor a) lost]
    (valid = true ∨ (x.state ≠ .warning ∧ x.state ≠ .moving ∧ x.state ≠ .settling) →
      exec i s = .next { s.acted i [] with
        axes := s.axes.set a y
        handed := s.handed.erase i ++ told }) ∧
    (valid = false → x.state = .warning → exec i s = .next
      { (s.acted i (restReports a x .idle s.clock .sensorLost)).withAxisAtRest a y .idle
          .sensorLost with
        handed := s.handed.erase i ++ (axisNotices a .warning .idle ++ told) }) ∧
    (valid = false → x.state = .moving ∨ x.state = .settling → exec i s = .next
      { (s.acted i (stopReports a x s.clock .sensorLost)).withAxisStopping a y .sensorLost with
        handed := s.handed.erase i ++ (stopNotices a x ++ told) }) ∧
    exec j s = .next { s.acted j [] with
      axes := s.axes.set a y
      handed := s.handed.erase j ++ told }

/-- A limit switch that is asserted and meets the axis cuts the frame and sets c to 0; a motion ends, in
STOPPING with the outcome it has and otherwise with LIMIT; MANUAL stays. One that does not meet the axis
does nothing (R32). An assertion of the STOP line brings an active axis to IDLE at once with its frame
cut and outcome PUMP_STOP; a release, or an axis at rest, changes nothing (R33, R60). The order among
separate notices of one act, where no rule gives it, is the model's choice (log entry 54). The two
changes of state of one act, each told, are the model's choice (log entry 15). -/
def Obligations.LimitSwitchAndStopLineCutTheFrame : Prop :=
  (∀ (a : Fin 4) (side : Direction) (asserted : Bool) (s : State), s.power = .running →
    s.settings.axes[a].fitted = true →
    let i := Instr.limitSwitchChange a side asserted
    let x := s.axes[a]
    let toward := (side = .raise ∧ 0 < x.c) ∨ (side = .lower ∧ x.c < 0)
    let rests := fun o => exec i s = .next
      { ((s.acted i (restReports a x .idle s.clock o)).withAxisAtRest a x .idle o).withCut a with
        handed := s.handed.erase i ++ axisNotices a x.state .idle }
    (asserted = false → exec i s = .next (s.acted i [])) ∧
    (x.state = .idle ∨ x.state = .warning ∨ x.state = .tripped →
      exec i s = .next (s.acted i [])) ∧
    (asserted = true → x.state.travels = true → x.direction = some side → rests .limit) ∧
    (x.state.travels = true → x.direction ≠ some side → exec i s = .next (s.acted i [])) ∧
    (asserted = true → x.state = .stopping → toward → ∀ o, x.stopOutcome = some o → rests o) ∧
    (asserted = true → x.state = .manual → toward →
      exec i s = .next (((s.acted i []).withAxis a { x with c := 0, confirm := none }).withCut a)) ∧
    (x.state = .stopping ∨ x.state = .manual → ¬toward → exec i s = .next (s.acted i []))) ∧
  (∀ (a : Fin 4) (asserted : Bool) (s : State), s.power = .running →
    s.settings.axes[a].fitted = true →
    let i := Instr.stopLineChange a asserted
    let x := s.axes[a]
    (asserted = false ∨ x.state = .idle ∨ x.state = .tripped → exec i s = .next (s.acted i [])) ∧
    (asserted = true → x.state ≠ .idle → x.state ≠ .tripped → exec i s = .next
      { ((s.acted i (restReports a x .idle s.clock .pumpStop)).withAxisAtRest a
          { x with staged := 0 } .idle .pumpStop).withCut a with
        handed := s.handed.erase i ++ axisNotices a x.state .idle }))

/-- A pressure check runs only with c nonzero, out of TRIPPED and on a VALID channel; it records its
values, and a second check in a row on the same side of the limits trips the axis (R34, R63 to R67).
TRIP RESET of a tripped axis by its holder brings it to IDLE and returns the trip source; its checks in
their order (R35). The order among separate notices of one act, where no rule gives it, is the model's
choice (log entry 54). -/
def Obligations.PressureTripsAndTripReset : Prop :=
  (∀ (a : Fin 4) (p : Reading) (s : State), s.power = .running →
    let i := Instr.pressureCheck a p
    let x := s.axes[a]
    let set := s.settings.axes[a]
    let angle := (s.angle a).scaled
    let b := pressureBand angle set.lLo set.lHi
    let ref := set.prt.toList.getD b 0
    let hi := min (ref + set.marginHi) 32767
    let lo := ref - set.marginLo
    let checked : AxisRecord := { x with check := some ⟨p.value, angle, b, ref, hi, lo⟩ }
    let runs := set.fitted = true ∧ x.state ≠ .tripped ∧ x.c ≠ 0 ∧ p.valid = true
    let leaves := fun confirm => exec i s = .next { s.acted i [] with
      axes := s.axes.set a { checked with confirm := confirm } }
    let trips := fun (k : TripKind) (src : CondSource) => exec i s = .next
      (let base := s.acted i (restReports a x .tripped s.clock .tripped)
      { ({ base with counters := { base.counters with
            axes := s.counters.axes.set a
              { s.counters.axes[a] with trips := saturate s.counters.axes[a].trips } } }.withAxisAtRest
          a { checked with staged := 0, tripKind := some k } .tripped .tripped).withCut a with
        handed := s.handed.erase i ++ (axisNotices a x.state .tripped ++
          [.alarmSourceChange src true]) })
    (¬runs → exec i s = .next { s.acted i [] with
      axes := s.axes.set a { x with confirm := none } }) ∧
    (runs → (lo : Int) ≤ p.value → p.value ≤ (hi : Int) → leaves none) ∧
    (runs → (hi : Int) < p.value →
      (x.confirm ≠ some .high → leaves (some .high)) ∧
      (x.confirm = some .high → trips .high (.axisTripHigh a))) ∧
    (runs → p.value < (lo : Int) → p.value ≤ (hi : Int) →
      (x.confirm ≠ some .low → leaves (some .low)) ∧
      (x.confirm = some .low → trips .low (.axisTripLow a)))) ∧
  (∀ (l : Link) (tag : Byte) (a : Fin 4) (s : State), s.power = .running →
    let i := Instr.tripReset l tag a
    let x := s.axes[a]
    let refuses := fun code => exec i s = .next (s.answered l tag i [] (.refused code))
    (s.settings.axes[a].fitted = false → refuses .badField) ∧
    (s.settings.axes[a].fitted = true → s.holder a ≠ some l → refuses .noAuthority) ∧
    (s.settings.axes[a].fitted = true → s.holder a = some l →
      (x.state ≠ .tripped → refuses .state) ∧
      (x.state = .tripped → ∀ k, x.tripKind = some k → exec i s = .next
        { s.answered l tag i [toBoth (.axisState a .tripped .idle none)] (.done []) with
          axes := s.axes.set a { x with state := .idle, tripKind := none }
          handed := s.handed ++ (axisNotices a .tripped .idle ++
            [.alarmSourceChange (tripSource a k) false]) })))

/-- AXIS JOG from the local link: its checks in their order, an undefined direction refused with the
first (log entry 20), the start of a jog from IDLE, what was handed to the axis at rest standing as
taken (log entry 2), and the refresh of one that runs in the same direction (R36, R37). An update in
JOGGING: it ends at the limit switch, enters STOPPING with LIMIT at the soft limit of a VALID angle and
is then computed as a STOPPING update, and otherwise drives at the jog demand (R29, R32, R37, R48, R53
to R55). That the fields which JOGGING does not form, and in the STOPPING update T used, the oil
validity and u, are absent in the update record is the model's choice (log entry 16). The order among
separate notices of one act, where no rule gives it, is the model's choice (log entry 54). So are the
two changes of state of one act, each told (log entry 15). -/
def Obligations.AxisJogStartsDrivesAndEnds : Prop :=
  (∀ (l : Link) (tag : Byte) (a : Fin 4) (d : Direction) (s : State), s.power = .running →
    s.settings.axes[a].fitted = true →
    let i := Instr.axisJog l tag a d.code
    let x := s.axes[a]
    let refuses := fun code => exec i s = .next (s.answered l tag i [] (.refused code))
    let mine := l = .localLink ∧ s.holder a = some .localLink
    let atLimit := s.inputs.levels.limit a d = true ∨ ((s.angle a).valid = true ∧
      ((d = .raise ∧ s.settings.axes[a].lHi ≤ (s.angle a).scaled) ∨
       (d = .lower ∧ (s.angle a).scaled ≤ s.settings.axes[a].lLo)))
    (¬mine → refuses .noAuthority) ∧
    (mine → s.station.held = true → refuses .held) ∧
    (mine → s.station.held = false → s.alarms.stop = true → refuses .pumpStopped) ∧
    (mine → s.station.held = false → s.alarms.stop = false →
      (x.state = .tripped → refuses .tripped) ∧
      (x.state = .warning ∨ x.state = .moving ∨ x.state = .settling ∨ x.state = .stopping ∨
        x.state = .manual → refuses .busy) ∧
      (x.state = .jogging → x.direction = some d →
        exec i s = .next { s.answered l tag i [] (.done []) with
          axes := s.axes.set a { x with refresh := some 500 } }) ∧
      (x.state = .jogging → x.direction ≠ some d → refuses .state) ∧
      (x.state = .idle → atLimit → refuses .state) ∧
      (x.state = .idle → ¬atLimit → s.evaluator.slots[slotOf a d].result = false →
        refuses .notPermitted) ∧
      (x.state = .idle → ¬atLimit → s.evaluator.slots[slotOf a d].result = true →
        exec i s = .next
          { s.answered l tag i [toBoth (.axisState a .idle .jogging none)] (.done []) with
            axes := s.axes.set a
              { x with
                state := .jogging
                direction := some d
                motionTimer := some (s.settings.axes[a].motionLimit * 1000)
                refresh := some 500
                motion := some ⟨l, .jog, none, s.clock, none, none⟩ }
            handed := s.handed.filter (fun n => !idleNotice a n) ++
              axisNotices a .idle .jogging })) ∧
    (∀ code, code ≠ 1 → code ≠ 2 → exec (.axisJog l tag a code) s =
      .next (s.answered l tag (.axisJog l tag a code) [] (.refused .badField)))) ∧
  (∀ (a : Fin 4) (angle : Reading) (s : State), s.power = .running →
    s.settings.axes[a].fitted = true → s.axes[a].state = .jogging →
    ∀ d, s.axes[a].direction = some d →
    let i := Instr.axisUpdate a angle
    let x := s.axes[a]
    let set := s.settings.axes[a]
    let oil := s.channels[s.settings.oil]
    let idx := tableIndex set.tableMode oil.scaled (decide (d = .raise))
    let u := demandMagnitude (set.ff.toList.getD idx 0) set.dMin set.dMax
    let demand : Int := if d = .raise then u else -u
    let soft := angle.valid = true ∧ ((d = .raise ∧ set.lHi ≤ angle.value) ∨
      (d = .lower ∧ angle.value ≤ set.lLo))
    (s.inputs.levels.limit a d = true → exec i s = .next
      { ((s.acted i (restReports a x .idle s.clock .limit)).withAxisAtRest a x .idle
          .limit).withCut a with
        handed := s.handed.erase i ++ axisNotices a .jogging .idle }) ∧
    (s.inputs.levels.limit a d = false → ¬soft → exec i s = .next ((s.acted i []).withAxis a
      (x.driven ⟨.jogging, some oil.scaled, some oil.valid, some idx, none, some u, demand, x.c,
        slewed x.c demand set.slew set.dMax⟩))) ∧
    (s.inputs.levels.limit a d = false → soft → x.c = 0 → exec i s = .next
      { (s.acted i (stopReports a x s.clock .limit)).withAxisStopping a x .limit with
        handed := s.handed.erase i ++ stopNotices a x }) ∧
    (s.inputs.levels.limit a d = false → soft → x.c ≠ 0 → s.StopsInUpdate i a x .limit))

/-- MANUAL ENTER: its checks in their order, the session it opens from IDLE, what was handed to the axis
at rest standing as taken (log entry 2), and no change in MANUAL (R38). Within a session MANUAL SET
stages the clamped value, MANUAL APPLY makes the staged value the command, or 0 against an asserted
limit switch, and starts the refresh window, and MANUAL LEAVE ends the session; outside one they are
refused in order (R39, R40). The refresh window of MANUAL sets c to 0 when it runs out and keeps the
staged value and the state; with no window running, or in another state, nothing happens (R39). The
order among separate notices of one act, where no rule gives it, is the model's choice (log entry 54).
That the expiry acts whenever the window runs is the model's choice (log entry 4). -/
def Obligations.ManualSessionDrivesByHand : Prop :=
  (∀ (l : Link) (tag : Byte) (a : Fin 4) (s : State), s.power = .running →
    s.settings.axes[a].fitted = true →
    let i := Instr.manualEnter l tag a
    let x := s.axes[a]
    let refuses := fun code => exec i s = .next (s.answered l tag i [] (.refused code))
    (s.station.level.get l = .operate → refuses .level) ∧
    (s.station.level.get l = .service →
      (s.holder a ≠ some l → refuses .noAuthority) ∧
      (s.holder a = some l → s.station.held = true → refuses .held) ∧
      (s.holder a = some l → s.station.held = false → s.alarms.stop = true →
        refuses .pumpStopped) ∧
      (s.holder a = some l → s.station.held = false → s.alarms.stop = false →
        (x.state = .tripped → refuses .tripped) ∧
        (x.state = .manual → exec i s = .next (s.answered l tag i [] (.done []))) ∧
        (x.state = .warning ∨ x.state = .moving ∨ x.state = .settling ∨ x.state = .stopping ∨
          x.state = .jogging → refuses .busy) ∧
        (x.state = .idle → exec i s = .next
          { (s.answered l tag i [toBoth (.axisState a .idle .manual none)] (.done [])).withAxis a
              { x with
                state := .manual
                c := 0
                confirm := none
                staged := 0
                target := none
                direction := none
                refresh := none } with
            handed := s.handed.filter (fun n => !idleNotice a n) ++ axisNotices a .idle .manual })))) ∧
  (∀ (l : Link) (tag : Byte) (a : Fin 4) (value : Int) (s : State), s.power = .running →
    s.settings.axes[a].fitted = true →
    let x := s.axes[a]
    let dMax : Int := s.settings.axes[a].dMax
    let v := min (max value (-dMax)) dMax
    let against := (0 < x.staged ∧ s.inputs.levels.limHi[a] = true) ∨
      (x.staged < 0 ∧ s.inputs.levels.limLo[a] = true)
    let c := if against then 0 else x.staged
    let each := fun (p : Instr → Prop) => p (.manualSet l tag a value) ∧ p (.manualApply l tag a) ∧
      p (.manualLeave l tag a)
    let refused := fun code i => exec i s = .next (s.answered l tag i [] (.refused code))
    (s.station.level.get l = .operate → each (refused .level)) ∧
    (s.station.level.get l = .service → s.holder a ≠ some l → each (refused .noAuthority)) ∧
    (s.station.level.get l = .service → s.holder a = some l → x.state ≠ .manual →
      each (refused .state)) ∧
    (s.station.level.get l = .service → s.holder a = some l → x.state = .manual →
      exec (.manualSet l tag a value) s = .next
        { s.answered l tag (.manualSet l tag a value) [] (.done (beInt16 v)) with
          axes := s.axes.set a { x with staged := v } } ∧
      exec (.manualApply l tag a) s = .next
        ((s.answered l tag (.manualApply l tag a) [] (.done (beInt16 c))).withAxis a
          { x with
            c := c
            confirm := if c = 0 then none else x.confirm
            refresh := some 500 }) ∧
      exec (.manualLeave l tag a) s = .next
        { (s.answered l tag (.manualLeave l tag a) (restReports a x .idle s.clock .stopped)
            (.done [])).withAxisAtRest a { x with staged := 0 } .idle .stopped with
          handed := s.handed ++ axisNotices a .manual .idle })) ∧
  (∀ (a : Fin 4) (s : State), s.power = .running →
    let i := Instr.manualRefreshExpiry a
    let x := s.axes[a]
    (x.state = .manual → x.refresh.isSome = true → exec i s = .next ((s.acted i []).withAxis a
      { x with c := 0, confirm := none, refresh := none })) ∧
    (x.state ≠ .manual ∨ x.refresh = none → exec i s = .next (s.acted i [])))

/-! ## The valve drive computation (03) -/

/-- A frame start applies the pending command where its direction is that of the lines, or where zero is
in force, the lines then taking it; otherwise the frame is low and the lines stay (R58, R59). A
sub-period has the coarse ticks high, and one more where the six-bit reversal of its number is below the
fine part, its first ticks; the high ticks of an uncut frame sum to the magnitude applied, the line is
never high for a whole frame, and after a cut it is low (R60, R61). That a frame start from the queue
acts at any position of the frame in progress is the model's choice (log entry 32). -/
def Obligations.ValveFramesApplyAndSumTheCommand : Prop :=
  (∀ (a : Fin 4) (s : State), s.power = .running →
    let i := Instr.valveFrameStart a
    let g := s.valves[a]
    let wanted : Option Direction :=
      if 0 < g.command then some .raise else if g.command < 0 then some .lower else none
    ∃ t, exec i s = .next t ∧ t = { s.acted i [] with valves := s.valves.set a t.valves[a] } ∧
      t.valves[a].command = g.command ∧ t.valves[a].cut = false ∧
      (wanted = g.lines → t.valves[a].lines = g.lines ∧ t.valves[a].applied = g.command.natAbs) ∧
      (wanted ≠ g.lines → g.applied = 0 ∨ g.cut = true →
        t.valves[a].lines = wanted ∧ t.valves[a].applied = g.command.natAbs) ∧
      (wanted ≠ g.lines → g.applied ≠ 0 → g.cut = false →
        t.valves[a].lines = g.lines ∧ t.valves[a].applied = 0)) ∧
  ((∀ m k t, k < 64 → t < 64 →
     let reversal :=
       32 * (k % 2) + 16 * (k / 2 % 2) + 8 * (k / 4 % 2) + 4 * (k / 8 % 2) + 2 * (k / 16 % 2) + k / 32
     (tickHigh m (64 * k + t) = true ↔
       t < m / 64 + if reversal < m - 64 * (m / 64) then 1 else 0)) ∧
   (∀ m, m < 4096 → ((List.range 4096).filter fun t => tickHigh m t).length = m) ∧
   (∀ m, m < 4096 → ∃ t, t < 4096 ∧ tickHigh m t = false) ∧
   (∀ g : Generator, g.valveLine = true ↔ g.cut = false ∧ tickHigh g.applied g.position = true))

/-- The new command moves toward the demand by at most the slew limit and stays within Dmax (R55); the
demand magnitude is 0 for 0, Dmin for less than it, and otherwise within Dmin and Dmax, its unclamped
value in MOVING the table entry, with the proportional term in NORMAL (R53). The table index: SINGLE in
bands of 40 from −200, SPLIT in bands of 80 with the raise half 16 above the lower half, each limited to
its last band (R50, R51); the pressure band is a sixteenth of the travel, limited to 0 to 15, and rises
with the angle (R64). -/
def Obligations.DriveArithmeticStaysInBounds : Prop :=
  ((∀ (c d : Int) (slew dMax : Nat), (slewed c d slew dMax).natAbs ≤ dMax ∧
     (c.natAbs ≤ dMax → d.natAbs ≤ dMax →
       (d - c ≤ slew → c - d ≤ slew → slewed c d slew dMax = d) ∧
       ((slew : Int) < d - c → slewed c d slew dMax = c + slew) ∧
       ((slew : Int) < c - d → slewed c d slew dMax = c - slew))) ∧
   (∀ n dMin dMax : Nat, demandMagnitude n dMin dMax ≤ dMax ∧
     (n = 0 → demandMagnitude n dMin dMax = 0) ∧
     (n ≠ 0 → dMin ≤ dMax → dMin ≤ demandMagnitude n dMin dMax) ∧
     (n ≠ 0 → n < dMin → dMin ≤ dMax → demandMagnitude n dMin dMax = dMin) ∧
     (dMin ≤ n → n ≤ dMax → demandMagnitude n dMin dMax = n) ∧
     (dMax < n → demandMagnitude n dMin dMax = dMax)) ∧
   (∀ (ff kp : Nat) (e : Int),
     unclampedMoving .normal ff e kp = ff + e.natAbs * kp / 16 ∧
     unclampedMoving .forceOpen ff e kp = ff)) ∧
  ((∀ (t : Int) (r : Bool),
     (t < -200 → tableIndex .single t r = 0) ∧
     (∀ n : Nat, n ≤ 31 → -200 + 40 * (n : Int) ≤ t → (t < -200 + 40 * ((n : Int) + 1) ∨ n = 31) →
       tableIndex .single t r = n)) ∧
   (∀ t : Int,
     tableIndex .split t true = tableIndex .split t false + 16 ∧
     (t < -200 → tableIndex .split t false = 0) ∧
     (∀ n : Nat, n ≤ 15 → -200 + 80 * (n : Int) ≤ t → (t < -200 + 80 * ((n : Int) + 1) ∨ n = 15) →
       tableIndex .split t false = n)) ∧
   (∀ (m : TableMode) (t u : Int) (r : Bool), t ≤ u → tableIndex m t r ≤ tableIndex m u r) ∧
   (∀ angle lo hi : Int, lo < hi →
     (angle ≤ lo → pressureBand angle lo hi = 0) ∧
     (∀ n : Nat, n ≤ 15 → lo ≤ angle → (n : Int) * (hi - lo + 1) ≤ (angle - lo) * 16 →
       ((angle - lo) * 16 < ((n : Int) + 1) * (hi - lo + 1) ∨ n = 15) →
       pressureBand angle lo hi = n)) ∧
   (∀ angle angle' lo hi : Int, lo < hi → angle ≤ angle' →
     pressureBand angle lo hi ≤ pressureBand angle' lo hi))

/-! ## Stations, deck hold and service level (04) -/

/-- TAKE STATION: a priority take, an axis with no holder, one the link holds, and a request recorded
against the other holder, refused where one waits or the axis is active (R69 to R71). That the axis
record's own state says whether it is active, not the flags the station controller keeps, is the model's
choice (log entry 37). A pending request ends by YIELD STATION, which passes the axis to the requester,
by REFUSE STATION, or by its deadline, which runs out for an axis no longer fitted too, each answered as
its rule gives (R69, R72 to R74). The loss of a link: every axis it held passes to a waiting requester
or to none, every request it made is removed and its holder told, the axes in ascending order in one act
(R69, R75, R76). The order among separate notices of one act, where no rule gives it, is the model's
choice (log entry 54). That a grant from NONE is told to the axis (log entry 45), and that the expiry
acts whenever the deadline runs (log entry 4), are the model's choice. -/
def Obligations.AuthorityIsTakenAndRequestsAnswered : Prop :=
  (∀ (l : Link) (tag : Byte) (a : Fin 4) (s : State), s.power = .running →
    s.settings.axes[a].fitted = true →
    let i := Instr.takeStation l tag a
    let auth := s.station.auth[a]
    let priority := l = .localLink ∧ s.inputs.levels.localPriority = true ∧
      auth.holder = some .bridge
    let passes := fun cause => exec i s = .next
      { s.answered l tag i [toBoth (.stationChanged a auth.holder (some l) cause)] (.done []) with
        station := { s.station with auth := s.station.auth.set a ⟨some l, none⟩ }
        handed := s.handed ++ [.holderChange a .passed] }
    let refuses := fun code => exec i s = .next (s.answered l tag i [] (.refused code))
    (priority → passes .priority) ∧
    (auth.holder = none → passes .granted) ∧
    (auth.holder = some l → exec i s = .next (s.answered l tag i [] (.done []))) ∧
    (auth.holder = some l.other → ¬priority →
      (auth.request.isSome = true → refuses .state) ∧
      (auth.request = none → s.axes[a].state ≠ .idle → s.axes[a].state ≠ .tripped →
        refuses .busy) ∧
      (auth.request = none → s.axes[a].state = .idle ∨ s.axes[a].state = .tripped →
        exec i s = .next
          { s.answered l tag i [toLink l.other (.stationRequested a l s.clock)] (.accepted []) with
            station := { s.station with
              auth := s.station.auth.set a ⟨some l.other, some ⟨l, s.clock, 30000⟩⟩ } })) ∧
    (∀ n, (∀ b : Fin 4, b.val = n → s.settings.axes[b].fitted = false) →
      exec (.takeStation l tag n) s =
        .next (s.answered l tag (.takeStation l tag n) [] (.refused .badField)))) ∧
  (∀ (l : Link) (tag : Byte) (a : Fin 4) (s : State), s.power = .running →
    let fitted := s.settings.axes[a].fitted = true
    let auth := s.station.auth[a]
    let yield := Instr.yieldStation l tag a
    let refuse := Instr.refuseStation l tag a
    let expiry := Instr.deadlineExpiry a
    let refused := fun code i => exec i s = .next (s.answered l tag i [] (.refused code))
    let becomes := fun (x : Authority) => { s.station with auth := s.station.auth.set a x }
    (fitted → auth.holder ≠ some l → refused .noAuthority yield ∧ refused .noAuthority refuse) ∧
    (fitted → auth.holder = some l → auth.request = none →
      refused .notFound yield ∧ refused .notFound refuse) ∧
    (fitted → auth.holder = some l → ∀ r, auth.request = some r →
      exec yield s = .next
        { s.answered l tag yield
            [toBoth (.stationChanged a (some l) (some r.requester) .yielded)] (.done []) with
          station := becomes ⟨some r.requester, none⟩
          handed := s.handed ++ [.holderChange a .passed] } ∧
      exec refuse s = .next
        { s.answered l tag refuse [toLink r.requester (.stationAnswer a .refused)] (.done []) with
          station := becomes ⟨some l, none⟩ }) ∧
    (∀ r, auth.request = some r → exec expiry s = .next
      { s.acted expiry [toLink r.requester (.stationAnswer a .timedOut)] with
        station := becomes ⟨auth.holder, none⟩ }) ∧
    (auth.request = none → exec expiry s = .next (s.acted expiry []))) ∧
  (∀ (l : Link) (s : State), s.power = .running →
    let i := Instr.stationLinkLoss l
    exec i s = .next (s.actedBy i fun u => u.linkGone l))

/-- DECK HOLD adds the link to the claim set; the first claim tells every axis and is ESTABLISHED at
once where no axis is active, PENDING otherwise (R77): the changes of axis state handed on before it
count, the latest of each axis, and their notices are taken (R78; log entry 2). A pending hold is
established when a change leaves no axis active (R78); DECK RESUME takes claims out of the set, both
from the bridge alone, and an empty set ends the hold (R79). The order among separate notices of one
act, where no rule gives it, is the model's choice (log entry 54). The place of an undefined flag of
DECK RESUME among its checks is the model's choice (log entry 20). -/
def Obligations.DeckHoldIsClaimedEstablishedAndResumed : Prop :=
  (∀ (l : Link) (tag : Byte) (s : State), s.power = .running →
    let i := Instr.deckHold l tag
    let st := s.station
    let claims := st.claims.set l true
    let last := fun a : Fin 4 => s.handed.reverse.findSome? fun n => match n with
      | .axisStateChangeSeen b x => if b = a then some x else none
      | _ => none
    let active := fun a : Fin 4 => match last a with
      | some x => decide (x ≠ .idle ∧ x ≠ .tripped)
      | none => st.active[a]
    let data := fun (c : Pair Bool) (h : HoldStatus) => ReplyData.done [claimsByte c, byte h.code]
    let first := fun (h : HoldStatus) more => exec i s = .next
      { s.answered l tag i (toBoth (.holdClaims claims h) :: more) (data claims h) with
        station := { st with active := Vector.ofFn active, claims := claims, hold := h }
        handed := (s.handed.filter fun n => !seenNotice n) ++
          (((List.finRange 4).map fun a => .deckHoldNotice a) ++
            [.sourceChange .deckHold ⟨h.code, true⟩]) }
    (st.claims.get l = true →
      exec i s = .next (s.answered l tag i [] (data st.claims st.hold))) ∧
    (st.claims.get l = false → st.claims.get l.other = true → exec i s = .next
      { s.answered l tag i [toBoth (.holdClaims claims st.hold)] (data claims st.hold) with
        station := { st with claims := claims } }) ∧
    (st.claims = ⟨false, false⟩ → (∃ a : Fin 4, active a = true) → first .pending []) ∧
    (st.claims = ⟨false, false⟩ → (∀ a : Fin 4, active a = false) →
      first .established [toBoth (.holdEstablished claims s.clock)])) ∧
  ((∀ (a : Fin 4) (new : AxisState) (s : State), s.power = .running →
     let i := Instr.axisStateChangeSeen a new
     let active := s.station.active.set a (decide (new ≠ .idle ∧ new ≠ .tripped))
     let settled := s.station.hold = .pending ∧ ∀ b : Fin 4, active[b] = false
     (¬settled → exec i s = .next { s.acted i [] with
       station := { s.station with active := active } }) ∧
     (settled → exec i s = .next
       { s.acted i [toBoth (.holdEstablished s.station.claims s.clock)] with
         station := { s.station with active := active, hold := .established }
         handed := s.handed.erase i ++ [.sourceChange .deckHold ⟨2, true⟩] })) ∧
   (∀ (l : Link) (tag : Byte) (both : Nat) (s : State), s.power = .running →
     let i := Instr.deckResume l tag both
     let st := s.station
     let claims := if both = 1 then ⟨false, false⟩ else st.claims.set l false
     let data := fun (c : Pair Bool) (h : HoldStatus) => ReplyData.done [claimsByte c, byte h.code]
     let may := both = 0 ∨ (both = 1 ∧ l = .bridge)
     (2 ≤ both → exec i s = .next (s.answered l tag i [] (.refused .badField))) ∧
     (both = 1 → l = .localLink →
       exec i s = .next (s.answered l tag i [] (.refused .noAuthority))) ∧
     (may → claims = st.claims →
       exec i s = .next (s.answered l tag i [] (data st.claims st.hold))) ∧
     (may → claims ≠ st.claims → claims ≠ ⟨false, false⟩ → exec i s = .next
       { s.answered l tag i [toBoth (.holdClaims claims st.hold)] (data claims st.hold) with
         station := { st with claims := claims } }) ∧
     (may → claims ≠ st.claims → claims = ⟨false, false⟩ → exec i s = .next
       { s.answered l tag i [toBoth (.holdClaims claims .none)] (data claims .none) with
         station := { st with claims := claims, hold := .none }
         handed := s.handed ++ [.sourceChange .deckHold ⟨0, true⟩] })))

/-- A link goes to SERVICE with the key asserted and the other link at OPERATE, an earlier notice of the
key's release being taken (log entry 2), and falls by SERVICE LEAVE or at the release of the key, the
axes it holds being told (R80, R81). The order among separate notices of one act, where no rule gives
it, is the model's choice (log entry 54). -/
def Obligations.ServiceLevelRisesAndFalls : Prop :=
  ∀ (l : Link) (tag : Byte) (s : State), s.power = .running →
    let enter := Instr.serviceEnter l tag
    let leave := Instr.serviceLeave l tag
    let lost : Link → List Instr := fun m =>
      ((List.finRange 4).filter fun a => decide (s.holder a = some m)).map fun a =>
        .lossOfServiceLevel a m
    let at_ := fun (m : Link) => s.station.level.get m = .service
    (at_ l → exec enter s = .next (s.answered l tag enter [] (.done []))) ∧
    (¬at_ l → s.inputs.levels.serviceKey = false ∨ at_ l.other →
      exec enter s = .next (s.answered l tag enter [] (.refused .level))) ∧
    (¬at_ l → s.inputs.levels.serviceKey = true → ¬at_ l.other → exec enter s = .next
      { s.answered l tag enter [toBoth (.levelChanged l .service .entered)] (.done []) with
        station := { s.station with level := s.station.level.set l .service }
        handed := s.handed.filter fun n => n ≠ .serviceKeyRelease }) ∧
    (¬at_ l → exec leave s = .next (s.answered l tag leave [] (.done []))) ∧
    (at_ l → exec leave s = .next
      { s.answered l tag leave [toBoth (.levelChanged l .operate .left)] (.done []) with
        station := { s.station with level := s.station.level.set l .operate }
        handed := s.handed ++ lost l }) ∧
    exec .serviceKeyRelease s = .next
      { s.acted .serviceKeyRelease
          ((if at_ .bridge then [toBoth (.levelChanged .bridge .operate .keyReleased)] else []) ++
          (if at_ .localLink then [toBoth (.levelChanged .localLink .operate .keyReleased)]
            else [])) with
        station := { s.station with level := ⟨.operate, .operate⟩ }
        handed := s.handed.erase .serviceKeyRelease ++
          ((if at_ .bridge then lost .bridge else []) ++
          (if at_ .localLink then lost .localLink else [])) }

/-! ## What is not fitted -/

/-- A request that names an axis above 3 or an unfitted one, a door above 31 or one of kind NONE, or a
zone above 7 is refused BAD_FIELD, and the events of an unfitted axis do not act on it, but that a
completion of its pressure channel makes no check and leaves no confirmation (R17, R63, R67, R85, R87,
R88, R92, R100). -/
def Obligations.UnfittedIsRefusedAndDoesNotAct : Prop :=
  (∀ (l : Link) (tag : Byte) (n : Nat) (s : State), s.power = .running →
    let refused := fun i => exec i s = .next (s.answered l tag i [] (.refused .badField))
    ((∀ a : Fin 4, a.val = n → s.settings.axes[a].fitted = false) →
      (∀ dir, refused (.axisJog l tag n dir)) ∧ refused (.tripReset l tag n) ∧
      (∀ v, refused (.axisMove l tag n v)) ∧ refused (.takeStation l tag n) ∧
      refused (.driveStatus l tag n) ∧
      refused (.manualEnter l tag n) ∧ (∀ v, refused (.manualSet l tag n v)) ∧
      refused (.manualApply l tag n) ∧ refused (.manualLeave l tag n) ∧
      refused (.yieldStation l tag n) ∧ refused (.refuseStation l tag n) ∧
      (n ≠ 0xFF → refused (.axisStop l tag n))) ∧
    ((∀ d : Fin 32, d.val = n → s.settings.doors[d].kind = .absent) →
      refused (.doorHold l tag n) ∧ refused (.doorRelease l tag n) ∧
      refused (.doorIsolate l tag n) ∧ refused (.doorRestore l tag n)) ∧
    (8 ≤ n → refused (.doorHoldZone l tag n) ∧ refused (.doorReleaseZone l tag n))) ∧
  (∀ (a : Fin 4) (d : Direction) (b : Bool) (r : Reading) (l : Link) (reason : HolderReason) (s : State),
    s.power = .running → s.settings.axes[a].fitted = false →
    let nothing := fun i => exec i s = .next (s.acted i [])
    let check := Instr.pressureCheck a r
    nothing (.axisUpdate a r) ∧ nothing (.disablingNotice a) ∧ nothing (.limitSwitchChange a d b) ∧
    nothing (.permissiveSlotChange a d b) ∧ nothing (.stopLineChange a b) ∧
    nothing (.deckHoldNotice a) ∧ nothing (.holderChange a reason) ∧
    nothing (.angleValidityChange a b) ∧ nothing (.pressureValidityChange a b) ∧
    nothing (.lossOfServiceLevel a l) ∧
    exec check s = .next { s.acted check [] with
      axes := s.axes.set a { s.axes[a] with confirm := none } })

/-! ## Doors and zones (05) -/

/-- The three outputs of a position in each state (R86). DOOR HOLD and DOOR RELEASE of one door: their
checks in order; a CLOSED door is held ARMED, or OPENING when it slides; a held door is released,
counted and closes, or is CLOSED at once from ARMED; any other door stays (R87, R92, R93, R95). The
order among separate notices of one act, where no rule gives it, is the model's choice (log entry 54).
That a release tests the edge the latest input event left (log entry 58), and that CLOSING and
OBSTRUCTED in one act are two changes (log entry 15), are the model's choice. -/
def Obligations.DoorHoldAndRelease : Prop :=
  (∀ (k : DoorKind) (x : DoorState),
    ((doorOutputs k x).magnet = true ↔ x = .armed ∨ (x = .openHeld ∧ k = .swing)) ∧
    ((doorOutputs k x).closeDrive = true ↔ x = .closing ∧ k = .sliding) ∧
    ((doorOutputs k x).openDrive = true ↔ x = .opening)) ∧
  (∀ (l : Link) (tag : Byte) (d : Fin 32) (s : State), s.power = .running →
    s.settings.doors[d].kind ≠ .absent →
    let hold := Instr.doorHold l tag d
    let release := Instr.doorRelease l tag d
    let kind := s.settings.doors[d].kind
    let x := s.doors[d]
    let refuses := fun code => exec hold s = .next (s.answered l tag hold [] (.refused code))
    let held : DoorRecord := if kind = .sliding then
        { x with state := .opening, travel := some (s.settings.doors[d].closeLimit * 1000) }
      else { x with state := .armed }
    let freed : DoorRecord := { x with lastRelease := s.clock, retry := 0 }
    let releases := fun (rs : List (Option Link × ReportBody)) (y : DoorRecord) n more =>
      exec release s = .next
        { ((s.answered l tag release rs (.done [byte y.state.code])).countDoor d
              fun k => { k with
                releases := saturate k.releases
                obstructions := if n then saturate k.obstructions else k.obstructions }).withDoor d
            y with
          handed := s.handed ++ more }
    let closing := s.closingRecord d freed
    let closes := fun st => [toBoth (.doorState d x.state st .release)]
    (s.zones[s.settings.doors[d].zone].alarm = true → refuses .zoneInAlarm) ∧
    (s.zones[s.settings.doors[d].zone].alarm = false → x.state ≠ .closed → refuses .state) ∧
    (s.zones[s.settings.doors[d].zone].alarm = false → x.state = .closed → exec hold s = .next
      { (s.answered l tag hold [toBoth (.doorState d .closed held.state .hold)]
          (.done [byte held.state.code])).withDoor d held with
        handed := s.handed ++ s.doorNotices d held }) ∧
    (x.state ≠ .armed → x.state ≠ .opening → x.state ≠ .openHeld →
      exec release s = .next (s.answered l tag release [] (.done [byte x.state.code]))) ∧
    (x.state = .armed → x.seen.closedSwitch = true →
      releases (closes .closed) { freed with state := .closed } false
        (s.doorNotices d { freed with state := .closed })) ∧
    ((x.state = .armed ∧ x.seen.closedSwitch = false) ∨ x.state = .opening ∨ x.state = .openHeld →
      (¬(kind = .sliding ∧ x.seen.edge = true) →
        releases (closes .closing) closing false (s.doorNotices d closing)) ∧
      (kind = .sliding ∧ x.seen.edge = true →
        releases (closes .closing ++ [toBoth (.doorState d .closing .obstructed .edge)])
          (s.obstructedRecord d closing) true
          (s.doorNotices d closing ++ [.sourceChange (.doorState d) ⟨5, true⟩]))))

/-- DOOR HOLD and DOOR RELEASE of a zone act on the fitted doors of that zone alone, in ascending
number, each as for one door: its record, outputs, reports, counters, counts and notices, a sliding door
released with its edge asserted going on from CLOSING to OBSTRUCTED in two changes (log entry 15); they
name the doors not held, or released (R88, R92). The order among separate notices of one act, where no
rule gives it, is the model's choice (log entry 54). That a release tests the edge the latest input
event left is the model's choice (log entry 58). -/
def Obligations.ZoneHoldAndRelease : Prop :=
  ∀ (l : Link) (tag : Byte) (z : Fin 8) (s : State), s.power = .running →
    let hold := Instr.doorHoldZone l tag z
    let release := Instr.doorReleaseZone l tag z
    let ofZone := fun d : Fin 32 => s.settings.doors[d].kind ≠ .absent ∧ s.settings.doors[d].zone = z
    let doors := (List.finRange 32).filter fun d => decide (ofZone d)
    let left := doors.filter fun d => decide (s.doors[d].state ≠ .closed)
    let freed := doors.filter fun d => s.doors[d].state.heldOpen
    let names := fun (ds : List (Fin 32)) (state : Fin 32 → DoorState) => ReplyData.done
      (byte ds.length :: ds.flatMap fun (d : Fin 32) => [byte d, byte (state d).code])
    let released := fun d : Fin 32 => releasedState s.settings.doors[d].kind s.doors[d]
    let holds := s.answeredBy l tag hold (names left fun d => s.doors[d].state) fun u =>
      (doors.filter fun d => decide (s.doors[d].state = .closed)).foldl State.doorHeld u
    let releases := s.answeredBy l tag release (names freed released) fun u =>
      doors.foldl (fun u d => u.doorReleased d .release) u
    let frame := fun (t : State) => t = { s with
      links := t.links
      counters := { t.counters with axes := s.counters.axes }
      doors := t.doors
      chain := { s.chain with outputs := t.chain.outputs }
      openCounts := t.openCounts
      handed := t.handed }
    let kept := fun (t : State) => ∀ d : Fin 32, ¬ofZone d →
      t.doors[d] = s.doors[d] ∧ t.chain.outputs[d] = s.chain.outputs[d]
    (s.zones[z].alarm = true →
      exec hold s = .next (s.answered l tag hold [] (.refused .zoneInAlarm))) ∧
    (s.zones[z].alarm = false → exec hold s = .next holds ∧ frame holds ∧ kept holds ∧
      (∀ d : Fin 32, ofZone d → s.doors[d].state = .closed → holds.doors[d].state =
        if s.settings.doors[d].kind = .sliding then .opening else .armed) ∧
      (∀ d : Fin 32, ofZone d → s.doors[d].state ≠ .closed → holds.doors[d] = s.doors[d]) ∧
      (holds.links.get l).lastReply = some ⟨0x30, tag, names left fun d => s.doors[d].state⟩) ∧
    (exec release s = .next releases ∧ frame releases ∧ kept releases ∧
      (∀ d : Fin 32, ofZone d → releases.doors[d].state = released d) ∧
      (∀ d : Fin 32, ofZone d → s.doors[d].state.heldOpen = false →
        releases.doors[d] = s.doors[d]) ∧
      (releases.links.get l).lastReply = some ⟨0x31, tag, names freed released⟩)

/-- A door input change event at a fitted door that stands CLOSED, ARMED, OPENING or OPEN_HELD (R89 to
R91, R97), and at one that is not fitted or is ISOLATED (R85, R100); the conflict timer runs while both
switches are asserted (R98). A door input change event at a fitted door that stands CLOSING, OBSTRUCTED
or FAULT: the closed condition closes it, counted and, but for FAULT, timed; the edge of a sliding door
that closes obstructs it (R93, R95, R99). The order among separate notices of one act, where no rule
gives it, is the model's choice (log entry 54). Edges judged against the inputs the event before it left
(log entry 39), the start of the conflict timer (log entry 40), a close duration with no upper bound
(log entry 31), and CLOSING and OBSTRUCTED in one act as two changes (log entry 15) are the model's
choice. -/
def Obligations.DoorInputsMoveTheDoor : Prop :=
  (∀ (d : Fin 32) (now : DoorInputs) (s : State), s.power = .running →
    let i := Instr.doorInputChange d now
    let was := s.doors[d].seen
    let both := now.openSwitch = true ∧ now.closedSwitch = true
    let x : DoorRecord := { s.doors[d] with
      seen := now
      conflict := if ¬both then none
        else if was.openSwitch = true ∧ was.closedSwitch = true then s.doors[d].conflict
        else some 1000 }
    let isOpen := now.openSwitch = true ∧ now.closedSwitch = false
    let isClosed := now.closedSwitch = true ∧ now.openSwitch = false
    let stays := exec i s = .next { s.acted i [] with doors := s.doors.set d x }
    let goes := fun (y : DoorRecord) cause => exec i s = .next
      { (s.acted i (doorReports d s.doors[d].state y.state cause)).withDoor d y with
        handed := s.handed.erase i ++ s.doorNotices d y }
    let closes := fun (y : DoorRecord) cause =>
      (¬(s.settings.doors[d].kind = .sliding ∧ now.edge = true) → goes (s.closingRecord d y) cause) ∧
      (s.settings.doors[d].kind = .sliding ∧ now.edge = true → exec i s = .next
        { ((s.acted i [toBoth (.doorState d s.doors[d].state .closing cause),
              toBoth (.doorState d .closing .obstructed .edge)]).countDoor d
              fun k => { k with obstructions := saturate k.obstructions }).withDoor d
            (s.obstructedRecord d (s.closingRecord d y)) with
          handed := s.handed.erase i ++ (s.doorNotices d (s.closingRecord d y) ++
            [.sourceChange (.doorState d) ⟨5, true⟩]) })
    let acts := s.settings.doors[d].kind ≠ .absent
    (¬acts ∨ s.doors[d].state = .isolated → exec i s = .next { s.acted i [] with
      doors := s.doors.set d { s.doors[d] with seen := now } }) ∧
    (acts → s.doors[d].state = .closed →
      (was.closedSwitch = true ∧ now.closedSwitch = false → closes { x with retry := 0 } .passage) ∧
      (¬(was.closedSwitch = true ∧ now.closedSwitch = false) → stays)) ∧
    (acts → s.doors[d].state = .armed →
      (isOpen → goes { x with state := .openHeld } .openSwitch) ∧ (¬isOpen → stays)) ∧
    (acts → s.doors[d].state = .opening →
      (isOpen → goes { x with state := .openHeld, travel := none } .openSwitch) ∧
      (¬isOpen → stays)) ∧
    (acts → s.doors[d].state = .openHeld →
      (isClosed → exec i s = .next
        { ((s.acted i [toBoth (.doorState d .openHeld .closed .closedSwitch)]).countDoor d
              fun k => { k with closures := saturate k.closures }).withDoor d
            { x with state := .closed, lastClosed := s.clock } with
          handed := s.handed.erase i ++ s.doorNotices d { x with state := .closed } }) ∧
      (¬isClosed → was.openSwitch = true ∧ now.openSwitch = false → closes x .lostHold) ∧
      (¬isClosed → ¬(was.openSwitch = true ∧ now.openSwitch = false) → stays))) ∧
  (∀ (d : Fin 32) (now : DoorInputs) (s : State), s.power = .running →
    s.settings.doors[d].kind ≠ .absent →
    let i := Instr.doorInputChange d now
    let was := s.doors[d].seen
    let both := now.openSwitch = true ∧ now.closedSwitch = true
    let x : DoorRecord := { s.doors[d] with
      seen := now
      conflict := if ¬both then none
        else if was.openSwitch = true ∧ was.closedSwitch = true then s.doors[d].conflict
        else some 1000 }
    let isClosed := now.closedSwitch = true ∧ now.openSwitch = false
    let struck := s.doors[d].state = .closing ∧ s.settings.doors[d].kind = .sliding ∧
      now.edge = true ∧ was.edge = false
    let goes := fun (y : DoorRecord) cause f => exec i s = .next
      { ((s.acted i (doorReports d s.doors[d].state y.state cause)).countDoor d f).withDoor d y with
        handed := s.handed.erase i ++ s.doorNotices d y }
    let closed := fun (y : DoorRecord) =>
      goes y .closedSwitch fun k => { k with closures := saturate k.closures }
    (s.doors[d].state = .closing ∨ s.doors[d].state = .obstructed → isClosed →
      closed { x with
        state := .closed
        travel := none
        pause := none
        lastClosed := s.clock
        closeDuration := some (s.uptime - x.mark)
        retry := 0 }) ∧
    (s.doors[d].state = .fault → isClosed →
      closed { x with state := .closed, cause := none, lastClosed := s.clock, retry := 0 }) ∧
    (¬isClosed → struck → goes (s.obstructedRecord d x) .edge
      fun k => { k with obstructions := saturate k.obstructions }) ∧
    (s.doors[d].state = .closing ∨ s.doors[d].state = .obstructed ∨ s.doors[d].state = .fault →
      ¬isClosed → ¬struck → exec i s = .next { s.acted i [] with doors := s.doors.set d x }))

/-- A door's timers: the travel timer faults a door that is CLOSING or OPENING (R90, R94), the pause
timer tries an OBSTRUCTED door again, or faults it where the count equals max retries (R96) or is above
it (log entry 41), and the conflict timer faults any door that is not ISOLATED or already in FAULT (R98,
R99). The order among separate notices of one act, where no rule gives it, is the model's choice (log
entry 54). That an expiry acts whenever its timer runs (log entry 4), that the pause's end tests the
edge the latest input event left (log entry 58), and that CLOSING and OBSTRUCTED in one act are two
changes (log entry 15), are the model's choice. -/
def Obligations.DoorTimersFaultOrRetry : Prop :=
  ∀ (d : Fin 32) (s : State), s.power = .running →
    let travel := Instr.travelTimerExpiry d
    let pause := Instr.pauseTimerExpiry d
    let conflict := Instr.conflictTimerExpiry d
    let x := s.doors[d]
    let goes := fun i (y : DoorRecord) cause => exec i s = .next
      { (s.acted i (doorReports d x.state y.state cause)).withDoor d y with
        handed := s.handed.erase i ++ s.doorNotices d y }
    let faulty := fun (y : DoorRecord) c =>
      { y with state := .fault, travel := none, pause := none, cause := some c }
    let again : DoorRecord := { x with pause := none, retry := x.retry + 1 }
    let blocked := s.settings.doors[d].kind = .sliding ∧ x.seen.edge = true
    (x.travel.isSome = true → x.state = .closing →
      goes travel (faulty x .closeTime) .closeTime) ∧
    (x.travel.isSome = true → x.state = .opening → goes travel (faulty x .openTime) .openTime) ∧
    (x.travel = none → exec travel s = .next (s.acted travel [])) ∧
    (x.pause.isSome = true → x.state = .obstructed → s.settings.doors[d].maxRetries ≤ x.retry →
      goes pause (faulty x .retries) .retries) ∧
    (x.pause.isSome = true → x.state = .obstructed → x.retry < s.settings.doors[d].maxRetries →
      (¬blocked → goes pause (s.closingRecord d again) .retry) ∧
      (blocked → exec pause s = .next
        { ((s.acted pause [toBoth (.doorState d .obstructed .closing .retry),
              toBoth (.doorState d .closing .obstructed .edge)]).countDoor d
              fun k => { k with obstructions := saturate k.obstructions }).withDoor d
            (s.obstructedRecord d (s.closingRecord d again)) with
          handed := s.handed.erase pause ++ (s.doorNotices d (s.closingRecord d again) ++
            [.sourceChange (.doorState d) ⟨5, true⟩]) })) ∧
    (x.pause = none → exec pause s = .next (s.acted pause [])) ∧
    (x.conflict.isSome = true → x.state ≠ .fault → x.state ≠ .isolated →
      goes conflict { faulty x .switches with conflict := none } .switches) ∧
    (x.conflict.isSome = true → x.state = .fault ∨ x.state = .isolated → exec conflict s = .next
      { s.acted conflict [] with doors := s.doors.set d { x with conflict := none } }) ∧
    (x.conflict = none → exec conflict s = .next (s.acted conflict []))

/-- DOOR ISOLATE takes a door out of service with its timers stopped; DOOR RESTORE derives its state
from the debounced inputs, its report naming cause RESTORE for every state (log entry 25), and a sliding
door with its edge asserted goes on to OBSTRUCTED; both at SERVICE, checked in order (R100). The order
among separate notices of one act, where no rule gives it, is the model's choice (log entry 54). So are
the conflict timer that a restore starts (log entry 40) and the two changes of one act (log entry 15).
-/
def Obligations.DoorIsolateAndRestore : Prop :=
  ∀ (l : Link) (tag : Byte) (d : Fin 32) (s : State), s.power = .running →
    s.settings.doors[d].kind ≠ .absent →
    let isolate := Instr.doorIsolate l tag d
    let restore := Instr.doorRestore l tag d
    let x := s.doors[d]
    let now := s.chain.levels[d]
    let idle : DoorRecord := { x with travel := none, pause := none, conflict := none, cause := none }
    let out : DoorRecord := { idle with state := .isolated, retry := 0 }
    let back : DoorRecord := { idle with
      seen := now
      conflict := if now.openSwitch = true ∧ now.closedSwitch = true then some 1000 else none }
    let returns := fun (y : DoorRecord) => exec restore s = .next
      { (s.answered l tag restore [toBoth (.doorState d .isolated y.state .restore)]
          (.done [byte y.state.code])).withDoor d y with
        handed := s.handed ++ s.doorNotices d y }
    (s.station.level.get l = .operate →
      exec isolate s = .next (s.answered l tag isolate [] (.refused .level)) ∧
      exec restore s = .next (s.answered l tag restore [] (.refused .level))) ∧
    (s.station.level.get l = .service →
      (x.state = .isolated →
        exec isolate s = .next (s.answered l tag isolate [] (.done []))) ∧
      (x.state ≠ .isolated →
        exec isolate s = .next
          { (s.answered l tag isolate [toBoth (.doorState d x.state .isolated .isolate)]
              (.done [])).withDoor d out with
            handed := s.handed ++ s.doorNotices d out } ∧
        exec restore s = .next (s.answered l tag restore [] (.refused .state))) ∧
      (x.state = .isolated → now.closedSwitch = true → returns { back with state := .closed }) ∧
      (x.state = .isolated → now.closedSwitch = false →
        ¬(s.settings.doors[d].kind = .sliding ∧ now.edge = true) →
        returns (s.closingRecord d back)) ∧
      (x.state = .isolated → now.closedSwitch = false → s.settings.doors[d].kind = .sliding →
        now.edge = true → exec restore s = .next
          { ((s.answered l tag restore [toBoth (.doorState d .isolated .closing .restore),
                toBoth (.doorState d .closing .obstructed .edge)] (.done [5])).countDoor d
                fun k => { k with obstructions := saturate k.obstructions }).withDoor d
              (s.obstructedRecord d (s.closingRecord d back)) with
            handed := s.handed ++ (s.doorNotices d (s.closingRecord d back) ++
              [.sourceChange (.doorState d) ⟨5, true⟩]) }))

/-- A zone's condition holds by its enabled fire input or its manual flag: FIRE z and ZONE ALARM
evaluate it (R102, R103). At its start the zone enters ALARM, reports it, releases its held doors, each
with the whole effect of a release, and hands the trim on before its EVACUATE post (log entry 26), its
alarm source and its source changes; at its end it returns to NORMAL and hands that on (R105, R106). The
order among separate notices of one act, where no rule gives it, is the model's choice (log entry 54).
That a release tests the edge the latest input event left (log entry 58), CLOSING and OBSTRUCTED in one
act as two changes (log entry 15), and the place of an undefined action of ZONE ALARM among its checks
(log entry 20) are the model's choice. -/
def Obligations.ZoneAlarmEntersAndLeaves : Prop :=
  ∀ (l : Link) (tag : Byte) (z : Fin 8) (flag : Bool) (s : State), s.power = .running →
    let fire := Instr.fireInputChange z flag
    let manual := Instr.zoneAlarm l tag z (if flag then 1 else 0)
    let x := s.zones[z]
    let lit := (s.settings.zones[z].fireEnabled && x.fire) || flag
    let entered := s.actedBy fire fun u => u.zoneJudged z { x with fire := flag } .fireInput
    let raised := s.answeredBy l tag manual (.done [boolByte lit]) fun u =>
      u.zoneJudged z { x with manual := flag } .manual
    let doors := fun (t : State) => ∀ d : Fin 32, t.doors[d].state =
      if s.settings.doors[d].kind ≠ .absent ∧ s.settings.doors[d].zone = z ∧ x.alarm = false ∧
          t.zones[z].alarm = true then releasedState s.settings.doors[d].kind s.doors[d]
      else s.doors[d].state
    exec fire s = .next entered ∧
    (entered.zones[z].alarm = ((s.settings.zones[z].fireEnabled && flag) || x.manual)) ∧
    doors entered ∧
    (l = .bridge → exec manual s = .next raised ∧ raised.zones[z].alarm = lit ∧ doors raised) ∧
    (l = .localLink →
      exec manual s = .next (s.answered l tag manual [] (.refused .noAuthority))) ∧
    (∀ w action, 8 ≤ w ∨ 2 ≤ action → exec (.zoneAlarm l tag w action) s =
      .next (s.answered l tag (.zoneAlarm l tag w action) [] (.refused .badField)))

/-! ## The permissive evaluator (06) -/

/-- A source change recompares every term on the source, recomputes every slot that lists a term whose
value changed, and hands on and reports each changed result in ascending slot order (R110 to R116). The
order among separate notices of one act, where no rule gives it, is the model's choice (log entry 54).
-/
def Obligations.SourceChangeReevaluates : Prop :=
  (∀ (src : Source) (v : Reading) (s : State), s.power = .running →
    let i := Instr.sourceChange src v
    let old := s.evaluator.values
    let channel := match src with
      | .channel _ => true
      | _ => false
    let values : Vector Bool 64 := Vector.ofFn fun t =>
      if s.settings.terms[t].source = some src then
        (!channel || v.valid) && compares s.settings.terms[t].cmp v.value s.settings.terms[t].const
      else old[t]
    let slots := s.slotsAfter s.settings values (listsMoved s.settings old values)
    exec i s = .next { s.acted i (s.slotReports slots (some src)) with
      evaluator := ⟨values, slots⟩
      handed := s.handed.erase i ++ s.slotNotices slots }) ∧
  (∀ v k : Int,
    (compares .eq v k = true ↔ v = k) ∧ (compares .ne v k = true ↔ v ≠ k) ∧
    (compares .lt v k = true ↔ v < k) ∧ (compares .ge v k = true ↔ k ≤ v) ∧
    (compares .bitSet v k = true ↔
      ∃ n, n < 16 ∧ (BitVec.ofInt 16 v).getLsbD n = true ∧ (BitVec.ofInt 16 k).getLsbD n = true) ∧
    compares .bitClr v k = !compares .bitSet v k)

/-- TERM WRITE: its checks in their order, the settings taken, and the term's value compared afresh with
the slots that list it (R117, R120). PERMISSIVE WRITE: its checks in their order, and the slot
recomputed from the list written (R118, R120). The order among separate notices of one act, where no
rule gives it, is the model's choice (log entry 54). -/
def Obligations.TableWritesCheckThenEvaluate : Prop :=
  (∀ (l : Link) (tag : Byte) (t : Fin 64) (data : TermData) (s : State), s.power = .running →
    let i := Instr.termWrite l tag t data
    let refuses := fun code => exec i s = .next (s.answered l tag i [] (.refused code))
    let busy := s.store.inFlight.isSome = true ∨
      ∃ p : Fin 16, s.guarded p ∧ ∃ e ∈ s.settings.permissives[p], e.term = t
    let named := fun (src : Source) =>
      (∀ a, src = .axisState a → s.settings.axes[a].fitted = true) ∧
      (∀ d, src = .doorState d → s.settings.doors[d].kind ≠ .absent)
    let taken := fun (x : TermSettings) =>
      let y := { s.settings with terms := s.settings.terms.set t x }
      let values := s.evaluator.values.set t
        (match x.source with
          | none => false
          | some (.channel k) => s.channels[k].valid && compares x.cmp s.channels[k].scaled x.const
          | some src => compares x.cmp (s.sourceValue src).value x.const)
      let slots := s.slotsAfter y values (listsMoved y s.evaluator.values values)
      (busy → refuses .busy) ∧
      (¬busy → looped y = true → refuses .state) ∧
      (¬busy → looped y = false → exec i s = .next
        { s.answered l tag i (s.slotReports slots none) (.done (byte t :: x.data)) with
          settings := y
          store := { s.store with unstored := true }
          evaluator := ⟨values, slots⟩
          handed := s.handed ++ s.slotNotices slots })
    (s.station.level.get l = .operate → refuses .level) ∧
    (s.station.level.get l = .service →
      (data.kind = 0 → taken ⟨none, .eq, 0⟩) ∧
      (data.kind ≠ 0 → ∀ cmp, Comparison.ofCode data.cmp = some cmp →
        ∀ src, Source.ofCode data.kind data.index = some src →
          (named src → taken ⟨some src, cmp, data.const⟩) ∧ (¬named src → refuses .badField)) ∧
      (data.kind ≠ 0 → Comparison.ofCode data.cmp = none ∨ Source.ofCode data.kind data.index = none →
        refuses .badField) ∧
      (∀ n, 63 < n → exec (.termWrite l tag n data) s =
        .next (s.answered l tag (.termWrite l tag n data) [] (.refused .badField))))) ∧
  (∀ (l : Link) (tag : Byte) (p : Fin 16) (es : List PermEntry) (s : State), s.power = .running →
    let i := Instr.permissiveWrite l tag p (es.map fun e => (e.term.val, e.invert.toNat))
    let refuses := fun code => exec i s = .next (s.answered l tag i [] (.refused code))
    let y := { s.settings with permissives := s.settings.permissives.set p es }
    let slots := s.slotsAfter y s.evaluator.values fun q => decide (q = p)
    (s.station.level.get l = .operate → refuses .level) ∧
    (s.station.level.get l = .service →
      (8 < es.length → refuses .badLength) ∧
      (es.length ≤ 8 → s.store.inFlight.isSome = true ∨ s.guarded p → refuses .busy) ∧
      (es.length ≤ 8 → s.store.inFlight = none → ¬s.guarded p → looped y = true →
        refuses .state) ∧
      (es.length ≤ 8 → s.store.inFlight = none → ¬s.guarded p → looped y = false →
        exec i s = .next
          { s.answered l tag i (s.slotReports slots none)
              (.done [boolByte (resultOf es s.evaluator.values)]) with
            settings := y
            store := { s.store with unstored := true }
            evaluator := { s.evaluator with slots := slots }
            handed := s.handed ++ s.slotNotices slots }) ∧
      (∀ (n : Nat) (xs : List (Nat × Nat)), xs.length ≤ 8 →
        (15 < n ∨ ∃ e ∈ xs, 63 < e.1 ∨ 1 < e.2) → exec (.permissiveWrite l tag n xs) s =
          .next (s.answered l tag (.permissiveWrite l tag n xs) [] (.refused .badField)))))

/-- The test of the writes finds a loop exactly where some slot can be reached from itself through the
output lines (R119). -/
def Obligations.LoopTestFindsEveryLoop : Prop :=
  ∀ x : Settings, looped x = true ↔ ∃ p : Fin 16, Relation.TransGen (leads x) p p

/-! ## Driver calls (07) -/

/-- CALL POST: its checks in their order, and the call it admits with its fields as taken; an automatic
post is admitted where no call of its origin stands (R124 to R128, R135). The number an admission gives
is the first, from the counter on and wrapping from 255 to 1, that no call in the table holds (R125). -/
def Obligations.PostsAdmitCalls : Prop :=
  (∀ (s : State), s.power = .running →
    (∀ (l : Link) (tag : Byte) (data : CallData),
      let i := Instr.callPost l tag data
      let refuses := fun code => exec i s = .next (s.answered l tag i [] (.refused code))
      (CallKind.ofCode data.kind = none ∨ 1 < data.chime ∨ 2 < data.ackMode → refuses .badField) ∧
      (∀ k, CallKind.ofCode data.kind = some k → data.chime ≤ 1 → data.ackMode ≤ 2 →
        let forbidden := k = .standClear ∨ (k = .evacuate ∧ l = .localLink)
        let inAlarm := k = .recall ∧ ∃ z : Fin 8, s.zones[z].alarm = true ∧
          s.settings.zones[z].lanes &&& data.lanes ≠ 0
        (forbidden → refuses .noAuthority) ∧
        (¬forbidden → 63 < data.pattern ∨ data.lanes = 0 → refuses .badField) ∧
        (¬forbidden → data.lanes ≠ 0 → ∀ p : Fin 64, p.val = data.pattern →
          (inAlarm → refuses .zoneInAlarm) ∧
          (¬inAlarm → 8 ≤ s.calls.externals → refuses .tableFull) ∧
          (¬inAlarm → s.calls.externals < 8 →
            let c := s.callIn
              { number := 0
                kind := k
                priority := if k = .evacuate then 7 else max 1 (min data.priority 5)
                origin := .link l
                lanes := data.lanes
                pattern := p
                chime := decide (k = .evacuate ∨ data.chime = 1)
                ack := decide (k ≠ .evacuate ∧ (data.ackMode = 1 ∨ (data.ackMode = 0 ∧ k = .recall)))
                acked := 0
                duration := min data.duration 3600
                timer := none
                admitted := 0
                sequence := 0 }
            exec i s = .next ((s.answered l tag i [toBoth (.callAdmitted c)]
              (.done ([byte c.number] ++ be32 c.sequence ++
                [byte c.priority, boolByte c.chime, boolByte c.ack] ++ be16 c.duration))).withCall
              c))))) ∧
    (∀ a : Fin 4,
      let i := Instr.standClearPost a
      let c := s.callIn ⟨0, .standClear, 6, .axis a, s.settings.axes[a].warningLanes,
        s.settings.axes[a].warningPattern, false, false, 0, 0, none, 0, 0⟩
      ((∃ d ∈ s.calls.table, d.origin = .axis a) → exec i s = .next (s.acted i [])) ∧
      ((∀ d ∈ s.calls.table, d.origin ≠ .axis a) →
        exec i s = .next ((s.acted i [toBoth (.callAdmitted c)]).withCall c))) ∧
    (∀ z : Fin 8,
      let i := Instr.evacuatePost z
      let c := s.callIn ⟨0, .evacuate, 7, .zone z, s.settings.zones[z].lanes,
        s.settings.zones[z].evacPattern, true, false, 0, 0, none, 0, 0⟩
      ((∃ d ∈ s.calls.table, d.origin = .zone z) → exec i s = .next (s.acted i [])) ∧
      ((∀ d ∈ s.calls.table, d.origin ≠ .zone z) →
        exec i s = .next ((s.acted i [toBoth (.callAdmitted c)]).withCall c)))) ∧
  (∀ t : CallTable, t.table.length < 255 → 1 ≤ t.number → t.number ≤ 255 →
    (∀ c ∈ t.table, c.number ≠ t.freeNumber) ∧
    ∃ k, k < 255 ∧ t.freeNumber = (t.number - 1 + k) % 255 + 1 ∧
      ∀ j, j < k → ∃ c ∈ t.table, c.number = (t.number - 1 + j) % 255 + 1)

/-- A cancel, the removal of a STAND_CLEAR call and an expired duration each take the calls they name
out of the table, recorded and reported in table order; the CHIME timer's end releases the line (R129 to
R132, R135). A zone's withdrawal of its lanes trims every RECALL call, and a press acknowledges its lane
for every call that waits for it; a call left with no lanes, or fully acknowledged, is removed (R129,
R133, R134). -/
def Obligations.CallsAreRemovedTrimmedAndAnswered : Prop :=
  (∀ (s : State), s.power = .running →
    let stay := fun (p : Call → Bool) => s.calls.table.filter fun c => !p c
    let gone := fun (p : Call → Bool) (r : RemovalReason) =>
      (s.calls.table.filter p).map (fun c => (c, r))
    (∀ (l : Link) (tag : Byte) (n : Nat),
      let i := Instr.callCancel l tag n
      let refuses := fun code => exec i s = .next (s.answered l tag i [] (.refused code))
      let p := fun (c : Call) => decide (c.number = n)
      (n = 0 → refuses .badField) ∧
      (n ≠ 0 → s.calls.table.find? p = none → refuses .notFound) ∧
      (n ≠ 0 → ∀ c, s.calls.table.find? p = some c →
        (c.kind = .standClear → refuses .state) ∧
        (c.kind = .evacuate → l = .localLink → refuses .noAuthority) ∧
        (c.kind ≠ .standClear → c.kind ≠ .evacuate ∨ l = .bridge → exec i s = .next
          ((s.answered l tag i (removalReports (gone p .cancelled)) (.done [byte n])).withRemovals
            (stay p) (gone p .cancelled))))) ∧
    (∀ a : Fin 4,
      let i := Instr.standClearRemoval a
      let p := fun (c : Call) => decide (c.origin = .axis a)
      exec i s = .next ((s.acted i (removalReports (gone p .axisIdle))).withRemovals (stay p)
        (gone p .axisIdle))) ∧
    (∀ n : Nat,
      let i := Instr.durationTimerExpiry n
      let p := fun (c : Call) => decide (c.number = n ∧ c.timer ≠ none)
      exec i s = .next ((s.acted i (removalReports (gone p .expired))).withRemovals (stay p)
        (gone p .expired))) ∧
    (let i := Instr.chimeTimerExpiry;
      (s.calls.chimeTimer = none → exec i s = .next (s.acted i [])) ∧
      (s.calls.chimeTimer ≠ none → exec i s = .next { s.acted i [] with
        calls := { s.calls with chimeTimer := none, chime := false } }))) ∧
  (∀ (s : State), s.power = .running →
    (∀ z : Fin 8,
      let i := Instr.recallTrim z
      let zone := s.settings.zones[z].lanes
      let meets := fun (c : Call) => decide (c.kind = .recall ∧ c.lanes &&& zone ≠ 0)
      let trimmed := fun (c : Call) =>
        if meets c then { c with lanes := c.lanes &&& ~~~zone, acked := c.acked &&& ~~~zone } else c
      let ends := fun (c : Call) =>
        if !meets c then none
        else if (trimmed c).lanes = 0 then some RemovalReason.zoneAlarm
        else if c.ack ∧ (trimmed c).acked = (trimmed c).lanes then some .answered
        else none
      let gone := s.calls.table.filterMap fun c => (ends c).map fun r => (trimmed c, r)
      exec i s = .next ((s.acted i (removalReports gone)).withRemovals
        ((s.calls.table.filter fun c => (ends c).isNone).map trimmed) gone)) ∧
    (∀ n : Fin 16,
      let i := Instr.laneAcknowledgement n
      let meets := fun (c : Call) =>
        c.ack && c.lanes.getLsbD n.val && !c.acked.getLsbD n.val
      let pressed := fun (c : Call) =>
        if meets c then { c with acked := c.acked ||| BitVec.twoPow 16 n.val } else c
      let ends := fun (c : Call) => meets c && decide ((pressed c).acked = c.lanes)
      let gone := (s.calls.table.filter ends).map fun c => (pressed c, RemovalReason.answered)
      exec i s = .next ((s.acted i (removalReports gone)).withRemovals
        ((s.calls.table.filter fun c => !ends c).map pressed) gone)))

/-! ## The lane boards (08) -/

/-- A frame start loads every fitted board from its winner and clears every board above, the pressed
buttons of those released in ascending number (log entry 34); with N 0 there is no frame, and the end of
the last one clears every board (R139, R140, R142, R143). Each acts at once, whatever frame is in
progress (log entry 32). The winner of a board is addressed to its lane, and no call addressed to the
lane has a higher priority, or the same and an earlier sequence number (R141). Millisecond by
millisecond a frame presents the boards' segments, from the highest board to board 0, and none in the
blanking interval (R139). That every frame start clears the boards above is the model's choice (log
entry 43). -/
def Obligations.FramesLoadTheWinners : Prop :=
  (∀ (s : State), s.power = .running →
    let n := s.settings.boards
    let tells := fun (bs : List (Fin 16)) => bs.map (fun b =>
      Instr.sourceChange (.laneButton b) ⟨0, true⟩)
    let reports := fun (bs : List (Fin 16)) => bs.map (fun b => toBoth (.laneButton b false))
    (let i := Instr.boardFrameStart;
      (n = 0 → exec i s = .next (s.acted i [])) ∧
      (1 ≤ n → exec i s = .next { s.acted i (reports (s.releasedBoards n)) with
        scanner :=
          { shown := Vector.ofFn fun b =>
              if b.val < n then s.loadedBoard b else ⟨none, none, false, 0⟩
            buttons := Vector.ofFn fun b =>
              if b.val < n then s.scanner.buttons[b] else ⟨false, 0⟩
            frame := some ⟨n, s.settings.blanking, 0⟩
            flashLit := decide (s.clock.toNat / 500 % 2 = 0) }
        handed := s.handed.erase i ++ tells (s.releasedBoards n) })) ∧
    (let i := Instr.lastScanFrameEnd;
      (1 ≤ n → exec i s = .next (s.acted i [])) ∧
      (n = 0 → exec i s = .next { s.acted i (reports (s.releasedBoards 0)) with
        scanner :=
          { s.scanner with
            shown := Vector.replicate 16 ⟨none, none, false, 0⟩
            buttons := Vector.replicate 16 ⟨false, 0⟩
            frame := none }
        handed := s.handed.erase i ++ tells (s.releasedBoards 0) }))) ∧
  (∀ (cs : List Call) (b : Fin 16),
    (winnerOf cs b = none ↔ ∀ c ∈ cs, c.lanes.getLsbD b.val = false) ∧
    (∀ w, winnerOf cs b = some w → w ∈ cs ∧ w.lanes.getLsbD b.val = true ∧
      ∀ c ∈ cs, c.lanes.getLsbD b.val = true →
        c.priority ≤ w.priority ∧ (c.priority = w.priority → w.sequence ≤ c.sequence))) ∧
  (∀ x : Scanner,
    (x.frame = none → x.driven = none) ∧
    ∀ f, x.frame = some f →
      (f.boards ≤ f.position → x.driven = none) ∧
      ∀ b : Fin 16, f.position + b.val + 1 = f.boards → x.driven = some (b, x.shown[b].segments))

/-- A button takes a new level at the third sample in a row that differs, which is handed on and, for a
press, acknowledges the lane; sampled are the buttons of the boards fitted in the frame in progress, in
ascending order, and LANE BUTTON CHANGE does nothing at any other (log entry 34); PATTERN WRITE replaces
one table entry (R144 to R146). The order among separate notices of one act, where no rule gives it, is
the model's choice (log entry 54). -/
def Obligations.ButtonsAndPatterns : Prop :=
  (∀ (levels : Vector Bool 16) (s : State), s.power = .running →
    let i := Instr.buttonSample levels
    let read := fun (b : Fin 16) => match s.scanner.frame with
      | some f => decide (b.val < f.boards)
      | none => false
    let differs := fun (b : Fin 16) => levels[b] != s.scanner.buttons[b].pressed
    let moved := (List.finRange 16).filter fun b =>
      read b && differs b && decide (2 ≤ s.scanner.buttons[b].count)
    exec i s = .next { s.acted i (moved.map fun b => toBoth (.laneButton b levels[b])) with
      scanner := { s.scanner with
        buttons := Vector.ofFn fun b =>
          if read b = false then s.scanner.buttons[b]
          else if differs b = false then { s.scanner.buttons[b] with count := 0 }
          else if s.scanner.buttons[b].count < 2 then
            { s.scanner.buttons[b] with count := s.scanner.buttons[b].count + 1 }
          else ⟨levels[b], 0⟩ }
      handed := s.handed.erase i ++ moved.flatMap fun b =>
        Instr.sourceChange (.laneButton b) ⟨if levels[b] then 1 else 0, true⟩ ::
        (if levels[b] then [.laneAcknowledgement b] else []) }) ∧
  (∀ (n : Fin 16) (pressed : Bool) (s : State), s.power = .running →
    let i := Instr.laneButtonChange n pressed
    let read := ∃ f, s.scanner.frame = some f ∧ n.val < f.boards
    (¬read ∨ s.scanner.buttons[n].pressed = pressed → exec i s = .next (s.acted i [])) ∧
    (read → s.scanner.buttons[n].pressed ≠ pressed →
      exec i s = .next { s.acted i [toBoth (.laneButton n pressed)] with
        scanner := { s.scanner with buttons := s.scanner.buttons.set n ⟨pressed, 0⟩ }
        handed := s.handed.erase i ++
          (.sourceChange (.laneButton n) ⟨if pressed then 1 else 0, true⟩ ::
            (if pressed then [.laneAcknowledgement n] else [])) })) ∧
  (∀ (l : Link) (tag : Byte) (p : Fin 64) (segments : Segments) (s : State), s.power = .running →
    let i := Instr.patternWrite l tag p segments
    let refuses := fun code => exec i s = .next (s.answered l tag i [] (.refused code))
    (s.station.level.get l = .operate → refuses .level) ∧
    (s.station.level.get l = .service →
      (∀ n, 63 < n → exec (.patternWrite l tag n segments) s =
        .next (s.answered l tag (.patternWrite l tag n segments) [] (.refused .badField))) ∧
      (s.store.inFlight.isSome = true → refuses .busy) ∧
      (s.store.inFlight = none → exec i s = .next { s.answered l tag i [] (.done []) with
        settings := { s.settings with patterns := s.settings.patterns.set p segments }
        store := { s.store with unstored := true } })))

/-! ## The alarm unit (09) -/

/-- A change of a condition flag acts on its source's entry, and the trip lines are re-evaluated, with
their reports and what they hand on; an event that leaves the flag as it was does nothing (R150, R151,
R153, R157, R158); the report of a removal carries the entry's occurrences and first raised and the deck
time (log entry 38). A momentary raise makes an entry that has returned already, or counts one more on
it; a raise that changes nothing of it, at 255 occurrences in the same millisecond, is not reported (log
entry 49); the trip lines are re-evaluated (R152, R153, R157, R158). The order among separate notices of
one act, where no rule gives it, is the model's choice (log entry 54). -/
def Obligations.AlarmEntriesFollowTheirSources : Prop :=
  (∀ (src : CondSource) (active : Bool) (s : State), s.power = .running →
    let i := Instr.alarmSourceChange src active
    let code := src.code
    let es := s.alarms.list
    let becomes := fun (new : List AlarmEntry) (report : ReportBody) => exec i s = .next
      { { s.acted i (toBoth report :: s.tripReports new) with
            alarms := { s.alarms with flags := s.alarms.flags.set code active } }.withAlarms new with
        handed := s.handed.erase i ++ s.tripNotices new }
    (s.alarms.flags[code] = active → exec i s = .next (s.acted i [])) ∧
    (s.alarms.flags[code] ≠ active → active = true →
      (es.find? (fun e => e.source = code) = none →
        becomes (es ++ [⟨code, .activeUnacked, s.clock, s.clock, 1⟩])
          (.alarmChanged code none (some .activeUnacked) 1 s.clock s.clock .active)) ∧
      (∀ e, es.find? (fun e => e.source = code) = some e → e.state = .returnedUnacked →
        let n := min (e.occurrences + 1) 255
        becomes (replaced es code ⟨code, .activeUnacked, e.first, s.clock, n⟩)
          (.alarmChanged code (some .returnedUnacked) (some .activeUnacked) n e.first s.clock
            .active))) ∧
    (s.alarms.flags[code] ≠ active → active = false →
      ∀ e, es.find? (fun e => e.source = code) = some e →
        (e.state = .activeUnacked →
          becomes (replaced es code { e with state := .returnedUnacked, last := s.clock })
            (.alarmChanged code (some .activeUnacked) (some .returnedUnacked) e.occurrences e.first
              s.clock .returned)) ∧
        (e.state = .activeAcked →
          becomes (es.filter fun x => x.source ≠ code)
            (.alarmChanged code (some .activeAcked) none e.occurrences e.first s.clock .returned)))) ∧
  (∀ (src : MomentarySource) (s : State), s.power = .running →
    let i := Instr.momentaryRaise src
    let code := src.code
    let es := s.alarms.list
    let becomes := fun (new : List AlarmEntry) (report : ReportBody) => exec i s = .next
      { (s.acted i (toBoth report :: s.tripReports new)).withAlarms new with
        handed := s.handed.erase i ++ s.tripNotices new }
    (es.find? (fun e => e.source = code) = none →
      becomes (es ++ [⟨code, .returnedUnacked, s.clock, s.clock, 1⟩])
        (.alarmChanged code none (some .returnedUnacked) 1 s.clock s.clock .momentary)) ∧
    (∀ e, es.find? (fun e => e.source = code) = some e → e.state = .returnedUnacked →
      let x := { e with last := s.clock, occurrences := min (e.occurrences + 1) 255 }
      (x ≠ e → becomes (replaced es code x)
        (.alarmChanged code (some .returnedUnacked) (some .returnedUnacked) x.occurrences e.first
          s.clock .momentary)) ∧
      (x = e → exec i s = .next { (s.acted i (s.tripReports es)).withAlarms es with
        handed := s.handed.erase i ++ s.tripNotices es })))

/-- ALARM ACK acknowledges the entry it names, or with 255 every entry in list order, removes those that
have returned, each reported with its occurrences and first raised and the deck time of the removal (log
entry 38), and answers with the number changed (R153, R154, R157, R158). The order among separate
notices of one act, where no rule gives it, is the model's choice (log entry 54). -/
def Obligations.AlarmAckAcknowledges : Prop :=
  ∀ (l : Link) (tag : Byte) (s : State), s.power = .running →
    (s.alarms.list.map (·.source)).Nodup →
    let es := s.alarms.list
    let acks := fun (n : Nat) (picks : AlarmEntry → Bool) =>
      let i := Instr.alarmAck l tag n
      let new := es.filterMap fun e => if picks e then acknowledged s.clock e else some e
      let changed := es.filter fun e => picks e && decide (e.state ≠ .activeAcked)
      let reports := changed.map fun e => toBoth (.alarmChanged e.source (some e.state)
        ((acknowledged s.clock e).map (·.state)) e.occurrences e.first s.clock .ack)
      exec i s = .next
        { (s.answered l tag i (reports ++ s.tripReports new)
            (.done [byte changed.length])).withAlarms new with
          handed := s.handed ++ s.tripNotices new }
    acks 255 (fun _ => true) ∧
    (∀ code : Fin 60, (∃ e ∈ es, e.source = code) → acks code fun e => decide (e.source = code)) ∧
    (∀ code : Fin 60, (∀ e ∈ es, e.source ≠ code) → exec (.alarmAck l tag code) s =
      .next (s.answered l tag (.alarmAck l tag code) [] (.refused .notFound))) ∧
    (∀ n, 60 ≤ n → n ≠ 255 → exec (.alarmAck l tag n) s =
      .next (s.answered l tag (.alarmAck l tag n) [] (.refused .badField)))

/-- A new source value sets the level of every line that follows the source, and each change is handed
on, in ascending line order (R159). A line of source FIXED follows its held value alone, so that a
source change naming FIXED does nothing: the model's inference from R159 and R160 (log entry 48). OUTPUT
SET writes that value (R159, R160). -/
def Obligations.OutputLinesFollow : Prop :=
  (∀ (src : OutSource) (value : Bool) (s : State), s.power = .running →
    let i := Instr.outputLineSourceChange src value
    let lines := s.linesFollowing src value
    (src = .fixed → exec i s = .next (s.acted i [])) ∧
    (src ≠ .fixed → exec i s = .next { s.acted i [] with
      alarms := { s.alarms with lines := lines }
      handed := s.handed.erase i ++ s.lineNotices lines })) ∧
  (∀ (l : Link) (tag : Byte) (k : Fin 8) (v : Bool) (s : State), s.power = .running →
    let i := Instr.outputSet l tag k v.toNat
    let level := v != s.settings.outputs[k].invert
    let lines := s.alarms.lines.set k ⟨v, level⟩
    (s.settings.outputs[k].source ≠ .fixed →
      exec i s = .next (s.answered l tag i [] (.refused .state))) ∧
    (s.settings.outputs[k].source = .fixed → exec i s = .next
      { s.answered l tag i [] (.done [boolByte level]) with
        alarms := { s.alarms with lines := lines }
        handed := s.handed ++ s.lineNotices lines }) ∧
    (∀ n m, 7 < n ∨ 1 < m → exec (.outputSet l tag n m) s =
      .next (s.answered l tag (.outputSet l tag n m) [] (.refused .badField))))

/-! ## The link controllers (10) -/

/-- The receiver's table: the bytes of each state, the discards of a bad LENGTH and of a missing stop
bit, and the abort of a gap, with their counters (R165). A complete frame is judged by its CRC: a bad
one is counted and dropped; a good one is counted, keeps its link up and waits, or is lost to overrun.
FRAME_COMPLETE stands for its last byte, the model's choice (log entry 12) (R165, R166, R169). A good
frame of a link whose loss the station controller has not yet taken has that loss taken first: each axis
it held has passed, and each request it made is removed (R75, R76, R169; log entry 2). The order among
separate notices of one act, where no rule gives it, is the model's choice (log entry 54). That a
FRAME_DISCARD whose cause the state of the receiver cannot have changes nothing is the model's choice
(log entry 46). -/
def Obligations.ReceiverAssemblesAndJudgesFrames : Prop :=
  (∀ (l : Link) (b : Byte) (s : State), s.power = .running →
    let c := s.links.get l
    let k := s.counters.links.get l
    let hunts : LinkController := { c with receiver := .hunt, assembly := none }
    let i := Instr.byteReceived l b
    let becomes := fun (i : Instr) c k => exec i s = .next ((s.taken i).withLink l c k).pump
    let discards := fun (i : Instr) => becomes i hunts { k with crc := min (k.crc + 1) 4294967295 }
    let stands := fun (i : Instr) => exec i s = .next (s.acted i [])
    (c.receiver = .hunt → b = 0xC3 →
      becomes i { c with receiver := .length, assembly := some [] } k) ∧
    (c.receiver = .hunt → b ≠ 0xC3 → stands i) ∧
    (c.receiver = .length → 2 ≤ b.toNat → b.toNat ≤ 250 →
      becomes i { c with receiver := .body, assembly := some [b] } k) ∧
    (c.receiver = .length → b.toNat < 2 ∨ 250 < b.toNat → discards i) ∧
    (c.receiver = .body → ∀ bs, c.assembly = some bs →
      bs.length + 1 < (bs.headD 0).toNat + 3 → bs ≠ [] →
      becomes i { c with assembly := some (bs ++ [b]) } k) ∧
    (c.receiver = .hunt → stands (.gapAbort l) ∧ stands (.frameDiscard l .missingStop)) ∧
    (c.receiver ≠ .hunt →
      becomes (.gapAbort l) hunts { k with gap := min (k.gap + 1) 4294967295 } ∧
      discards (.frameDiscard l .missingStop)) ∧
    (c.receiver = .length → discards (.frameDiscard l .badLength))) ∧
  (∀ (l : Link) (kind tag : Byte) (payload : List Byte) (s : State), s.power = .running →
    let f : Frame := ⟨kind, tag, payload⟩
    (∀ crc : BitVec 16,
      let i := Instr.frameComplete l kind tag payload crc
      exec i s = .next ((s.taken i).frameIn l f crc).pump) ∧
    (∀ n hi b : Byte, (s.links.get l).receiver = .body →
      (s.links.get l).assembly = some (n :: kind :: tag :: (payload ++ [hi])) →
      n.toNat = payload.length + 2 →
      let i := Instr.byteReceived l b
      exec i s = .next ((s.taken i).frameIn l f (hi ++ b)).pump) ∧
    (.stationLinkLoss l ∈ s.handed →
      let crc := crc16 (byte (payload.length + 2) :: kind :: tag :: payload)
      ∃ t, exec (.frameComplete l kind tag payload crc) s = .next t ∧
        (t.links.get l).state = .up ∧
        ∀ a : Fin 4, t.holder a =
            (if s.holder a = some l then s.station.auth[a].request.map (·.requester) else s.holder a) ∧
          (t.station.auth[a].request = none ∨ s.holder a = none ∨
            (s.holder a ≠ some l ∧ t.station.auth[a].request = s.station.auth[a].request ∧
              ∀ r, t.station.auth[a].request = some r → r.requester ≠ l))))

/-- The supervision timer's end in UP loses the link; a restart clears it; a transmission that ends
frees the line; REPORT SELECT replaces the selection (R84, R169, R171 to R173). The order among separate
notices of one act, where no rule gives it, is the model's choice (log entry 54). That the expiry acts
whenever the supervision timer runs is the model's choice (log entry 4). -/
def Obligations.LinkEventsAndRequests : Prop :=
  ∀ (l : Link) (tag : Byte) (s : State), s.power = .running →
    let c := s.links.get l
    (let i := Instr.linkLost l;
      (c.timer = none → exec i s = .next (s.acted i [])) ∧
      (c.timer ≠ none → c.state = .up → exec i s = .next
        { ((s.taken i).withLink l { c with state := .lost, timer := none }
            (s.counters.links.get l)).pump with
          handed := s.handed.erase i ++
            [.alarmSourceChange (.linkLost l) true, .stationLinkLoss l] })) ∧
    (let i := Instr.receiveBreak l;
      exec i s = .next { ((s.taken i).linkRestarted l).pump with
        handed := s.handed.erase i ++ s.restartNotices l }) ∧
    (let i := Instr.linkRestart l tag;
      exec i s = .next
        { (((s.openRequest l i).linkRestarted l).placeReply l ⟨i.kind, tag, .done []⟩).pump with
          handed := s.handed ++ s.restartNotices l }) ∧
    (let i := Instr.transmitEnd l;
      exec i s = .next ((s.taken i).withLink l { c with line := none }
        (s.counters.links.get l)).pump) ∧
    (∀ flags : Vector Nat 7,
      let i := Instr.reportSelect l tag flags
      ((∃ n : Fin 7, 1 < flags[n]) → exec i s = .next (s.answered l tag i [] (.refused .badField))) ∧
      ((∀ n : Fin 7, flags[n] ≤ 1) →
        let sel : Vector Bool 7 := Vector.ofFn fun n => decide (flags[n] = 1)
        let t := s.answered l tag i [] (.done [bitsByte sel.toList])
        exec i s = .next { t with
          links := t.links.set l { t.links.get l with selection := sel } }))

/-- A report joins a queue where its class is selected, or is discarded and counted where 32 stand; a
free transmitter sends the reply first, and in UP the oldest report, with the LOST marker where one was
lost (R170, R171). That no report is begun while a frame waits on the link, whose reply is about to be
placed, is the model's choice (log entry 11), where R171 begins one whenever the line is free. -/
def Obligations.QueueAndTransmitterChoose : Prop :=
  (∀ (l : Link) (b : ReportBody) (s : State),
    let c := s.links.get l
    let k := s.counters.links.get l
    (c.selection[b.cls.code] = false → s.reportOn l b = s) ∧
    (c.selection[b.cls.code] = true →
      (c.queue.length < 32 →
        s.reportOn l b = s.withLink l { c with queue := c.queue ++ [⟨s.clock, b⟩] } k) ∧
      (32 ≤ c.queue.length → s.reportOn l b = s.withLink l { c with lost := true }
        { k with discarded := min (k.discarded + 1) 4294967295 }))) ∧
  (∀ c : LinkController,
    (∀ x, c.line = some x → c.transmit = c) ∧
    (c.line = none → ∀ r, c.slot = some r →
      c.transmit = { c with line := some (.reply r), slot := none }) ∧
    (c.line = none → c.slot = none →
      (c.state ≠ .up ∨ c.queue = [] ∨ c.waiting ≠ none → c.transmit = c) ∧
      (c.state = .up → c.waiting = none → ∀ r rest, c.queue = r :: rest →
        c.transmit = { c with line := some (.report r c.lost), queue := rest, lost := false })))

/-! ## Settings (11) -/

/-- SETTINGS WRITE of AXIS, DRIVE and CHANNEL: the checks of R176 with each object's in-use test, the
values taken, and what the write makes of the axis (R17, R43), AXIS_SENSOR evaluated where its fitted
setting or a channel of it changes, or of the channel record (R7, R9), a channel that is disabled
keeping its scaled value where the same write changes its scaling (log entry 36). The order among
separate notices of one act, where no rule gives it, is the model's choice (log entry 54). That
AXIS_SENSOR is evaluated from the records as they stand (log entry 35), and the order of the parts of a
channel write (log entry 36), are the model's choice. -/
def Obligations.AxisAndChannelWrites : Prop :=
  ∀ (l : Link) (tag : Byte) (s : State), s.power = .running →
    (∀ (a : Fin 4) (data : AxisData),
      let i := Instr.settingsWriteAxis l tag a data
      let was := s.axes[a]
      s.WriteRule l tag i (data.taken.isSome = true) (was.state ≠ .idle ∧ was.state ≠ .tripped)
        (∀ x, data.taken = some x →
          let y := { s.settings with axes := s.settings.axes.set a x }
          let old := s.settings.axes[a]
          let kept := x.fitted = old.fitted ∧ x.angleCh = old.angleCh ∧ x.pressCh = old.pressCh
          let lost := if kept then was.sensor
            else x.fitted && !((s.channels[x.angleCh]).valid && (s.channels[x.pressCh]).valid)
          let told : List Instr :=
            if lost = was.sensor then [] else [.alarmSourceChange (.axisSensor a) lost]
          let unfits := old.fitted = true ∧ x.fitted = false ∧ was.state = .tripped
          (¬unfits → exec i s = .next { s.wrote l tag i [] 0 a x.data y with
            axes := s.axes.set a { was with sensor := lost }
            handed := s.handed ++ told }) ∧
          (unfits → ∀ k, was.tripKind = some k → exec i s = .next
            { s.wrote l tag i [toBoth (.axisState a .tripped .idle none)] 0 a x.data y with
              axes := s.axes.set a { was with state := .idle, tripKind := none, sensor := lost }
              handed := s.handed ++ (axisNotices a .tripped .idle ++
                [.alarmSourceChange (tripSource a k) false] ++ told) }))) ∧
    (∀ n oil : Nat,
      let i := Instr.settingsWriteDrive l tag n oil
      s.WriteRule l tag i (n = 0 ∧ oil ≤ 11) False
        (∀ k : Fin 12, k.val = oil →
          exec i s = .next (s.wrote l tag i [] 1 0 [byte oil] { s.settings with oil := k }))) ∧
    (∀ (k : Fin 12) (data : ChannelData),
      let i := Instr.settingsWriteChannel l tag k data
      let was := s.settings.channels[k]
      let r := s.channels[k]
      s.WriteRule l tag i (data.taken.isSome = true)
        (∃ a : Fin 4, (s.axes[a].state ≠ .idle ∧ s.axes[a].state ≠ .stopping ∧
            s.axes[a].state ≠ .tripped) ∧
          (s.settings.axes[a].angleCh = k ∨ s.settings.axes[a].pressCh = k ∨
            (s.settings.oil = k ∧ s.settings.axes[a].fitted = true)))
        (∀ x, data.taken = some x →
          let y := r.afterWrite was x s.clock
          exec i s = .next
            { s.wrote l tag i [] 2 k x.data
                { s.settings with channels := s.settings.channels.set k x } with
              channels := s.channels.set k y
              handed := s.handed ++
                ((if y.valid = r.valid then [] else s.validityNotices k y.valid) ++
                (if y.valid = r.valid ∧ y.scaled = r.scaled then []
                  else [.sourceChange (.channel k) ⟨y.scaled, y.valid⟩]) ++
                (if was.enabled = true ∧ x.enabled = false then s.disablingNotices k else [])) })) ∧
    (∀ n, 4 ≤ n → ∀ data,
      s.WriteRule l tag (.settingsWriteAxis l tag n data) False False True) ∧
    (∀ n, 12 ≤ n → ∀ data,
      s.WriteRule l tag (.settingsWriteChannel l tag n data) False False True)

/-- SETTINGS WRITE of DOOR and ZONE: the checks of R176 with each object's in-use test, and what the
write makes of the door, whose kind may change (R85, R101), cause SETTINGS naming the derived state (log
entry 25) and the retry count kept (log entry 41), or of the zone (R102, R104), whose entry into ALARM
hands the trim on before the EVACUATE post (log entry 26). The order among separate notices of one act,
where no rule gives it, is the model's choice (log entry 54). The conflict timer that a derived state
starts (log entry 40), the edge a release tests (log entry 58) and two changes in one act (log entry 15)
are the model's choice. -/
def Obligations.DoorAndZoneWrites : Prop :=
  ∀ (l : Link) (tag : Byte) (s : State), s.power = .running →
    (∀ (d : Fin 32) (data : DoorData),
      let i := Instr.settingsWriteDoor l tag d data
      let x := s.doors[d]
      let was := s.settings.doors[d].kind
      s.WriteRule l tag i (data.taken.isSome = true) (x.state ≠ .closed ∧ x.state ≠ .isolated)
        (∀ new, data.taken = some new →
          let y := { s.settings with doors := s.settings.doors.set d new }
          let u := { s with settings := y }
          let t := s.wrote l tag i [] 3 d new.data y
          let now := s.chain.levels[d]
          let idle : DoorRecord := { x with travel := none, pause := none, conflict := none, cause := none }
          let derived : DoorRecord := { idle with
            seen := now
            conflict := if now.openSwitch = true ∧ now.closedSwitch = true then some 1000 else none }
          let goes := fun (r : DoorRecord) => exec i s = .next
            { (s.wrote l tag i (doorReports d x.state r.state .settings) 3 d new.data y).withDoor d r with
              handed := s.handed ++ u.doorNotices d r }
          let counts : OpenCounts := ⟨Vector.ofFn u.zoneOpenCount, u.seaOpenCount⟩
          (new.kind = was ∨ (new.kind ≠ .absent ∧ was ≠ .absent) → exec i s = .next { t with
            openCounts := counts
            handed := s.handed ++ countNotices s.openCounts counts }) ∧
          (new.kind = .absent → was ≠ .absent → goes { idle with state := .closed }) ∧
          (new.kind ≠ .absent → was = .absent →
            (now.closedSwitch = true → goes { derived with state := .closed }) ∧
            (now.closedSwitch = false → ¬(new.kind = .sliding ∧ now.edge = true) →
              goes (u.closingRecord d derived)) ∧
            (now.closedSwitch = false → new.kind = .sliding → now.edge = true → exec i s = .next
              { ((s.wrote l tag i [toBoth (.doorState d x.state .closing .settings),
                    toBoth (.doorState d .closing .obstructed .edge)] 3 d new.data y).countDoor d
                    fun k => { k with obstructions := saturate k.obstructions }).withDoor d
                  (u.obstructedRecord d (u.closingRecord d derived)) with
                handed := s.handed ++ (u.doorNotices d (u.closingRecord d derived) ++
                  [.sourceChange (.doorState d) ⟨5, true⟩]) })))) ∧
    (∀ (z : Fin 8) (data : ZoneData),
      let i := Instr.settingsWriteZone l tag z data
      let was := s.settings.zones[z]
      s.WriteRule l tag i (data.taken.isSome = true)
        (s.zones[z].alarm = true ∧ data.lanes ≠ was.lanes)
        (∀ new, data.taken = some new →
          let y := { s.settings with zones := s.settings.zones.set z new }
          (new.fireEnabled = was.fireEnabled →
            exec i s = .next (s.wrote l tag i [] 4 z new.data y)) ∧
          (new.fireEnabled ≠ was.fireEnabled → exec i s = .next
            (s.wroteBy l tag i 4 z new.data y fun u => u.zoneJudged z s.zones[z] .fireInput)))) ∧
    (∀ n, 32 ≤ n → ∀ data,
      s.WriteRule l tag (.settingsWriteDoor l tag n data) False False True) ∧
    (∀ n, 8 ≤ n → ∀ data,
      s.WriteRule l tag (.settingsWriteZone l tag n data) False False True)

/-- SETTINGS WRITE of SCANNER, ROUTING, OUTPUT and LINK: the checks of R176, the values taken, the frame
that a first board starts where none is in progress or due (R140), both trip lines by the new routing
(R156), the line's level from its new source and invert where they change, refused where it would close
a loop (R161), after the store is judged (log entry 21), and the supervision time (R169). The order
among separate notices of one act, where no rule gives it, is the model's choice (log entry 54). -/
def Obligations.ScannerRoutingOutputAndLinkWrites : Prop :=
  ∀ (l : Link) (tag : Byte) (s : State), s.power = .running →
    (∀ n boards blanking : Nat,
      let i := Instr.settingsWriteScanner l tag n boards blanking
      let b := min boards 16
      let t := max 1 (min blanking 4)
      s.WriteRule l tag i (n = 0) False (exec i s = .next
        { s.wrote l tag i [] 5 0 [byte b, byte t] { s.settings with boards := b, blanking := t } with
          handed := s.handed ++
            (if s.scanner.frame = none ∧ s.settings.boards = 0 ∧ 1 ≤ b ∧
                .boardFrameStart ∉ s.handed then [.boardFrameStart] else []) })) ∧
    (∀ (n : Nat) (data : RoutingData),
      let i := Instr.settingsWriteRouting l tag n data
      s.WriteRule l tag i (n = 0 ∧ data.taken.isSome = true) False (∀ r, data.taken = some r →
        let y := { s.settings with routing := r }
        let u := { s with settings := y }
        exec i s = .next
          { (s.wrote l tag i (u.tripReports s.alarms.list) 6 0 r.data y).withAlarms s.alarms.list with
            handed := s.handed ++ u.tripNotices s.alarms.list })) ∧
    (∀ (k : Fin 8) (data : OutputData),
      let i := Instr.settingsWriteOutput l tag k data
      let was := s.settings.outputs[k]
      s.WriteRule l tag i ((s.outputTaken data).isSome = true) False
        (∀ x, s.outputTaken data = some x →
          let y := { s.settings with outputs := s.settings.outputs.set k x }
          let held := if x.source = .fixed ∧ was.source ≠ .fixed then x.powerOn
            else s.alarms.lines[k].held
          let value := match x.source with
            | .fixed => held
            | .input n => s.inputs.levels.gi[n]
            | .permissive p => s.evaluator.slots[p].result
            | .axisActive a => s.axes[a].state.active
            | .zoneAlarm z => s.zones[z].alarm
            | .alarmLine => s.alarms.alarm
          let level := if x.source = was.source ∧ x.invert = was.invert then s.alarms.lines[k].level
            else value != x.invert
          let lines := s.alarms.lines.set k ⟨held, level⟩
          let loops := (∃ p, x.source = .permissive p) ∧ looped y = true
          (loops → exec i s = .next (s.answered l tag i [] (.refused .state))) ∧
          (¬loops → exec i s = .next { s.wrote l tag i [] 7 k x.data y with
            alarms := { s.alarms with lines := lines }
            handed := s.handed ++ s.lineNotices lines }))) ∧
    (∀ (n time : Nat),
      let i := Instr.settingsWriteLink l tag n time
      let t := max 500 (min time 10000)
      s.WriteRule l tag i (n = 1 ∨ n = 2) False (∀ m : Link, m.code = n → exec i s = .next
        (s.wrote l tag i [] 8 n (be16 t)
          { s.settings with supervision := s.settings.supervision.set m t }))) ∧
    (∀ n, 8 ≤ n → ∀ data,
      s.WriteRule l tag (.settingsWriteOutput l tag n data) False False True)

/-- The values of a settings write as taken: a name or code that is not defined refuses the whole, each
quantity is clamped to its range, and the ordered pairs stay ordered (R7, R18, R85, R104, R156, R161,
R168); an output's source kind and index that name no source refuse it (R161; 12.8). Numbers above what
a field can carry are clamped by the same rules, the model's choice (log entry 50). -/
def Obligations.SettingsAreTakenClamped : Prop :=
  (∀ d : AxisData,
    (d.taken = none ↔ 1 < d.fitted ∨ 11 < d.angleCh ∨ 11 < d.pressCh ∨ 1 < d.tableMode ∨
      1 < d.loopMode ∨ 63 < d.warningPattern) ∧
    ∀ x, d.taken = some x →
      (x.fitted = decide (d.fitted = 1) ∧ x.angleCh.val = d.angleCh ∧ x.pressCh.val = d.pressCh ∧
        x.tableMode.code = d.tableMode ∧ x.loopMode.code = d.loopMode ∧
        x.warningPattern.val = d.warningPattern ∧ x.warningLanes = d.warningLanes) ∧
      (-9000 ≤ x.lLo ∧ x.lLo < x.lHi ∧ x.lHi ≤ 9000) ∧
      (-9000 ≤ d.lLo → d.lLo < d.lHi → d.lHi ≤ 9000 → x.lLo = d.lLo ∧ x.lHi = d.lHi) ∧
      (d.lHi ≤ d.lLo → -9000 ≤ d.lLo → d.lLo < 9000 → x.lLo = d.lLo ∧ x.lHi = d.lLo + 1) ∧
      (9000 ≤ d.lLo → d.lHi ≤ d.lLo → x.lLo = 8999 ∧ x.lHi = 9000) ∧
      x.dMax = min d.dMax 4095 ∧ x.dMin = min (min d.dMin 4095) x.dMax ∧
      x.inBand = max 5 (min d.inBand 500) ∧ x.settleCount = max 1 (min d.settleCount 50) ∧
      x.kp = min d.kp 255 ∧ x.slew = max 1 (min d.slew 4095) ∧
      x.stopSlew = max 1 (min d.stopSlew 4095) ∧ x.motionLimit = max 10 (min d.motionLimit 600) ∧
      x.warningTime = min (d.warningTime + 1) 32 ∧
      x.marginHi = min d.marginHi 32767 ∧ x.marginLo = min d.marginLo 32767 ∧
      (∀ n : Fin 32, x.ff[n] = min d.ff[n] 4095) ∧ (∀ n : Fin 16, x.prt[n] = min d.prt[n] 32767)) ∧
  (∀ d : ChannelData, (d.taken = none ↔ 1 < d.enabled) ∧
    ∀ x, d.taken = some x → x.enabled = decide (d.enabled = 1) ∧ x.rawMin = min d.rawMin 4095 ∧
      x.rawMax = max (min d.rawMax 4095) x.rawMin ∧ x.zero = min d.zero 4095 ∧
      (x.depth = 1 ∨ x.depth = 2 ∨ x.depth = 4 ∨ x.depth = 8) ∧ x.depth ≤ max d.depth 1 ∧
      (d.depth < 2 * x.depth ∨ x.depth = 8) ∧
      (-32768 ≤ d.gain → d.gain ≤ 32767 → x.gain = d.gain) ∧
      (-32768 ≤ d.offset → d.offset ≤ 32767 → x.offset = d.offset)) ∧
  (∀ d : DoorData, (d.taken = none ↔ 2 < d.kind ∨ 7 < d.zone ∨ 1 < d.seaClosed) ∧
    ∀ x, d.taken = some x → x.kind.code = d.kind ∧ x.zone.val = d.zone ∧
      x.seaClosed = decide (d.seaClosed = 1) ∧ x.closeLimit = max 5 (min d.closeLimit 120) ∧
      x.pause = max 1 (min d.pause 30) ∧ x.maxRetries = min d.maxRetries 7) ∧
  (∀ d : ZoneData, (d.taken = none ↔ 1 < d.fireEnabled ∨ 63 < d.evacPattern) ∧
    ∀ x, d.taken = some x → x.lanes = d.lanes ∧ x.fireEnabled = decide (d.fireEnabled = 1) ∧
      x.evacPattern.val = d.evacPattern) ∧
  (∀ d : RoutingData,
    (d.taken = none ↔ (∃ n : Fin 9, 1 < d.alarmEnable[n]) ∨ (∃ n : Fin 9, 1 < d.stopEnable[n]) ∨
      1 < d.stopFollowsAlarm) ∧
    ∀ x, d.taken = some x → x.stopFollowsAlarm = decide (d.stopFollowsAlarm = 1) ∧
      ∀ n : Fin 9, x.alarmEnable[n] = decide (d.alarmEnable[n] = 1) ∧
        x.stopEnable[n] = decide (d.stopEnable[n] = 1)) ∧
  (∀ (s : State) (d : OutputData) (source : OutSource), OutSource.ofCode d.kind d.index = some source →
    s.outputTaken d =
      if d.invert ≤ 1 ∧ d.powerOn ≤ 1 ∧
          (∀ a, source = .axisActive a → s.settings.axes[a].fitted = true) then
        some ⟨source, decide (d.invert = 1), decide (d.powerOn = 1)⟩
      else none) ∧
  (∀ (s : State) (d : OutputData), OutSource.ofCode d.kind d.index = none → s.outputTaken d = none) ∧
  (∀ kind index : Nat, (OutSource.ofCode kind index = none ↔
    ¬(((kind = 0 ∨ kind = 5) ∧ index = 0) ∨ ((kind = 1 ∨ kind = 2) ∧ index < 16) ∨
      (kind = 3 ∧ index < 4) ∨ (kind = 4 ∧ index < 8))))

/-! ## Storing, counters, clock and reset (11) -/

/-- STORE SETTINGS begins to write a copy of the working settings with the next revision; its completion
is judged by what storage reads back, and reported (R178). That a completion which carries no read-back
stands for the copy written and ends the store DONE is the model's choice (log entry 9). READ COUNTERS
answers with every counter of a group and may clear the group; SET CLOCK sets the deck clock and moves
no timer; IDENTIFY only answers (R181, R182), its part revision a free value in one byte, the model's
choice (log entry 17). -/
def Obligations.StoreCountersClockAndIdentity : Prop :=
  ((∀ (l : Link) (tag : Byte) (s : State), s.power = .running →
     let i := Instr.storeSettings l tag
     let refuses := fun code => exec i s = .next (s.answered l tag i [] (.refused code))
     (s.station.level.get l = .operate → refuses .level) ∧
     (s.station.level.get l = .service → s.store.inFlight.isSome = true → refuses .busy) ∧
     (s.station.level.get l = .service → s.store.inFlight = none → s.store.revision ≤ 65535 →
       exec i s = .next { s.answered l tag i [] (.accepted []) with
         store := { s.store with
           inFlight := some ⟨s.settings, (s.store.revision + 1) % 65536, true⟩ } })) ∧
   (∀ (readBack : Option Image) (s : State), s.power = .running →
     let i := Instr.storeCompletion readBack
     (s.store.inFlight = none → exec i s = .next (s.acted i [])) ∧
     (∀ copy, s.store.inFlight = some copy →
       (readBack = none ∨ readBack = some copy → exec i s = .next
         { s.acted i [toBoth (.storeResult true copy.revision)] with
           store := ⟨copy, none, copy.revision, s.store.defaulted, false⟩ }) ∧
       (∀ img, readBack = some img → img ≠ copy → exec i s = .next
         { s.acted i [toBoth (.storeResult false s.store.revision)] with
           store := { s.store with image := img, inFlight := none } })))) ∧
  (∀ (l : Link) (tag : Byte) (s : State), s.power = .running →
    (∀ group : Nat,
      let read := Instr.readCounters l tag group 0
      let clear := Instr.readCounters l tag group 1
      let door := fun (d : Fin 32) => be32 s.counters.doors[d].releases ++
        be32 s.counters.doors[d].closures ++ be32 s.counters.doors[d].obstructions
      let link := fun (k : LinkCounters) => be32 k.good ++ be32 k.crc ++ be32 k.gap ++
        be32 k.overrun ++ be32 k.discarded
      let answers := fun (body : List Byte) (cleared : Counters) =>
        exec read s = .next (s.answered l tag read [] (.done (byte group :: body))) ∧
        exec clear s = .next
          { s.answered l tag clear [] (.done (byte group :: body)) with counters := cleared }
      (group = 0 → answers
        ((List.finRange 4).flatMap fun a => be32 s.counters.axes[a].reached ++
          be32 s.counters.axes[a].otherwise ++ be32 s.counters.axes[a].trips)
        { s.counters with axes := Vector.replicate 4 ⟨0, 0, 0⟩ }) ∧
      (group = 1 → answers (((List.finRange 32).take 16).flatMap door)
        { s.counters with
          doors := Vector.ofFn (fun d => if d.val < 16 then ⟨0, 0, 0⟩ else s.counters.doors[d]) }) ∧
      (group = 2 → answers (((List.finRange 32).drop 16).flatMap door)
        { s.counters with
          doors := Vector.ofFn (fun d => if d.val < 16 then s.counters.doors[d] else ⟨0, 0, 0⟩) }) ∧
      (group = 3 → answers (link s.counters.links.bridge ++ link s.counters.links.localLink)
        { s.counters with links := ⟨⟨0, 0, 0, 0, 0⟩, ⟨0, 0, 0, 0, 0⟩⟩ }) ∧
      (∀ c, 3 < group ∨ 1 < c → exec (.readCounters l tag group c) s =
        .next (s.answered l tag (.readCounters l tag group c) [] (.refused .badField)))) ∧
    (∀ value : DeckTime,
      let i := Instr.setClock l tag value
      exec i s = .next
        { s.answered l tag i [] (.done (be32 value.toNat)) with clock := value }) ∧
    (let i := Instr.identify l tag;
      ∃ revision : Byte, 1 ≤ revision.toNat ∧ exec i s = .next (s.answered l tag i []
        (.done ([0xDC, 0x40, revision] ++ be16 s.store.revision ++
          [bitsByte [s.store.defaulted, s.store.unstored, s.store.inFlight.isSome]] ++
          be32 s.clock.toNat)))))

/-- CONTROLLER RESET: its checks, and what it leaves: the stored image or the factory settings in force,
axes in IDLE with their command 0 and AXIS_SENSOR evaluated afresh, no holder, claim or level, no call,
each removed with cause RESET, the report queues cut to its own report, and the clock, inputs, buttons
and counters kept (R46, R83, R138, R148, R175, R180). Notices that the reset overtakes are dropped, but
for the EVACUATE posts of the zones in ALARM, and all others stay (log entry 27). What CONTROLLER RESET
makes of the blocks by the settings it puts in force: each channel, door, zone and output line as by
writes of those that differ (R8, R109, R164), the doors of a zone in ALARM released, every term and slot
evaluated afresh (R123), and the alarm list rebuilt from the conditions as they stand, in ascending
source (R164). The order of the blocks (log entry 28), a door whose kind changes keeping its retry count
(log entry 41) and a channel disabled and rescaled by the one reload keeping its scaled value (log entry
36) are the model's choice. The order among separate notices of one act, where no rule gives it, is the
model's choice (log entry 54). So are the conflict timer that a derived state starts (log entry 40) and
the edge that the release of a held door tests (log entry 58). -/
def Obligations.ControllerResetRestores : Prop :=
  (∀ (l : Link) (tag : Byte) (s : State), s.power = .running →
    let i := Instr.controllerReset l tag
    let refuses := fun code => exec i s = .next (s.answered l tag i [] (.refused code))
    let good := s.store.image.crcGood
    let settings := if good then s.store.image.settings else factorySettings
    let revision := if good then s.store.image.revision else 0
    let o := s.openRequest l i
    let cut := { o with links := ⟨{ o.links.bridge with queue := [], lost := false },
      { o.links.localLink with queue := [], lost := false }⟩ }
    let linked := ((cut.says [toBoth (.controllerResetDone revision !good)]).placeReply l
      ⟨i.kind, tag, .done []⟩).pump
    (s.station.level.get l = .operate → refuses .level) ∧
    (s.station.level.get l = .service → s.store.inFlight.isSome = true → refuses .busy) ∧
    (s.station.level.get l = .service → s.store.inFlight = none → ∃ t, exec i s = .next t ∧
      t.power = .running ∧ t.settings = settings ∧
      t.store = ⟨s.store.image, none, revision, !good, false⟩ ∧
      t.clock = s.clock ∧ t.uptime = s.uptime ∧ t.inputs = s.inputs ∧ t.pending = s.pending ∧
      t.chain = { s.chain with outputs := t.chain.outputs } ∧
      (∀ a : Fin 4,
        t.axes[a] = { s.axes[a].atRest .idle s.clock .reset with
          staged := 0
          settle := 0
          tripKind := none
          update := none
          check := none
          sensor := settings.axes[a].fitted &&
            !((t.channels[settings.axes[a].angleCh]).valid &&
              (t.channels[settings.axes[a].pressCh]).valid) } ∧
        t.counters.axes[a] = (if s.axes[a].running then s.counters.axes[a].ended .reset
          else s.counters.axes[a]) ∧
        t.valves[a] = { s.valves[a] with command := 0 } ∧
        (s.axes[a].state ≠ .idle → .sourceChange (.axisState a) ⟨0, true⟩ ∈ t.handed ∧
          .outputLineSourceChange (.axisActive a) false ∈ t.handed)) ∧
      t.station = Station.powerOn ∧
      t.calls = (s.withRemovals [] (s.calls.table.map fun c => (c, .reset))).calls ∧
      t.scanner = s.scanner ∧
      t.links = linked.links ∧ t.counters.links = linked.counters.links ∧
      (∀ z : Fin 8, .evacuatePost z ∈ t.handed ↔ t.zones[z].alarm = true) ∧
      (∀ n ∈ t.handed, overtaken n = true → ∃ z, n = .evacuatePost z) ∧
      (∀ n ∈ s.handed, overtaken n = false → n ∈ t.handed) ∧
      (good = false → .momentaryRaise .settingsDefaulted ∈ t.handed))) ∧
  (∀ (l : Link) (tag : Byte) (s : State), s.power = .running →
    s.station.level.get l = .service → s.store.inFlight = none →
    let old := s.settings
    let new := if s.store.image.crcGood then s.store.image.settings else factorySettings
    let u := { s with settings := new }
    ∃ t, exec (.controllerReset l tag) s = .next t ∧
      (∀ k : Fin 12, t.channels[k] =
        (s.channels[k]).afterWrite old.channels[k] new.channels[k] s.clock) ∧
      (∀ z : Fin 8,
        let holds := (new.zones[z].fireEnabled && s.zones[z].fire) || s.zones[z].manual
        t.zones[z] = { s.zones[z] with
          alarm := holds
          since := if holds = true ∧ s.zones[z].alarm = false then some s.clock
            else s.zones[z].since }) ∧
      (∀ d : Fin 32,
        let x := s.doors[d]
        let now := s.chain.levels[d]
        let was := old.doors[d].kind
        let kind := new.doors[d].kind
        let idle : DoorRecord := { x with travel := none, pause := none, conflict := none, cause := none }
        let derived : DoorRecord := { idle with
          seen := now
          conflict := if now.openSwitch = true ∧ now.closedSwitch = true then some 1000 else none }
        let written : State :=
          if kind = was ∨ (kind ≠ .absent ∧ was ≠ .absent ∧
              (x.state = .closed ∨ x.state = .isolated)) then u
          else if kind = .absent then u.doorGoes d { idle with state := .closed } .settings
          else if now.closedSwitch = true then u.doorGoes d { derived with state := .closed } .settings
          else u.doorCloses d derived .settings now.edge
        let after := if kind ≠ .absent ∧ t.zones[new.doors[d].zone].alarm = true then
          written.doorReleased d .zoneAlarm else written
        t.doors[d] = after.doors[d] ∧ t.chain.outputs[d] = after.chain.outputs[d] ∧
          t.counters.doors[d] = after.counters.doors[d]) ∧
      t.openCounts = ⟨Vector.ofFn t.zoneOpenCount, t.seaOpenCount⟩ ∧
      (∀ c : CondSource, t.alarms.flags[c.code] = t.condition c) ∧
      (∀ n : Fin 60, t.alarms.flags[n] = true → ∃ c ∈ condSources, c.code = n) ∧
      t.alarms.list = (((List.finRange 60).filter fun n => t.alarms.flags[n]).map fun n =>
        ⟨n, .activeUnacked, s.clock, s.clock, 1⟩) ∧
      t.alarms.alarm = alarmDue new.routing t.alarms.list ∧
      t.alarms.stop = stopDue new.routing t.alarms.list t.alarms.alarm ∧
      (t.alarms.stop ≠ s.alarms.stop → ∀ a, .stopLineChange a t.alarms.stop ∈ t.handed) ∧
      (∀ k : Fin 8,
        let x := new.outputs[k]
        let held := if x.source = .fixed ∧ old.outputs[k].source ≠ .fixed then x.powerOn
          else s.alarms.lines[k].held
        let value := match x.source with
          | .fixed => held
          | .input n => s.inputs.levels.gi[n]
          | .permissive p => s.evaluator.slots[p].result
          | .axisActive _ => false
          | .zoneAlarm z => t.zones[z].alarm
          | .alarmLine => t.alarms.alarm
        let driven := x.source ≠ old.outputs[k].source ∨ x.invert ≠ old.outputs[k].invert ∨
          (x.source = .alarmLine ∧ t.alarms.alarm ≠ s.alarms.alarm)
        t.alarms.lines[k] = ⟨held, if driven then value != x.invert else s.alarms.lines[k].level⟩ ∧
        (t.alarms.lines[k].level ≠ s.alarms.lines[k].level →
          .sourceChange (.outputLine k) ⟨if t.alarms.lines[k].level then 1 else 0, true⟩ ∈ t.handed)) ∧
      (∀ n : Fin 64, t.evaluator.values[n] =
        match new.terms[n].source with
        | none => false
        | some (.channel k) =>
          t.channels[k].valid && compares new.terms[n].cmp t.channels[k].scaled new.terms[n].const
        | some src => compares new.terms[n].cmp (t.sourceValue src).value new.terms[n].const) ∧
      t.evaluator.slots = s.slotsAfter new t.evaluator.values (fun _ => true) ∧
      (∀ n ∈ s.slotNotices t.evaluator.slots, n ∈ t.handed) ∧
      (.boardFrameStart ∈ t.handed ↔ .boardFrameStart ∈ s.handed ∨
        (s.scanner.frame = none ∧ old.boards = 0 ∧ 1 ≤ new.boards)))

/-! ## The laws of the part, kept by every step -/

/-- Every step keeps, whatever the state, the laws of an axis's command (R17, R39, R55, R56) and of the
fields and timers each axis state has (02, 2.2). -/
def Obligations.StepKeepsAxisLaws : Prop :=
  ∀ s t : State, step s = .next t →
    (s.ValveLaw → t.ValveLaw) ∧ (s.AxisLaw → t.AxisLaw)

/-- Every step keeps the laws of authority, deck hold and service level (R70, R77, R79 to R81), and
those of an active axis: it is fitted, none is active while the STOP line is asserted, and one in motion
has a link as its holder (R17, R33, R41), but while the notice that ends it is on its way. -/
def Obligations.StepKeepsStationAndMotionLaws : Prop :=
  ∀ s t : State, step s = .next t →
    (s.StationLaw → t.StationLaw) ∧ (s.MotionLaw → t.MotionLaw)

/-- Every step keeps the law of the alarm list, its flags and both trip lines (R150 to R153, R157,
R158). -/
def Obligations.StepKeepsAlarmLaw : Prop :=
  ∀ s t : State, s.AlarmLaw → step s = .next t → t.AlarmLaw

/-- Every step keeps the laws of a zone in ALARM: none of its fitted doors is held (R87, R88, R105), and
no RECALL call is addressed to its lanes but while their withdrawal is on its way (R133). -/
def Obligations.StepKeepsAlarmZoneLaws : Prop :=
  ∀ s t : State, step s = .next t →
    (s.FireDoorLaw → t.FireDoorLaw) ∧ (s.RecallLaw → t.RecallLaw)

/-- Every step keeps the law of the call table: at most eight external calls, one of each automatic
origin, and numbers in order (R124, R125, R128). -/
def Obligations.StepKeepsCallLaw : Prop :=
  ∀ s t : State, s.CallLaw → step s = .next t → t.CallLaw

/-- Every step keeps the law of the links: at most 32 reports, the supervision timer exactly in UP, a
frame in assembly exactly outside HUNT (R165, R169, R170). -/
def Obligations.StepKeepsLinkLaw : Prop :=
  ∀ s t : State, s.LinkLaw → step s = .next t → t.LinkLaw

/-- Every law holds right after reset. The values of reset that no rule gives are the model's choice
(log entries 6 and 7). -/
def Obligations.LawsHoldAtReset : Prop :=
  State.reset.ValveLaw ∧ State.reset.AxisLaw ∧ State.reset.StationLaw ∧ State.reset.MotionLaw ∧
  State.reset.AlarmLaw ∧ State.reset.FireDoorLaw ∧ State.reset.RecallLaw ∧ State.reset.CallLaw ∧
  State.reset.LinkLaw
end

