-- ==== Sys2Proof/Laws/State.lean ====
section
/-! SUPPORT. One lemma for each field of the state and each shared update of it, so that no proof
unfolds a record update. -/

namespace Sys2Proof.Machine

/-- A link's counters after a report is queued on it: a discard is counted (R170). -/
def countDiscard (c : LinkController) (b : ReportBody) (k : LinkCounters) : LinkCounters :=
  { k with discarded := if c.selects b && c.full then saturate k.discarded else k.discarded }

/-! ### modChannel -/

@[simp] theorem State.modChannel_power (s : State) (k : Fin 12) (f : ChannelRecord → ChannelRecord) :
    (s.modChannel k f).power = s.power := rfl
@[simp] theorem State.modChannel_settings (s : State) (k : Fin 12) (f : ChannelRecord → ChannelRecord) :
    (s.modChannel k f).settings = s.settings := rfl
@[simp] theorem State.modChannel_store (s : State) (k : Fin 12) (f : ChannelRecord → ChannelRecord) :
    (s.modChannel k f).store = s.store := rfl
@[simp] theorem State.modChannel_clock (s : State) (k : Fin 12) (f : ChannelRecord → ChannelRecord) :
    (s.modChannel k f).clock = s.clock := rfl
@[simp] theorem State.modChannel_uptime (s : State) (k : Fin 12) (f : ChannelRecord → ChannelRecord) :
    (s.modChannel k f).uptime = s.uptime := rfl
@[simp] theorem State.modChannel_counters (s : State) (k : Fin 12) (f : ChannelRecord → ChannelRecord) :
    (s.modChannel k f).counters = s.counters := rfl
@[simp] theorem State.modChannel_channels (s : State) (k : Fin 12) (f : ChannelRecord → ChannelRecord) :
    (s.modChannel k f).channels = upd s.channels k f := rfl
@[simp] theorem State.modChannel_inputs (s : State) (k : Fin 12) (f : ChannelRecord → ChannelRecord) :
    (s.modChannel k f).inputs = s.inputs := rfl
@[simp] theorem State.modChannel_chain (s : State) (k : Fin 12) (f : ChannelRecord → ChannelRecord) :
    (s.modChannel k f).chain = s.chain := rfl
@[simp] theorem State.modChannel_axes (s : State) (k : Fin 12) (f : ChannelRecord → ChannelRecord) :
    (s.modChannel k f).axes = s.axes := rfl
@[simp] theorem State.modChannel_valves (s : State) (k : Fin 12) (f : ChannelRecord → ChannelRecord) :
    (s.modChannel k f).valves = s.valves := rfl
@[simp] theorem State.modChannel_station (s : State) (k : Fin 12) (f : ChannelRecord → ChannelRecord) :
    (s.modChannel k f).station = s.station := rfl
@[simp] theorem State.modChannel_doors (s : State) (k : Fin 12) (f : ChannelRecord → ChannelRecord) :
    (s.modChannel k f).doors = s.doors := rfl
@[simp] theorem State.modChannel_zones (s : State) (k : Fin 12) (f : ChannelRecord → ChannelRecord) :
    (s.modChannel k f).zones = s.zones := rfl
@[simp] theorem State.modChannel_openCounts (s : State) (k : Fin 12) (f : ChannelRecord → ChannelRecord) :
    (s.modChannel k f).openCounts = s.openCounts := rfl
@[simp] theorem State.modChannel_evaluator (s : State) (k : Fin 12) (f : ChannelRecord → ChannelRecord) :
    (s.modChannel k f).evaluator = s.evaluator := rfl
@[simp] theorem State.modChannel_calls (s : State) (k : Fin 12) (f : ChannelRecord → ChannelRecord) :
    (s.modChannel k f).calls = s.calls := rfl
@[simp] theorem State.modChannel_scanner (s : State) (k : Fin 12) (f : ChannelRecord → ChannelRecord) :
    (s.modChannel k f).scanner = s.scanner := rfl
@[simp] theorem State.modChannel_alarms (s : State) (k : Fin 12) (f : ChannelRecord → ChannelRecord) :
    (s.modChannel k f).alarms = s.alarms := rfl
@[simp] theorem State.modChannel_links (s : State) (k : Fin 12) (f : ChannelRecord → ChannelRecord) :
    (s.modChannel k f).links = s.links := rfl
@[simp] theorem State.modChannel_handed (s : State) (k : Fin 12) (f : ChannelRecord → ChannelRecord) :
    (s.modChannel k f).handed = s.handed := rfl
@[simp] theorem State.modChannel_pending (s : State) (k : Fin 12) (f : ChannelRecord → ChannelRecord) :
    (s.modChannel k f).pending = s.pending := rfl

/-! ### modAxis -/

@[simp] theorem State.modAxis_power (s : State) (a : Fin 4) (f : AxisRecord → AxisRecord) :
    (s.modAxis a f).power = s.power := rfl
@[simp] theorem State.modAxis_settings (s : State) (a : Fin 4) (f : AxisRecord → AxisRecord) :
    (s.modAxis a f).settings = s.settings := rfl
@[simp] theorem State.modAxis_store (s : State) (a : Fin 4) (f : AxisRecord → AxisRecord) :
    (s.modAxis a f).store = s.store := rfl
@[simp] theorem State.modAxis_clock (s : State) (a : Fin 4) (f : AxisRecord → AxisRecord) :
    (s.modAxis a f).clock = s.clock := rfl
@[simp] theorem State.modAxis_uptime (s : State) (a : Fin 4) (f : AxisRecord → AxisRecord) :
    (s.modAxis a f).uptime = s.uptime := rfl
@[simp] theorem State.modAxis_counters (s : State) (a : Fin 4) (f : AxisRecord → AxisRecord) :
    (s.modAxis a f).counters = s.counters := rfl
@[simp] theorem State.modAxis_channels (s : State) (a : Fin 4) (f : AxisRecord → AxisRecord) :
    (s.modAxis a f).channels = s.channels := rfl
@[simp] theorem State.modAxis_inputs (s : State) (a : Fin 4) (f : AxisRecord → AxisRecord) :
    (s.modAxis a f).inputs = s.inputs := rfl
@[simp] theorem State.modAxis_chain (s : State) (a : Fin 4) (f : AxisRecord → AxisRecord) :
    (s.modAxis a f).chain = s.chain := rfl
@[simp] theorem State.modAxis_axes (s : State) (a : Fin 4) (f : AxisRecord → AxisRecord) :
    (s.modAxis a f).axes = upd s.axes a f := rfl
@[simp] theorem State.modAxis_valves (s : State) (a : Fin 4) (f : AxisRecord → AxisRecord) :
    (s.modAxis a f).valves = s.valves := rfl
@[simp] theorem State.modAxis_station (s : State) (a : Fin 4) (f : AxisRecord → AxisRecord) :
    (s.modAxis a f).station = s.station := rfl
@[simp] theorem State.modAxis_doors (s : State) (a : Fin 4) (f : AxisRecord → AxisRecord) :
    (s.modAxis a f).doors = s.doors := rfl
@[simp] theorem State.modAxis_zones (s : State) (a : Fin 4) (f : AxisRecord → AxisRecord) :
    (s.modAxis a f).zones = s.zones := rfl
@[simp] theorem State.modAxis_openCounts (s : State) (a : Fin 4) (f : AxisRecord → AxisRecord) :
    (s.modAxis a f).openCounts = s.openCounts := rfl
@[simp] theorem State.modAxis_evaluator (s : State) (a : Fin 4) (f : AxisRecord → AxisRecord) :
    (s.modAxis a f).evaluator = s.evaluator := rfl
@[simp] theorem State.modAxis_calls (s : State) (a : Fin 4) (f : AxisRecord → AxisRecord) :
    (s.modAxis a f).calls = s.calls := rfl
@[simp] theorem State.modAxis_scanner (s : State) (a : Fin 4) (f : AxisRecord → AxisRecord) :
    (s.modAxis a f).scanner = s.scanner := rfl
@[simp] theorem State.modAxis_alarms (s : State) (a : Fin 4) (f : AxisRecord → AxisRecord) :
    (s.modAxis a f).alarms = s.alarms := rfl
@[simp] theorem State.modAxis_links (s : State) (a : Fin 4) (f : AxisRecord → AxisRecord) :
    (s.modAxis a f).links = s.links := rfl
@[simp] theorem State.modAxis_handed (s : State) (a : Fin 4) (f : AxisRecord → AxisRecord) :
    (s.modAxis a f).handed = s.handed := rfl
@[simp] theorem State.modAxis_pending (s : State) (a : Fin 4) (f : AxisRecord → AxisRecord) :
    (s.modAxis a f).pending = s.pending := rfl

/-! ### modValve -/

@[simp] theorem State.modValve_power (s : State) (a : Fin 4) (f : Generator → Generator) :
    (s.modValve a f).power = s.power := rfl
@[simp] theorem State.modValve_settings (s : State) (a : Fin 4) (f : Generator → Generator) :
    (s.modValve a f).settings = s.settings := rfl
@[simp] theorem State.modValve_store (s : State) (a : Fin 4) (f : Generator → Generator) :
    (s.modValve a f).store = s.store := rfl
@[simp] theorem State.modValve_clock (s : State) (a : Fin 4) (f : Generator → Generator) :
    (s.modValve a f).clock = s.clock := rfl
@[simp] theorem State.modValve_uptime (s : State) (a : Fin 4) (f : Generator → Generator) :
    (s.modValve a f).uptime = s.uptime := rfl
@[simp] theorem State.modValve_counters (s : State) (a : Fin 4) (f : Generator → Generator) :
    (s.modValve a f).counters = s.counters := rfl
@[simp] theorem State.modValve_channels (s : State) (a : Fin 4) (f : Generator → Generator) :
    (s.modValve a f).channels = s.channels := rfl
@[simp] theorem State.modValve_inputs (s : State) (a : Fin 4) (f : Generator → Generator) :
    (s.modValve a f).inputs = s.inputs := rfl
@[simp] theorem State.modValve_chain (s : State) (a : Fin 4) (f : Generator → Generator) :
    (s.modValve a f).chain = s.chain := rfl
@[simp] theorem State.modValve_axes (s : State) (a : Fin 4) (f : Generator → Generator) :
    (s.modValve a f).axes = s.axes := rfl
@[simp] theorem State.modValve_valves (s : State) (a : Fin 4) (f : Generator → Generator) :
    (s.modValve a f).valves = upd s.valves a f := rfl
@[simp] theorem State.modValve_station (s : State) (a : Fin 4) (f : Generator → Generator) :
    (s.modValve a f).station = s.station := rfl
@[simp] theorem State.modValve_doors (s : State) (a : Fin 4) (f : Generator → Generator) :
    (s.modValve a f).doors = s.doors := rfl
@[simp] theorem State.modValve_zones (s : State) (a : Fin 4) (f : Generator → Generator) :
    (s.modValve a f).zones = s.zones := rfl
@[simp] theorem State.modValve_openCounts (s : State) (a : Fin 4) (f : Generator → Generator) :
    (s.modValve a f).openCounts = s.openCounts := rfl
@[simp] theorem State.modValve_evaluator (s : State) (a : Fin 4) (f : Generator → Generator) :
    (s.modValve a f).evaluator = s.evaluator := rfl
@[simp] theorem State.modValve_calls (s : State) (a : Fin 4) (f : Generator → Generator) :
    (s.modValve a f).calls = s.calls := rfl
@[simp] theorem State.modValve_scanner (s : State) (a : Fin 4) (f : Generator → Generator) :
    (s.modValve a f).scanner = s.scanner := rfl
@[simp] theorem State.modValve_alarms (s : State) (a : Fin 4) (f : Generator → Generator) :
    (s.modValve a f).alarms = s.alarms := rfl
@[simp] theorem State.modValve_links (s : State) (a : Fin 4) (f : Generator → Generator) :
    (s.modValve a f).links = s.links := rfl
@[simp] theorem State.modValve_handed (s : State) (a : Fin 4) (f : Generator → Generator) :
    (s.modValve a f).handed = s.handed := rfl
@[simp] theorem State.modValve_pending (s : State) (a : Fin 4) (f : Generator → Generator) :
    (s.modValve a f).pending = s.pending := rfl

/-! ### modAuth -/

@[simp] theorem State.modAuth_power (s : State) (a : Fin 4) (f : Authority → Authority) :
    (s.modAuth a f).power = s.power := rfl
@[simp] theorem State.modAuth_settings (s : State) (a : Fin 4) (f : Authority → Authority) :
    (s.modAuth a f).settings = s.settings := rfl
@[simp] theorem State.modAuth_store (s : State) (a : Fin 4) (f : Authority → Authority) :
    (s.modAuth a f).store = s.store := rfl
@[simp] theorem State.modAuth_clock (s : State) (a : Fin 4) (f : Authority → Authority) :
    (s.modAuth a f).clock = s.clock := rfl
@[simp] theorem State.modAuth_uptime (s : State) (a : Fin 4) (f : Authority → Authority) :
    (s.modAuth a f).uptime = s.uptime := rfl
@[simp] theorem State.modAuth_counters (s : State) (a : Fin 4) (f : Authority → Authority) :
    (s.modAuth a f).counters = s.counters := rfl
@[simp] theorem State.modAuth_channels (s : State) (a : Fin 4) (f : Authority → Authority) :
    (s.modAuth a f).channels = s.channels := rfl
@[simp] theorem State.modAuth_inputs (s : State) (a : Fin 4) (f : Authority → Authority) :
    (s.modAuth a f).inputs = s.inputs := rfl
@[simp] theorem State.modAuth_chain (s : State) (a : Fin 4) (f : Authority → Authority) :
    (s.modAuth a f).chain = s.chain := rfl
@[simp] theorem State.modAuth_axes (s : State) (a : Fin 4) (f : Authority → Authority) :
    (s.modAuth a f).axes = s.axes := rfl
@[simp] theorem State.modAuth_valves (s : State) (a : Fin 4) (f : Authority → Authority) :
    (s.modAuth a f).valves = s.valves := rfl
@[simp] theorem State.modAuth_station (s : State) (a : Fin 4) (f : Authority → Authority) :
    (s.modAuth a f).station = { s.station with auth := upd s.station.auth a f } := rfl
@[simp] theorem State.modAuth_doors (s : State) (a : Fin 4) (f : Authority → Authority) :
    (s.modAuth a f).doors = s.doors := rfl
@[simp] theorem State.modAuth_zones (s : State) (a : Fin 4) (f : Authority → Authority) :
    (s.modAuth a f).zones = s.zones := rfl
@[simp] theorem State.modAuth_openCounts (s : State) (a : Fin 4) (f : Authority → Authority) :
    (s.modAuth a f).openCounts = s.openCounts := rfl
@[simp] theorem State.modAuth_evaluator (s : State) (a : Fin 4) (f : Authority → Authority) :
    (s.modAuth a f).evaluator = s.evaluator := rfl
@[simp] theorem State.modAuth_calls (s : State) (a : Fin 4) (f : Authority → Authority) :
    (s.modAuth a f).calls = s.calls := rfl
@[simp] theorem State.modAuth_scanner (s : State) (a : Fin 4) (f : Authority → Authority) :
    (s.modAuth a f).scanner = s.scanner := rfl
@[simp] theorem State.modAuth_alarms (s : State) (a : Fin 4) (f : Authority → Authority) :
    (s.modAuth a f).alarms = s.alarms := rfl
@[simp] theorem State.modAuth_links (s : State) (a : Fin 4) (f : Authority → Authority) :
    (s.modAuth a f).links = s.links := rfl
@[simp] theorem State.modAuth_handed (s : State) (a : Fin 4) (f : Authority → Authority) :
    (s.modAuth a f).handed = s.handed := rfl
@[simp] theorem State.modAuth_pending (s : State) (a : Fin 4) (f : Authority → Authority) :
    (s.modAuth a f).pending = s.pending := rfl

/-! ### modDoor -/

@[simp] theorem State.modDoor_power (s : State) (d : Fin 32) (f : DoorRecord → DoorRecord) :
    (s.modDoor d f).power = s.power := rfl
@[simp] theorem State.modDoor_settings (s : State) (d : Fin 32) (f : DoorRecord → DoorRecord) :
    (s.modDoor d f).settings = s.settings := rfl
@[simp] theorem State.modDoor_store (s : State) (d : Fin 32) (f : DoorRecord → DoorRecord) :
    (s.modDoor d f).store = s.store := rfl
@[simp] theorem State.modDoor_clock (s : State) (d : Fin 32) (f : DoorRecord → DoorRecord) :
    (s.modDoor d f).clock = s.clock := rfl
@[simp] theorem State.modDoor_uptime (s : State) (d : Fin 32) (f : DoorRecord → DoorRecord) :
    (s.modDoor d f).uptime = s.uptime := rfl
@[simp] theorem State.modDoor_counters (s : State) (d : Fin 32) (f : DoorRecord → DoorRecord) :
    (s.modDoor d f).counters = s.counters := rfl
@[simp] theorem State.modDoor_channels (s : State) (d : Fin 32) (f : DoorRecord → DoorRecord) :
    (s.modDoor d f).channels = s.channels := rfl
@[simp] theorem State.modDoor_inputs (s : State) (d : Fin 32) (f : DoorRecord → DoorRecord) :
    (s.modDoor d f).inputs = s.inputs := rfl
@[simp] theorem State.modDoor_chain (s : State) (d : Fin 32) (f : DoorRecord → DoorRecord) :
    (s.modDoor d f).chain = s.chain := rfl
@[simp] theorem State.modDoor_axes (s : State) (d : Fin 32) (f : DoorRecord → DoorRecord) :
    (s.modDoor d f).axes = s.axes := rfl
@[simp] theorem State.modDoor_valves (s : State) (d : Fin 32) (f : DoorRecord → DoorRecord) :
    (s.modDoor d f).valves = s.valves := rfl
@[simp] theorem State.modDoor_station (s : State) (d : Fin 32) (f : DoorRecord → DoorRecord) :
    (s.modDoor d f).station = s.station := rfl
@[simp] theorem State.modDoor_doors (s : State) (d : Fin 32) (f : DoorRecord → DoorRecord) :
    (s.modDoor d f).doors = upd s.doors d f := rfl
@[simp] theorem State.modDoor_zones (s : State) (d : Fin 32) (f : DoorRecord → DoorRecord) :
    (s.modDoor d f).zones = s.zones := rfl
@[simp] theorem State.modDoor_openCounts (s : State) (d : Fin 32) (f : DoorRecord → DoorRecord) :
    (s.modDoor d f).openCounts = s.openCounts := rfl
@[simp] theorem State.modDoor_evaluator (s : State) (d : Fin 32) (f : DoorRecord → DoorRecord) :
    (s.modDoor d f).evaluator = s.evaluator := rfl
@[simp] theorem State.modDoor_calls (s : State) (d : Fin 32) (f : DoorRecord → DoorRecord) :
    (s.modDoor d f).calls = s.calls := rfl
@[simp] theorem State.modDoor_scanner (s : State) (d : Fin 32) (f : DoorRecord → DoorRecord) :
    (s.modDoor d f).scanner = s.scanner := rfl
@[simp] theorem State.modDoor_alarms (s : State) (d : Fin 32) (f : DoorRecord → DoorRecord) :
    (s.modDoor d f).alarms = s.alarms := rfl
@[simp] theorem State.modDoor_links (s : State) (d : Fin 32) (f : DoorRecord → DoorRecord) :
    (s.modDoor d f).links = s.links := rfl
@[simp] theorem State.modDoor_handed (s : State) (d : Fin 32) (f : DoorRecord → DoorRecord) :
    (s.modDoor d f).handed = s.handed := rfl
@[simp] theorem State.modDoor_pending (s : State) (d : Fin 32) (f : DoorRecord → DoorRecord) :
    (s.modDoor d f).pending = s.pending := rfl

/-! ### modZone -/

@[simp] theorem State.modZone_power (s : State) (z : Fin 8) (f : ZoneRecord → ZoneRecord) :
    (s.modZone z f).power = s.power := rfl
@[simp] theorem State.modZone_settings (s : State) (z : Fin 8) (f : ZoneRecord → ZoneRecord) :
    (s.modZone z f).settings = s.settings := rfl
@[simp] theorem State.modZone_store (s : State) (z : Fin 8) (f : ZoneRecord → ZoneRecord) :
    (s.modZone z f).store = s.store := rfl
@[simp] theorem State.modZone_clock (s : State) (z : Fin 8) (f : ZoneRecord → ZoneRecord) :
    (s.modZone z f).clock = s.clock := rfl
@[simp] theorem State.modZone_uptime (s : State) (z : Fin 8) (f : ZoneRecord → ZoneRecord) :
    (s.modZone z f).uptime = s.uptime := rfl
@[simp] theorem State.modZone_counters (s : State) (z : Fin 8) (f : ZoneRecord → ZoneRecord) :
    (s.modZone z f).counters = s.counters := rfl
@[simp] theorem State.modZone_channels (s : State) (z : Fin 8) (f : ZoneRecord → ZoneRecord) :
    (s.modZone z f).channels = s.channels := rfl
@[simp] theorem State.modZone_inputs (s : State) (z : Fin 8) (f : ZoneRecord → ZoneRecord) :
    (s.modZone z f).inputs = s.inputs := rfl
@[simp] theorem State.modZone_chain (s : State) (z : Fin 8) (f : ZoneRecord → ZoneRecord) :
    (s.modZone z f).chain = s.chain := rfl
@[simp] theorem State.modZone_axes (s : State) (z : Fin 8) (f : ZoneRecord → ZoneRecord) :
    (s.modZone z f).axes = s.axes := rfl
@[simp] theorem State.modZone_valves (s : State) (z : Fin 8) (f : ZoneRecord → ZoneRecord) :
    (s.modZone z f).valves = s.valves := rfl
@[simp] theorem State.modZone_station (s : State) (z : Fin 8) (f : ZoneRecord → ZoneRecord) :
    (s.modZone z f).station = s.station := rfl
@[simp] theorem State.modZone_doors (s : State) (z : Fin 8) (f : ZoneRecord → ZoneRecord) :
    (s.modZone z f).doors = s.doors := rfl
@[simp] theorem State.modZone_zones (s : State) (z : Fin 8) (f : ZoneRecord → ZoneRecord) :
    (s.modZone z f).zones = upd s.zones z f := rfl
@[simp] theorem State.modZone_openCounts (s : State) (z : Fin 8) (f : ZoneRecord → ZoneRecord) :
    (s.modZone z f).openCounts = s.openCounts := rfl
@[simp] theorem State.modZone_evaluator (s : State) (z : Fin 8) (f : ZoneRecord → ZoneRecord) :
    (s.modZone z f).evaluator = s.evaluator := rfl
@[simp] theorem State.modZone_calls (s : State) (z : Fin 8) (f : ZoneRecord → ZoneRecord) :
    (s.modZone z f).calls = s.calls := rfl
@[simp] theorem State.modZone_scanner (s : State) (z : Fin 8) (f : ZoneRecord → ZoneRecord) :
    (s.modZone z f).scanner = s.scanner := rfl
@[simp] theorem State.modZone_alarms (s : State) (z : Fin 8) (f : ZoneRecord → ZoneRecord) :
    (s.modZone z f).alarms = s.alarms := rfl
@[simp] theorem State.modZone_links (s : State) (z : Fin 8) (f : ZoneRecord → ZoneRecord) :
    (s.modZone z f).links = s.links := rfl
@[simp] theorem State.modZone_handed (s : State) (z : Fin 8) (f : ZoneRecord → ZoneRecord) :
    (s.modZone z f).handed = s.handed := rfl
@[simp] theorem State.modZone_pending (s : State) (z : Fin 8) (f : ZoneRecord → ZoneRecord) :
    (s.modZone z f).pending = s.pending := rfl

/-! ### modLink -/

@[simp] theorem State.modLink_power (s : State) (l : Link) (f : LinkController → LinkController) :
    (s.modLink l f).power = s.power := rfl
@[simp] theorem State.modLink_settings (s : State) (l : Link) (f : LinkController → LinkController) :
    (s.modLink l f).settings = s.settings := rfl
@[simp] theorem State.modLink_store (s : State) (l : Link) (f : LinkController → LinkController) :
    (s.modLink l f).store = s.store := rfl
@[simp] theorem State.modLink_clock (s : State) (l : Link) (f : LinkController → LinkController) :
    (s.modLink l f).clock = s.clock := rfl
@[simp] theorem State.modLink_uptime (s : State) (l : Link) (f : LinkController → LinkController) :
    (s.modLink l f).uptime = s.uptime := rfl
@[simp] theorem State.modLink_counters (s : State) (l : Link) (f : LinkController → LinkController) :
    (s.modLink l f).counters = s.counters := rfl
@[simp] theorem State.modLink_channels (s : State) (l : Link) (f : LinkController → LinkController) :
    (s.modLink l f).channels = s.channels := rfl
@[simp] theorem State.modLink_inputs (s : State) (l : Link) (f : LinkController → LinkController) :
    (s.modLink l f).inputs = s.inputs := rfl
@[simp] theorem State.modLink_chain (s : State) (l : Link) (f : LinkController → LinkController) :
    (s.modLink l f).chain = s.chain := rfl
@[simp] theorem State.modLink_axes (s : State) (l : Link) (f : LinkController → LinkController) :
    (s.modLink l f).axes = s.axes := rfl
@[simp] theorem State.modLink_valves (s : State) (l : Link) (f : LinkController → LinkController) :
    (s.modLink l f).valves = s.valves := rfl
@[simp] theorem State.modLink_station (s : State) (l : Link) (f : LinkController → LinkController) :
    (s.modLink l f).station = s.station := rfl
@[simp] theorem State.modLink_doors (s : State) (l : Link) (f : LinkController → LinkController) :
    (s.modLink l f).doors = s.doors := rfl
@[simp] theorem State.modLink_zones (s : State) (l : Link) (f : LinkController → LinkController) :
    (s.modLink l f).zones = s.zones := rfl
@[simp] theorem State.modLink_openCounts (s : State) (l : Link) (f : LinkController → LinkController) :
    (s.modLink l f).openCounts = s.openCounts := rfl
@[simp] theorem State.modLink_evaluator (s : State) (l : Link) (f : LinkController → LinkController) :
    (s.modLink l f).evaluator = s.evaluator := rfl
@[simp] theorem State.modLink_calls (s : State) (l : Link) (f : LinkController → LinkController) :
    (s.modLink l f).calls = s.calls := rfl
@[simp] theorem State.modLink_scanner (s : State) (l : Link) (f : LinkController → LinkController) :
    (s.modLink l f).scanner = s.scanner := rfl
@[simp] theorem State.modLink_alarms (s : State) (l : Link) (f : LinkController → LinkController) :
    (s.modLink l f).alarms = s.alarms := rfl
@[simp] theorem State.modLink_links (s : State) (l : Link) (f : LinkController → LinkController) :
    (s.modLink l f).links = s.links.set l (f (s.links.get l)) := rfl
@[simp] theorem State.modLink_handed (s : State) (l : Link) (f : LinkController → LinkController) :
    (s.modLink l f).handed = s.handed := rfl
@[simp] theorem State.modLink_pending (s : State) (l : Link) (f : LinkController → LinkController) :
    (s.modLink l f).pending = s.pending := rfl

/-! ### countAxis -/

@[simp] theorem State.countAxis_power (s : State) (a : Fin 4) (f : AxisCounters → AxisCounters) :
    (s.countAxis a f).power = s.power := rfl
@[simp] theorem State.countAxis_settings (s : State) (a : Fin 4) (f : AxisCounters → AxisCounters) :
    (s.countAxis a f).settings = s.settings := rfl
@[simp] theorem State.countAxis_store (s : State) (a : Fin 4) (f : AxisCounters → AxisCounters) :
    (s.countAxis a f).store = s.store := rfl
@[simp] theorem State.countAxis_clock (s : State) (a : Fin 4) (f : AxisCounters → AxisCounters) :
    (s.countAxis a f).clock = s.clock := rfl
@[simp] theorem State.countAxis_uptime (s : State) (a : Fin 4) (f : AxisCounters → AxisCounters) :
    (s.countAxis a f).uptime = s.uptime := rfl
@[simp] theorem State.countAxis_counters (s : State) (a : Fin 4) (f : AxisCounters → AxisCounters) :
    (s.countAxis a f).counters = { s.counters with axes := upd s.counters.axes a f } := rfl
@[simp] theorem State.countAxis_channels (s : State) (a : Fin 4) (f : AxisCounters → AxisCounters) :
    (s.countAxis a f).channels = s.channels := rfl
@[simp] theorem State.countAxis_inputs (s : State) (a : Fin 4) (f : AxisCounters → AxisCounters) :
    (s.countAxis a f).inputs = s.inputs := rfl
@[simp] theorem State.countAxis_chain (s : State) (a : Fin 4) (f : AxisCounters → AxisCounters) :
    (s.countAxis a f).chain = s.chain := rfl
@[simp] theorem State.countAxis_axes (s : State) (a : Fin 4) (f : AxisCounters → AxisCounters) :
    (s.countAxis a f).axes = s.axes := rfl
@[simp] theorem State.countAxis_valves (s : State) (a : Fin 4) (f : AxisCounters → AxisCounters) :
    (s.countAxis a f).valves = s.valves := rfl
@[simp] theorem State.countAxis_station (s : State) (a : Fin 4) (f : AxisCounters → AxisCounters) :
    (s.countAxis a f).station = s.station := rfl
@[simp] theorem State.countAxis_doors (s : State) (a : Fin 4) (f : AxisCounters → AxisCounters) :
    (s.countAxis a f).doors = s.doors := rfl
@[simp] theorem State.countAxis_zones (s : State) (a : Fin 4) (f : AxisCounters → AxisCounters) :
    (s.countAxis a f).zones = s.zones := rfl
@[simp] theorem State.countAxis_openCounts (s : State) (a : Fin 4) (f : AxisCounters → AxisCounters) :
    (s.countAxis a f).openCounts = s.openCounts := rfl
@[simp] theorem State.countAxis_evaluator (s : State) (a : Fin 4) (f : AxisCounters → AxisCounters) :
    (s.countAxis a f).evaluator = s.evaluator := rfl
@[simp] theorem State.countAxis_calls (s : State) (a : Fin 4) (f : AxisCounters → AxisCounters) :
    (s.countAxis a f).calls = s.calls := rfl
@[simp] theorem State.countAxis_scanner (s : State) (a : Fin 4) (f : AxisCounters → AxisCounters) :
    (s.countAxis a f).scanner = s.scanner := rfl
@[simp] theorem State.countAxis_alarms (s : State) (a : Fin 4) (f : AxisCounters → AxisCounters) :
    (s.countAxis a f).alarms = s.alarms := rfl
@[simp] theorem State.countAxis_links (s : State) (a : Fin 4) (f : AxisCounters → AxisCounters) :
    (s.countAxis a f).links = s.links := rfl
@[simp] theorem State.countAxis_handed (s : State) (a : Fin 4) (f : AxisCounters → AxisCounters) :
    (s.countAxis a f).handed = s.handed := rfl
@[simp] theorem State.countAxis_pending (s : State) (a : Fin 4) (f : AxisCounters → AxisCounters) :
    (s.countAxis a f).pending = s.pending := rfl

/-! ### countDoor -/

@[simp] theorem State.countDoor_power (s : State) (d : Fin 32) (f : DoorCounters → DoorCounters) :
    (s.countDoor d f).power = s.power := rfl
@[simp] theorem State.countDoor_settings (s : State) (d : Fin 32) (f : DoorCounters → DoorCounters) :
    (s.countDoor d f).settings = s.settings := rfl
@[simp] theorem State.countDoor_store (s : State) (d : Fin 32) (f : DoorCounters → DoorCounters) :
    (s.countDoor d f).store = s.store := rfl
@[simp] theorem State.countDoor_clock (s : State) (d : Fin 32) (f : DoorCounters → DoorCounters) :
    (s.countDoor d f).clock = s.clock := rfl
@[simp] theorem State.countDoor_uptime (s : State) (d : Fin 32) (f : DoorCounters → DoorCounters) :
    (s.countDoor d f).uptime = s.uptime := rfl
@[simp] theorem State.countDoor_counters (s : State) (d : Fin 32) (f : DoorCounters → DoorCounters) :
    (s.countDoor d f).counters = { s.counters with doors := upd s.counters.doors d f } := rfl
@[simp] theorem State.countDoor_channels (s : State) (d : Fin 32) (f : DoorCounters → DoorCounters) :
    (s.countDoor d f).channels = s.channels := rfl
@[simp] theorem State.countDoor_inputs (s : State) (d : Fin 32) (f : DoorCounters → DoorCounters) :
    (s.countDoor d f).inputs = s.inputs := rfl
@[simp] theorem State.countDoor_chain (s : State) (d : Fin 32) (f : DoorCounters → DoorCounters) :
    (s.countDoor d f).chain = s.chain := rfl
@[simp] theorem State.countDoor_axes (s : State) (d : Fin 32) (f : DoorCounters → DoorCounters) :
    (s.countDoor d f).axes = s.axes := rfl
@[simp] theorem State.countDoor_valves (s : State) (d : Fin 32) (f : DoorCounters → DoorCounters) :
    (s.countDoor d f).valves = s.valves := rfl
@[simp] theorem State.countDoor_station (s : State) (d : Fin 32) (f : DoorCounters → DoorCounters) :
    (s.countDoor d f).station = s.station := rfl
@[simp] theorem State.countDoor_doors (s : State) (d : Fin 32) (f : DoorCounters → DoorCounters) :
    (s.countDoor d f).doors = s.doors := rfl
@[simp] theorem State.countDoor_zones (s : State) (d : Fin 32) (f : DoorCounters → DoorCounters) :
    (s.countDoor d f).zones = s.zones := rfl
@[simp] theorem State.countDoor_openCounts (s : State) (d : Fin 32) (f : DoorCounters → DoorCounters) :
    (s.countDoor d f).openCounts = s.openCounts := rfl
@[simp] theorem State.countDoor_evaluator (s : State) (d : Fin 32) (f : DoorCounters → DoorCounters) :
    (s.countDoor d f).evaluator = s.evaluator := rfl
@[simp] theorem State.countDoor_calls (s : State) (d : Fin 32) (f : DoorCounters → DoorCounters) :
    (s.countDoor d f).calls = s.calls := rfl
@[simp] theorem State.countDoor_scanner (s : State) (d : Fin 32) (f : DoorCounters → DoorCounters) :
    (s.countDoor d f).scanner = s.scanner := rfl
@[simp] theorem State.countDoor_alarms (s : State) (d : Fin 32) (f : DoorCounters → DoorCounters) :
    (s.countDoor d f).alarms = s.alarms := rfl
@[simp] theorem State.countDoor_links (s : State) (d : Fin 32) (f : DoorCounters → DoorCounters) :
    (s.countDoor d f).links = s.links := rfl
@[simp] theorem State.countDoor_handed (s : State) (d : Fin 32) (f : DoorCounters → DoorCounters) :
    (s.countDoor d f).handed = s.handed := rfl
@[simp] theorem State.countDoor_pending (s : State) (d : Fin 32) (f : DoorCounters → DoorCounters) :
    (s.countDoor d f).pending = s.pending := rfl

/-! ### countLink -/

@[simp] theorem State.countLink_power (s : State) (l : Link) (f : LinkCounters → LinkCounters) :
    (s.countLink l f).power = s.power := rfl
@[simp] theorem State.countLink_settings (s : State) (l : Link) (f : LinkCounters → LinkCounters) :
    (s.countLink l f).settings = s.settings := rfl
@[simp] theorem State.countLink_store (s : State) (l : Link) (f : LinkCounters → LinkCounters) :
    (s.countLink l f).store = s.store := rfl
@[simp] theorem State.countLink_clock (s : State) (l : Link) (f : LinkCounters → LinkCounters) :
    (s.countLink l f).clock = s.clock := rfl
@[simp] theorem State.countLink_uptime (s : State) (l : Link) (f : LinkCounters → LinkCounters) :
    (s.countLink l f).uptime = s.uptime := rfl
@[simp] theorem State.countLink_counters (s : State) (l : Link) (f : LinkCounters → LinkCounters) :
    (s.countLink l f).counters = { s.counters with links := s.counters.links.set l (f (s.counters.links.get l)) } := rfl
@[simp] theorem State.countLink_channels (s : State) (l : Link) (f : LinkCounters → LinkCounters) :
    (s.countLink l f).channels = s.channels := rfl
@[simp] theorem State.countLink_inputs (s : State) (l : Link) (f : LinkCounters → LinkCounters) :
    (s.countLink l f).inputs = s.inputs := rfl
@[simp] theorem State.countLink_chain (s : State) (l : Link) (f : LinkCounters → LinkCounters) :
    (s.countLink l f).chain = s.chain := rfl
@[simp] theorem State.countLink_axes (s : State) (l : Link) (f : LinkCounters → LinkCounters) :
    (s.countLink l f).axes = s.axes := rfl
@[simp] theorem State.countLink_valves (s : State) (l : Link) (f : LinkCounters → LinkCounters) :
    (s.countLink l f).valves = s.valves := rfl
@[simp] theorem State.countLink_station (s : State) (l : Link) (f : LinkCounters → LinkCounters) :
    (s.countLink l f).station = s.station := rfl
@[simp] theorem State.countLink_doors (s : State) (l : Link) (f : LinkCounters → LinkCounters) :
    (s.countLink l f).doors = s.doors := rfl
@[simp] theorem State.countLink_zones (s : State) (l : Link) (f : LinkCounters → LinkCounters) :
    (s.countLink l f).zones = s.zones := rfl
@[simp] theorem State.countLink_openCounts (s : State) (l : Link) (f : LinkCounters → LinkCounters) :
    (s.countLink l f).openCounts = s.openCounts := rfl
@[simp] theorem State.countLink_evaluator (s : State) (l : Link) (f : LinkCounters → LinkCounters) :
    (s.countLink l f).evaluator = s.evaluator := rfl
@[simp] theorem State.countLink_calls (s : State) (l : Link) (f : LinkCounters → LinkCounters) :
    (s.countLink l f).calls = s.calls := rfl
@[simp] theorem State.countLink_scanner (s : State) (l : Link) (f : LinkCounters → LinkCounters) :
    (s.countLink l f).scanner = s.scanner := rfl
@[simp] theorem State.countLink_alarms (s : State) (l : Link) (f : LinkCounters → LinkCounters) :
    (s.countLink l f).alarms = s.alarms := rfl
@[simp] theorem State.countLink_links (s : State) (l : Link) (f : LinkCounters → LinkCounters) :
    (s.countLink l f).links = s.links := rfl
@[simp] theorem State.countLink_handed (s : State) (l : Link) (f : LinkCounters → LinkCounters) :
    (s.countLink l f).handed = s.handed := rfl
@[simp] theorem State.countLink_pending (s : State) (l : Link) (f : LinkCounters → LinkCounters) :
    (s.countLink l f).pending = s.pending := rfl

/-! ### hand -/

@[simp] theorem State.hand_power (s : State) (is : List Instr) :
    (s.hand is).power = s.power := rfl
@[simp] theorem State.hand_settings (s : State) (is : List Instr) :
    (s.hand is).settings = s.settings := rfl
@[simp] theorem State.hand_store (s : State) (is : List Instr) :
    (s.hand is).store = s.store := rfl
@[simp] theorem State.hand_clock (s : State) (is : List Instr) :
    (s.hand is).clock = s.clock := rfl
@[simp] theorem State.hand_uptime (s : State) (is : List Instr) :
    (s.hand is).uptime = s.uptime := rfl
@[simp] theorem State.hand_counters (s : State) (is : List Instr) :
    (s.hand is).counters = s.counters := rfl
@[simp] theorem State.hand_channels (s : State) (is : List Instr) :
    (s.hand is).channels = s.channels := rfl
@[simp] theorem State.hand_inputs (s : State) (is : List Instr) :
    (s.hand is).inputs = s.inputs := rfl
@[simp] theorem State.hand_chain (s : State) (is : List Instr) :
    (s.hand is).chain = s.chain := rfl
@[simp] theorem State.hand_axes (s : State) (is : List Instr) :
    (s.hand is).axes = s.axes := rfl
@[simp] theorem State.hand_valves (s : State) (is : List Instr) :
    (s.hand is).valves = s.valves := rfl
@[simp] theorem State.hand_station (s : State) (is : List Instr) :
    (s.hand is).station = s.station := rfl
@[simp] theorem State.hand_doors (s : State) (is : List Instr) :
    (s.hand is).doors = s.doors := rfl
@[simp] theorem State.hand_zones (s : State) (is : List Instr) :
    (s.hand is).zones = s.zones := rfl
@[simp] theorem State.hand_openCounts (s : State) (is : List Instr) :
    (s.hand is).openCounts = s.openCounts := rfl
@[simp] theorem State.hand_evaluator (s : State) (is : List Instr) :
    (s.hand is).evaluator = s.evaluator := rfl
@[simp] theorem State.hand_calls (s : State) (is : List Instr) :
    (s.hand is).calls = s.calls := rfl
@[simp] theorem State.hand_scanner (s : State) (is : List Instr) :
    (s.hand is).scanner = s.scanner := rfl
@[simp] theorem State.hand_alarms (s : State) (is : List Instr) :
    (s.hand is).alarms = s.alarms := rfl
@[simp] theorem State.hand_links (s : State) (is : List Instr) :
    (s.hand is).links = s.links := rfl
@[simp] theorem State.hand_handed (s : State) (is : List Instr) :
    (s.hand is).handed = s.handed ++ is := rfl
@[simp] theorem State.hand_pending (s : State) (is : List Instr) :
    (s.hand is).pending = s.pending := rfl

/-! ### taken -/

@[simp] theorem State.taken_power (s : State) (i : Instr) :
    (s.taken i).power = s.power := rfl
@[simp] theorem State.taken_settings (s : State) (i : Instr) :
    (s.taken i).settings = s.settings := rfl
@[simp] theorem State.taken_store (s : State) (i : Instr) :
    (s.taken i).store = s.store := rfl
@[simp] theorem State.taken_clock (s : State) (i : Instr) :
    (s.taken i).clock = s.clock := rfl
@[simp] theorem State.taken_uptime (s : State) (i : Instr) :
    (s.taken i).uptime = s.uptime := rfl
@[simp] theorem State.taken_counters (s : State) (i : Instr) :
    (s.taken i).counters = s.counters := rfl
@[simp] theorem State.taken_channels (s : State) (i : Instr) :
    (s.taken i).channels = s.channels := rfl
@[simp] theorem State.taken_inputs (s : State) (i : Instr) :
    (s.taken i).inputs = s.inputs := rfl
@[simp] theorem State.taken_chain (s : State) (i : Instr) :
    (s.taken i).chain = s.chain := rfl
@[simp] theorem State.taken_axes (s : State) (i : Instr) :
    (s.taken i).axes = s.axes := rfl
@[simp] theorem State.taken_valves (s : State) (i : Instr) :
    (s.taken i).valves = s.valves := rfl
@[simp] theorem State.taken_station (s : State) (i : Instr) :
    (s.taken i).station = s.station := rfl
@[simp] theorem State.taken_doors (s : State) (i : Instr) :
    (s.taken i).doors = s.doors := rfl
@[simp] theorem State.taken_zones (s : State) (i : Instr) :
    (s.taken i).zones = s.zones := rfl
@[simp] theorem State.taken_openCounts (s : State) (i : Instr) :
    (s.taken i).openCounts = s.openCounts := rfl
@[simp] theorem State.taken_evaluator (s : State) (i : Instr) :
    (s.taken i).evaluator = s.evaluator := rfl
@[simp] theorem State.taken_calls (s : State) (i : Instr) :
    (s.taken i).calls = s.calls := rfl
@[simp] theorem State.taken_scanner (s : State) (i : Instr) :
    (s.taken i).scanner = s.scanner := rfl
@[simp] theorem State.taken_alarms (s : State) (i : Instr) :
    (s.taken i).alarms = s.alarms := rfl
@[simp] theorem State.taken_links (s : State) (i : Instr) :
    (s.taken i).links = s.links := rfl
@[simp] theorem State.taken_handed (s : State) (i : Instr) :
    (s.taken i).handed = s.handed.erase i := rfl
@[simp] theorem State.taken_pending (s : State) (i : Instr) :
    (s.taken i).pending = s.pending := rfl

/-! ### takenFirst -/

@[simp] theorem State.takenFirst_power (s : State) (p : Instr → Bool) :
    (s.takenFirst p).power = s.power := rfl
@[simp] theorem State.takenFirst_settings (s : State) (p : Instr → Bool) :
    (s.takenFirst p).settings = s.settings := rfl
@[simp] theorem State.takenFirst_store (s : State) (p : Instr → Bool) :
    (s.takenFirst p).store = s.store := rfl
@[simp] theorem State.takenFirst_clock (s : State) (p : Instr → Bool) :
    (s.takenFirst p).clock = s.clock := rfl
@[simp] theorem State.takenFirst_uptime (s : State) (p : Instr → Bool) :
    (s.takenFirst p).uptime = s.uptime := rfl
@[simp] theorem State.takenFirst_counters (s : State) (p : Instr → Bool) :
    (s.takenFirst p).counters = s.counters := rfl
@[simp] theorem State.takenFirst_channels (s : State) (p : Instr → Bool) :
    (s.takenFirst p).channels = s.channels := rfl
@[simp] theorem State.takenFirst_inputs (s : State) (p : Instr → Bool) :
    (s.takenFirst p).inputs = s.inputs := rfl
@[simp] theorem State.takenFirst_chain (s : State) (p : Instr → Bool) :
    (s.takenFirst p).chain = s.chain := rfl
@[simp] theorem State.takenFirst_axes (s : State) (p : Instr → Bool) :
    (s.takenFirst p).axes = s.axes := rfl
@[simp] theorem State.takenFirst_valves (s : State) (p : Instr → Bool) :
    (s.takenFirst p).valves = s.valves := rfl
@[simp] theorem State.takenFirst_station (s : State) (p : Instr → Bool) :
    (s.takenFirst p).station = s.station := rfl
@[simp] theorem State.takenFirst_doors (s : State) (p : Instr → Bool) :
    (s.takenFirst p).doors = s.doors := rfl
@[simp] theorem State.takenFirst_zones (s : State) (p : Instr → Bool) :
    (s.takenFirst p).zones = s.zones := rfl
@[simp] theorem State.takenFirst_openCounts (s : State) (p : Instr → Bool) :
    (s.takenFirst p).openCounts = s.openCounts := rfl
@[simp] theorem State.takenFirst_evaluator (s : State) (p : Instr → Bool) :
    (s.takenFirst p).evaluator = s.evaluator := rfl
@[simp] theorem State.takenFirst_calls (s : State) (p : Instr → Bool) :
    (s.takenFirst p).calls = s.calls := rfl
@[simp] theorem State.takenFirst_scanner (s : State) (p : Instr → Bool) :
    (s.takenFirst p).scanner = s.scanner := rfl
@[simp] theorem State.takenFirst_alarms (s : State) (p : Instr → Bool) :
    (s.takenFirst p).alarms = s.alarms := rfl
@[simp] theorem State.takenFirst_links (s : State) (p : Instr → Bool) :
    (s.takenFirst p).links = s.links := rfl
@[simp] theorem State.takenFirst_handed (s : State) (p : Instr → Bool) :
    (s.takenFirst p).handed = s.handed.filter (fun i => !p i) := rfl
@[simp] theorem State.takenFirst_pending (s : State) (p : Instr → Bool) :
    (s.takenFirst p).pending = s.pending := rfl

/-! ### reportOn -/

@[simp] theorem State.reportOn_power (s : State) (l : Link) (b : ReportBody) :
    (s.reportOn l b).power = s.power := rfl
@[simp] theorem State.reportOn_settings (s : State) (l : Link) (b : ReportBody) :
    (s.reportOn l b).settings = s.settings := rfl
@[simp] theorem State.reportOn_store (s : State) (l : Link) (b : ReportBody) :
    (s.reportOn l b).store = s.store := rfl
@[simp] theorem State.reportOn_clock (s : State) (l : Link) (b : ReportBody) :
    (s.reportOn l b).clock = s.clock := rfl
@[simp] theorem State.reportOn_uptime (s : State) (l : Link) (b : ReportBody) :
    (s.reportOn l b).uptime = s.uptime := rfl
@[simp] theorem State.reportOn_counters (s : State) (l : Link) (b : ReportBody) :
    (s.reportOn l b).counters = { s.counters with links := s.counters.links.set l (countDiscard (s.links.get l) b (s.counters.links.get l)) } := rfl
@[simp] theorem State.reportOn_channels (s : State) (l : Link) (b : ReportBody) :
    (s.reportOn l b).channels = s.channels := rfl
@[simp] theorem State.reportOn_inputs (s : State) (l : Link) (b : ReportBody) :
    (s.reportOn l b).inputs = s.inputs := rfl
@[simp] theorem State.reportOn_chain (s : State) (l : Link) (b : ReportBody) :
    (s.reportOn l b).chain = s.chain := rfl
@[simp] theorem State.reportOn_axes (s : State) (l : Link) (b : ReportBody) :
    (s.reportOn l b).axes = s.axes := rfl
@[simp] theorem State.reportOn_valves (s : State) (l : Link) (b : ReportBody) :
    (s.reportOn l b).valves = s.valves := rfl
@[simp] theorem State.reportOn_station (s : State) (l : Link) (b : ReportBody) :
    (s.reportOn l b).station = s.station := rfl
@[simp] theorem State.reportOn_doors (s : State) (l : Link) (b : ReportBody) :
    (s.reportOn l b).doors = s.doors := rfl
@[simp] theorem State.reportOn_zones (s : State) (l : Link) (b : ReportBody) :
    (s.reportOn l b).zones = s.zones := rfl
@[simp] theorem State.reportOn_openCounts (s : State) (l : Link) (b : ReportBody) :
    (s.reportOn l b).openCounts = s.openCounts := rfl
@[simp] theorem State.reportOn_evaluator (s : State) (l : Link) (b : ReportBody) :
    (s.reportOn l b).evaluator = s.evaluator := rfl
@[simp] theorem State.reportOn_calls (s : State) (l : Link) (b : ReportBody) :
    (s.reportOn l b).calls = s.calls := rfl
@[simp] theorem State.reportOn_scanner (s : State) (l : Link) (b : ReportBody) :
    (s.reportOn l b).scanner = s.scanner := rfl
@[simp] theorem State.reportOn_alarms (s : State) (l : Link) (b : ReportBody) :
    (s.reportOn l b).alarms = s.alarms := rfl
@[simp] theorem State.reportOn_links (s : State) (l : Link) (b : ReportBody) :
    (s.reportOn l b).links = s.links.set l ((s.links.get l).enqueue ⟨s.clock, b⟩) := rfl
@[simp] theorem State.reportOn_handed (s : State) (l : Link) (b : ReportBody) :
    (s.reportOn l b).handed = s.handed := rfl
@[simp] theorem State.reportOn_pending (s : State) (l : Link) (b : ReportBody) :
    (s.reportOn l b).pending = s.pending := rfl

/-! ### report -/

@[simp] theorem State.report_power (s : State) (b : ReportBody) :
    (s.report b).power = s.power := rfl
@[simp] theorem State.report_settings (s : State) (b : ReportBody) :
    (s.report b).settings = s.settings := rfl
@[simp] theorem State.report_store (s : State) (b : ReportBody) :
    (s.report b).store = s.store := rfl
@[simp] theorem State.report_clock (s : State) (b : ReportBody) :
    (s.report b).clock = s.clock := rfl
@[simp] theorem State.report_uptime (s : State) (b : ReportBody) :
    (s.report b).uptime = s.uptime := rfl
@[simp] theorem State.report_counters (s : State) (b : ReportBody) :
    (s.report b).counters = { s.counters with links := ⟨countDiscard s.links.bridge b s.counters.links.bridge, countDiscard s.links.localLink b s.counters.links.localLink⟩ } := rfl
@[simp] theorem State.report_channels (s : State) (b : ReportBody) :
    (s.report b).channels = s.channels := rfl
@[simp] theorem State.report_inputs (s : State) (b : ReportBody) :
    (s.report b).inputs = s.inputs := rfl
@[simp] theorem State.report_chain (s : State) (b : ReportBody) :
    (s.report b).chain = s.chain := rfl
@[simp] theorem State.report_axes (s : State) (b : ReportBody) :
    (s.report b).axes = s.axes := rfl
@[simp] theorem State.report_valves (s : State) (b : ReportBody) :
    (s.report b).valves = s.valves := rfl
@[simp] theorem State.report_station (s : State) (b : ReportBody) :
    (s.report b).station = s.station := rfl
@[simp] theorem State.report_doors (s : State) (b : ReportBody) :
    (s.report b).doors = s.doors := rfl
@[simp] theorem State.report_zones (s : State) (b : ReportBody) :
    (s.report b).zones = s.zones := rfl
@[simp] theorem State.report_openCounts (s : State) (b : ReportBody) :
    (s.report b).openCounts = s.openCounts := rfl
@[simp] theorem State.report_evaluator (s : State) (b : ReportBody) :
    (s.report b).evaluator = s.evaluator := rfl
@[simp] theorem State.report_calls (s : State) (b : ReportBody) :
    (s.report b).calls = s.calls := rfl
@[simp] theorem State.report_scanner (s : State) (b : ReportBody) :
    (s.report b).scanner = s.scanner := rfl
@[simp] theorem State.report_alarms (s : State) (b : ReportBody) :
    (s.report b).alarms = s.alarms := rfl
@[simp] theorem State.report_links (s : State) (b : ReportBody) :
    (s.report b).links = ⟨s.links.bridge.enqueue ⟨s.clock, b⟩, s.links.localLink.enqueue ⟨s.clock, b⟩⟩ := rfl
@[simp] theorem State.report_handed (s : State) (b : ReportBody) :
    (s.report b).handed = s.handed := rfl
@[simp] theorem State.report_pending (s : State) (b : ReportBody) :
    (s.report b).pending = s.pending := rfl

/-! ### openRequest -/

@[simp] theorem State.openRequest_power (s : State) (l : Link) (i : Instr) :
    (s.openRequest l i).power = s.power := rfl
@[simp] theorem State.openRequest_settings (s : State) (l : Link) (i : Instr) :
    (s.openRequest l i).settings = s.settings := rfl
@[simp] theorem State.openRequest_store (s : State) (l : Link) (i : Instr) :
    (s.openRequest l i).store = s.store := rfl
@[simp] theorem State.openRequest_clock (s : State) (l : Link) (i : Instr) :
    (s.openRequest l i).clock = s.clock := rfl
@[simp] theorem State.openRequest_uptime (s : State) (l : Link) (i : Instr) :
    (s.openRequest l i).uptime = s.uptime := rfl
@[simp] theorem State.openRequest_counters (s : State) (l : Link) (i : Instr) :
    (s.openRequest l i).counters = s.counters := rfl
@[simp] theorem State.openRequest_channels (s : State) (l : Link) (i : Instr) :
    (s.openRequest l i).channels = s.channels := rfl
@[simp] theorem State.openRequest_inputs (s : State) (l : Link) (i : Instr) :
    (s.openRequest l i).inputs = s.inputs := rfl
@[simp] theorem State.openRequest_chain (s : State) (l : Link) (i : Instr) :
    (s.openRequest l i).chain = s.chain := rfl
@[simp] theorem State.openRequest_axes (s : State) (l : Link) (i : Instr) :
    (s.openRequest l i).axes = s.axes := rfl
@[simp] theorem State.openRequest_valves (s : State) (l : Link) (i : Instr) :
    (s.openRequest l i).valves = s.valves := rfl
@[simp] theorem State.openRequest_station (s : State) (l : Link) (i : Instr) :
    (s.openRequest l i).station = s.station := rfl
@[simp] theorem State.openRequest_doors (s : State) (l : Link) (i : Instr) :
    (s.openRequest l i).doors = s.doors := rfl
@[simp] theorem State.openRequest_zones (s : State) (l : Link) (i : Instr) :
    (s.openRequest l i).zones = s.zones := rfl
@[simp] theorem State.openRequest_openCounts (s : State) (l : Link) (i : Instr) :
    (s.openRequest l i).openCounts = s.openCounts := rfl
@[simp] theorem State.openRequest_evaluator (s : State) (l : Link) (i : Instr) :
    (s.openRequest l i).evaluator = s.evaluator := rfl
@[simp] theorem State.openRequest_calls (s : State) (l : Link) (i : Instr) :
    (s.openRequest l i).calls = s.calls := rfl
@[simp] theorem State.openRequest_scanner (s : State) (l : Link) (i : Instr) :
    (s.openRequest l i).scanner = s.scanner := rfl
@[simp] theorem State.openRequest_alarms (s : State) (l : Link) (i : Instr) :
    (s.openRequest l i).alarms = s.alarms := rfl
@[simp] theorem State.openRequest_links (s : State) (l : Link) (i : Instr) :
    (s.openRequest l i).links = s.links.set l (((s.links.get l).release l i).freeSlot) := rfl
@[simp] theorem State.openRequest_handed (s : State) (l : Link) (i : Instr) :
    (s.openRequest l i).handed = s.handed := rfl
@[simp] theorem State.openRequest_pending (s : State) (l : Link) (i : Instr) :
    (s.openRequest l i).pending = s.pending := rfl

/-! ### placeReply -/

@[simp] theorem State.placeReply_power (s : State) (l : Link) (r : Reply) :
    (s.placeReply l r).power = s.power := rfl
@[simp] theorem State.placeReply_settings (s : State) (l : Link) (r : Reply) :
    (s.placeReply l r).settings = s.settings := rfl
@[simp] theorem State.placeReply_store (s : State) (l : Link) (r : Reply) :
    (s.placeReply l r).store = s.store := rfl
@[simp] theorem State.placeReply_clock (s : State) (l : Link) (r : Reply) :
    (s.placeReply l r).clock = s.clock := rfl
@[simp] theorem State.placeReply_uptime (s : State) (l : Link) (r : Reply) :
    (s.placeReply l r).uptime = s.uptime := rfl
@[simp] theorem State.placeReply_counters (s : State) (l : Link) (r : Reply) :
    (s.placeReply l r).counters = s.counters := rfl
@[simp] theorem State.placeReply_channels (s : State) (l : Link) (r : Reply) :
    (s.placeReply l r).channels = s.channels := rfl
@[simp] theorem State.placeReply_inputs (s : State) (l : Link) (r : Reply) :
    (s.placeReply l r).inputs = s.inputs := rfl
@[simp] theorem State.placeReply_chain (s : State) (l : Link) (r : Reply) :
    (s.placeReply l r).chain = s.chain := rfl
@[simp] theorem State.placeReply_axes (s : State) (l : Link) (r : Reply) :
    (s.placeReply l r).axes = s.axes := rfl
@[simp] theorem State.placeReply_valves (s : State) (l : Link) (r : Reply) :
    (s.placeReply l r).valves = s.valves := rfl
@[simp] theorem State.placeReply_station (s : State) (l : Link) (r : Reply) :
    (s.placeReply l r).station = s.station := rfl
@[simp] theorem State.placeReply_doors (s : State) (l : Link) (r : Reply) :
    (s.placeReply l r).doors = s.doors := rfl
@[simp] theorem State.placeReply_zones (s : State) (l : Link) (r : Reply) :
    (s.placeReply l r).zones = s.zones := rfl
@[simp] theorem State.placeReply_openCounts (s : State) (l : Link) (r : Reply) :
    (s.placeReply l r).openCounts = s.openCounts := rfl
@[simp] theorem State.placeReply_evaluator (s : State) (l : Link) (r : Reply) :
    (s.placeReply l r).evaluator = s.evaluator := rfl
@[simp] theorem State.placeReply_calls (s : State) (l : Link) (r : Reply) :
    (s.placeReply l r).calls = s.calls := rfl
@[simp] theorem State.placeReply_scanner (s : State) (l : Link) (r : Reply) :
    (s.placeReply l r).scanner = s.scanner := rfl
@[simp] theorem State.placeReply_alarms (s : State) (l : Link) (r : Reply) :
    (s.placeReply l r).alarms = s.alarms := rfl
@[simp] theorem State.placeReply_links (s : State) (l : Link) (r : Reply) :
    (s.placeReply l r).links = s.links.set l { s.links.get l with slot := some r } := rfl
@[simp] theorem State.placeReply_handed (s : State) (l : Link) (r : Reply) :
    (s.placeReply l r).handed = s.handed := rfl
@[simp] theorem State.placeReply_pending (s : State) (l : Link) (r : Reply) :
    (s.placeReply l r).pending = s.pending := rfl

/-! ### pump -/

@[simp] theorem State.pump_power (s : State) :
    (s.pump).power = s.power := rfl
@[simp] theorem State.pump_settings (s : State) :
    (s.pump).settings = s.settings := rfl
@[simp] theorem State.pump_store (s : State) :
    (s.pump).store = s.store := rfl
@[simp] theorem State.pump_clock (s : State) :
    (s.pump).clock = s.clock := rfl
@[simp] theorem State.pump_uptime (s : State) :
    (s.pump).uptime = s.uptime := rfl
@[simp] theorem State.pump_counters (s : State) :
    (s.pump).counters = s.counters := rfl
@[simp] theorem State.pump_channels (s : State) :
    (s.pump).channels = s.channels := rfl
@[simp] theorem State.pump_inputs (s : State) :
    (s.pump).inputs = s.inputs := rfl
@[simp] theorem State.pump_chain (s : State) :
    (s.pump).chain = s.chain := rfl
@[simp] theorem State.pump_axes (s : State) :
    (s.pump).axes = s.axes := rfl
@[simp] theorem State.pump_valves (s : State) :
    (s.pump).valves = s.valves := rfl
@[simp] theorem State.pump_station (s : State) :
    (s.pump).station = s.station := rfl
@[simp] theorem State.pump_doors (s : State) :
    (s.pump).doors = s.doors := rfl
@[simp] theorem State.pump_zones (s : State) :
    (s.pump).zones = s.zones := rfl
@[simp] theorem State.pump_openCounts (s : State) :
    (s.pump).openCounts = s.openCounts := rfl
@[simp] theorem State.pump_evaluator (s : State) :
    (s.pump).evaluator = s.evaluator := rfl
@[simp] theorem State.pump_calls (s : State) :
    (s.pump).calls = s.calls := rfl
@[simp] theorem State.pump_scanner (s : State) :
    (s.pump).scanner = s.scanner := rfl
@[simp] theorem State.pump_alarms (s : State) :
    (s.pump).alarms = s.alarms := rfl
@[simp] theorem State.pump_links (s : State) :
    (s.pump).links = ⟨s.links.bridge.transmit, s.links.localLink.transmit⟩ := rfl
@[simp] theorem State.pump_handed (s : State) :
    (s.pump).handed = s.handed := rfl
@[simp] theorem State.pump_pending (s : State) :
    (s.pump).pending = s.pending := rfl

/-! ### writeOutputs -/

@[simp] theorem State.writeOutputs_power (s : State) (d : Fin 32) (o : DoorOutputs) :
    (s.writeOutputs d o).power = s.power := rfl
@[simp] theorem State.writeOutputs_settings (s : State) (d : Fin 32) (o : DoorOutputs) :
    (s.writeOutputs d o).settings = s.settings := rfl
@[simp] theorem State.writeOutputs_store (s : State) (d : Fin 32) (o : DoorOutputs) :
    (s.writeOutputs d o).store = s.store := rfl
@[simp] theorem State.writeOutputs_clock (s : State) (d : Fin 32) (o : DoorOutputs) :
    (s.writeOutputs d o).clock = s.clock := rfl
@[simp] theorem State.writeOutputs_uptime (s : State) (d : Fin 32) (o : DoorOutputs) :
    (s.writeOutputs d o).uptime = s.uptime := rfl
@[simp] theorem State.writeOutputs_counters (s : State) (d : Fin 32) (o : DoorOutputs) :
    (s.writeOutputs d o).counters = s.counters := rfl
@[simp] theorem State.writeOutputs_channels (s : State) (d : Fin 32) (o : DoorOutputs) :
    (s.writeOutputs d o).channels = s.channels := rfl
@[simp] theorem State.writeOutputs_inputs (s : State) (d : Fin 32) (o : DoorOutputs) :
    (s.writeOutputs d o).inputs = s.inputs := rfl
@[simp] theorem State.writeOutputs_chain (s : State) (d : Fin 32) (o : DoorOutputs) :
    (s.writeOutputs d o).chain = { s.chain with outputs := s.chain.outputs.set d o } := rfl
@[simp] theorem State.writeOutputs_axes (s : State) (d : Fin 32) (o : DoorOutputs) :
    (s.writeOutputs d o).axes = s.axes := rfl
@[simp] theorem State.writeOutputs_valves (s : State) (d : Fin 32) (o : DoorOutputs) :
    (s.writeOutputs d o).valves = s.valves := rfl
@[simp] theorem State.writeOutputs_station (s : State) (d : Fin 32) (o : DoorOutputs) :
    (s.writeOutputs d o).station = s.station := rfl
@[simp] theorem State.writeOutputs_doors (s : State) (d : Fin 32) (o : DoorOutputs) :
    (s.writeOutputs d o).doors = s.doors := rfl
@[simp] theorem State.writeOutputs_zones (s : State) (d : Fin 32) (o : DoorOutputs) :
    (s.writeOutputs d o).zones = s.zones := rfl
@[simp] theorem State.writeOutputs_openCounts (s : State) (d : Fin 32) (o : DoorOutputs) :
    (s.writeOutputs d o).openCounts = s.openCounts := rfl
@[simp] theorem State.writeOutputs_evaluator (s : State) (d : Fin 32) (o : DoorOutputs) :
    (s.writeOutputs d o).evaluator = s.evaluator := rfl
@[simp] theorem State.writeOutputs_calls (s : State) (d : Fin 32) (o : DoorOutputs) :
    (s.writeOutputs d o).calls = s.calls := rfl
@[simp] theorem State.writeOutputs_scanner (s : State) (d : Fin 32) (o : DoorOutputs) :
    (s.writeOutputs d o).scanner = s.scanner := rfl
@[simp] theorem State.writeOutputs_alarms (s : State) (d : Fin 32) (o : DoorOutputs) :
    (s.writeOutputs d o).alarms = s.alarms := rfl
@[simp] theorem State.writeOutputs_links (s : State) (d : Fin 32) (o : DoorOutputs) :
    (s.writeOutputs d o).links = s.links := rfl
@[simp] theorem State.writeOutputs_handed (s : State) (d : Fin 32) (o : DoorOutputs) :
    (s.writeOutputs d o).handed = s.handed := rfl
@[simp] theorem State.writeOutputs_pending (s : State) (d : Fin 32) (o : DoorOutputs) :
    (s.writeOutputs d o).pending = s.pending := rfl

/-! ### setHold -/

@[simp] theorem State.setHold_power (s : State) (h : HoldStatus) :
    (s.setHold h).power = s.power := rfl
@[simp] theorem State.setHold_settings (s : State) (h : HoldStatus) :
    (s.setHold h).settings = s.settings := rfl
@[simp] theorem State.setHold_store (s : State) (h : HoldStatus) :
    (s.setHold h).store = s.store := rfl
@[simp] theorem State.setHold_clock (s : State) (h : HoldStatus) :
    (s.setHold h).clock = s.clock := rfl
@[simp] theorem State.setHold_uptime (s : State) (h : HoldStatus) :
    (s.setHold h).uptime = s.uptime := rfl
@[simp] theorem State.setHold_counters (s : State) (h : HoldStatus) :
    (s.setHold h).counters = s.counters := rfl
@[simp] theorem State.setHold_channels (s : State) (h : HoldStatus) :
    (s.setHold h).channels = s.channels := rfl
@[simp] theorem State.setHold_inputs (s : State) (h : HoldStatus) :
    (s.setHold h).inputs = s.inputs := rfl
@[simp] theorem State.setHold_chain (s : State) (h : HoldStatus) :
    (s.setHold h).chain = s.chain := rfl
@[simp] theorem State.setHold_axes (s : State) (h : HoldStatus) :
    (s.setHold h).axes = s.axes := rfl
@[simp] theorem State.setHold_valves (s : State) (h : HoldStatus) :
    (s.setHold h).valves = s.valves := rfl
@[simp] theorem State.setHold_station (s : State) (h : HoldStatus) :
    (s.setHold h).station = { s.station with hold := h } := rfl
@[simp] theorem State.setHold_doors (s : State) (h : HoldStatus) :
    (s.setHold h).doors = s.doors := rfl
@[simp] theorem State.setHold_zones (s : State) (h : HoldStatus) :
    (s.setHold h).zones = s.zones := rfl
@[simp] theorem State.setHold_openCounts (s : State) (h : HoldStatus) :
    (s.setHold h).openCounts = s.openCounts := rfl
@[simp] theorem State.setHold_evaluator (s : State) (h : HoldStatus) :
    (s.setHold h).evaluator = s.evaluator := rfl
@[simp] theorem State.setHold_calls (s : State) (h : HoldStatus) :
    (s.setHold h).calls = s.calls := rfl
@[simp] theorem State.setHold_scanner (s : State) (h : HoldStatus) :
    (s.setHold h).scanner = s.scanner := rfl
@[simp] theorem State.setHold_alarms (s : State) (h : HoldStatus) :
    (s.setHold h).alarms = s.alarms := rfl
@[simp] theorem State.setHold_links (s : State) (h : HoldStatus) :
    (s.setHold h).links = s.links := rfl
@[simp] theorem State.setHold_handed (s : State) (h : HoldStatus) :
    (s.setHold h).handed = s.handed ++ [.sourceChange .deckHold ⟨h.code, true⟩] := rfl
@[simp] theorem State.setHold_pending (s : State) (h : HoldStatus) :
    (s.setHold h).pending = s.pending := rfl

/-! ### setClaims -/

@[simp] theorem State.setClaims_power (s : State) (c : Pair Bool) :
    (s.setClaims c).power = s.power := rfl
@[simp] theorem State.setClaims_settings (s : State) (c : Pair Bool) :
    (s.setClaims c).settings = s.settings := rfl
@[simp] theorem State.setClaims_store (s : State) (c : Pair Bool) :
    (s.setClaims c).store = s.store := rfl
@[simp] theorem State.setClaims_clock (s : State) (c : Pair Bool) :
    (s.setClaims c).clock = s.clock := rfl
@[simp] theorem State.setClaims_uptime (s : State) (c : Pair Bool) :
    (s.setClaims c).uptime = s.uptime := rfl
@[simp] theorem State.setClaims_counters (s : State) (c : Pair Bool) :
    (s.setClaims c).counters = s.counters := rfl
@[simp] theorem State.setClaims_channels (s : State) (c : Pair Bool) :
    (s.setClaims c).channels = s.channels := rfl
@[simp] theorem State.setClaims_inputs (s : State) (c : Pair Bool) :
    (s.setClaims c).inputs = s.inputs := rfl
@[simp] theorem State.setClaims_chain (s : State) (c : Pair Bool) :
    (s.setClaims c).chain = s.chain := rfl
@[simp] theorem State.setClaims_axes (s : State) (c : Pair Bool) :
    (s.setClaims c).axes = s.axes := rfl
@[simp] theorem State.setClaims_valves (s : State) (c : Pair Bool) :
    (s.setClaims c).valves = s.valves := rfl
@[simp] theorem State.setClaims_station (s : State) (c : Pair Bool) :
    (s.setClaims c).station = { s.station with claims := c } := rfl
@[simp] theorem State.setClaims_doors (s : State) (c : Pair Bool) :
    (s.setClaims c).doors = s.doors := rfl
@[simp] theorem State.setClaims_zones (s : State) (c : Pair Bool) :
    (s.setClaims c).zones = s.zones := rfl
@[simp] theorem State.setClaims_openCounts (s : State) (c : Pair Bool) :
    (s.setClaims c).openCounts = s.openCounts := rfl
@[simp] theorem State.setClaims_evaluator (s : State) (c : Pair Bool) :
    (s.setClaims c).evaluator = s.evaluator := rfl
@[simp] theorem State.setClaims_calls (s : State) (c : Pair Bool) :
    (s.setClaims c).calls = s.calls := rfl
@[simp] theorem State.setClaims_scanner (s : State) (c : Pair Bool) :
    (s.setClaims c).scanner = s.scanner := rfl
@[simp] theorem State.setClaims_alarms (s : State) (c : Pair Bool) :
    (s.setClaims c).alarms = s.alarms := rfl
@[simp] theorem State.setClaims_links (s : State) (c : Pair Bool) :
    (s.setClaims c).links = s.links := rfl
@[simp] theorem State.setClaims_handed (s : State) (c : Pair Bool) :
    (s.setClaims c).handed = s.handed := rfl
@[simp] theorem State.setClaims_pending (s : State) (c : Pair Bool) :
    (s.setClaims c).pending = s.pending := rfl

/-! ### setButton -/

@[simp] theorem State.setButton_power (s : State) (n : Fin 16) (b : Button) :
    (s.setButton n b).power = s.power := rfl
@[simp] theorem State.setButton_settings (s : State) (n : Fin 16) (b : Button) :
    (s.setButton n b).settings = s.settings := rfl
@[simp] theorem State.setButton_store (s : State) (n : Fin 16) (b : Button) :
    (s.setButton n b).store = s.store := rfl
@[simp] theorem State.setButton_clock (s : State) (n : Fin 16) (b : Button) :
    (s.setButton n b).clock = s.clock := rfl
@[simp] theorem State.setButton_uptime (s : State) (n : Fin 16) (b : Button) :
    (s.setButton n b).uptime = s.uptime := rfl
@[simp] theorem State.setButton_counters (s : State) (n : Fin 16) (b : Button) :
    (s.setButton n b).counters = s.counters := rfl
@[simp] theorem State.setButton_channels (s : State) (n : Fin 16) (b : Button) :
    (s.setButton n b).channels = s.channels := rfl
@[simp] theorem State.setButton_inputs (s : State) (n : Fin 16) (b : Button) :
    (s.setButton n b).inputs = s.inputs := rfl
@[simp] theorem State.setButton_chain (s : State) (n : Fin 16) (b : Button) :
    (s.setButton n b).chain = s.chain := rfl
@[simp] theorem State.setButton_axes (s : State) (n : Fin 16) (b : Button) :
    (s.setButton n b).axes = s.axes := rfl
@[simp] theorem State.setButton_valves (s : State) (n : Fin 16) (b : Button) :
    (s.setButton n b).valves = s.valves := rfl
@[simp] theorem State.setButton_station (s : State) (n : Fin 16) (b : Button) :
    (s.setButton n b).station = s.station := rfl
@[simp] theorem State.setButton_doors (s : State) (n : Fin 16) (b : Button) :
    (s.setButton n b).doors = s.doors := rfl
@[simp] theorem State.setButton_zones (s : State) (n : Fin 16) (b : Button) :
    (s.setButton n b).zones = s.zones := rfl
@[simp] theorem State.setButton_openCounts (s : State) (n : Fin 16) (b : Button) :
    (s.setButton n b).openCounts = s.openCounts := rfl
@[simp] theorem State.setButton_evaluator (s : State) (n : Fin 16) (b : Button) :
    (s.setButton n b).evaluator = s.evaluator := rfl
@[simp] theorem State.setButton_calls (s : State) (n : Fin 16) (b : Button) :
    (s.setButton n b).calls = s.calls := rfl
@[simp] theorem State.setButton_scanner (s : State) (n : Fin 16) (b : Button) :
    (s.setButton n b).scanner = { s.scanner with buttons := s.scanner.buttons.set n b } := rfl
@[simp] theorem State.setButton_alarms (s : State) (n : Fin 16) (b : Button) :
    (s.setButton n b).alarms = s.alarms := rfl
@[simp] theorem State.setButton_links (s : State) (n : Fin 16) (b : Button) :
    (s.setButton n b).links = s.links := rfl
@[simp] theorem State.setButton_handed (s : State) (n : Fin 16) (b : Button) :
    (s.setButton n b).handed = s.handed := rfl
@[simp] theorem State.setButton_pending (s : State) (n : Fin 16) (b : Button) :
    (s.setButton n b).pending = s.pending := rfl

/-! ### setC -/

@[simp] theorem State.setC_power (s : State) (a : Fin 4) (v : Int) :
    (s.setC a v).power = s.power := rfl
@[simp] theorem State.setC_settings (s : State) (a : Fin 4) (v : Int) :
    (s.setC a v).settings = s.settings := rfl
@[simp] theorem State.setC_store (s : State) (a : Fin 4) (v : Int) :
    (s.setC a v).store = s.store := rfl
@[simp] theorem State.setC_clock (s : State) (a : Fin 4) (v : Int) :
    (s.setC a v).clock = s.clock := rfl
@[simp] theorem State.setC_uptime (s : State) (a : Fin 4) (v : Int) :
    (s.setC a v).uptime = s.uptime := rfl
@[simp] theorem State.setC_counters (s : State) (a : Fin 4) (v : Int) :
    (s.setC a v).counters = s.counters := rfl
@[simp] theorem State.setC_channels (s : State) (a : Fin 4) (v : Int) :
    (s.setC a v).channels = s.channels := rfl
@[simp] theorem State.setC_inputs (s : State) (a : Fin 4) (v : Int) :
    (s.setC a v).inputs = s.inputs := rfl
@[simp] theorem State.setC_chain (s : State) (a : Fin 4) (v : Int) :
    (s.setC a v).chain = s.chain := rfl
@[simp] theorem State.setC_axes (s : State) (a : Fin 4) (v : Int) :
    (s.setC a v).axes = upd s.axes a fun x => { x with c := v, confirm := if v = 0 then none else x.confirm } := rfl
@[simp] theorem State.setC_valves (s : State) (a : Fin 4) (v : Int) :
    (s.setC a v).valves = upd s.valves a fun g => { g with command := v } := rfl
@[simp] theorem State.setC_station (s : State) (a : Fin 4) (v : Int) :
    (s.setC a v).station = s.station := rfl
@[simp] theorem State.setC_doors (s : State) (a : Fin 4) (v : Int) :
    (s.setC a v).doors = s.doors := rfl
@[simp] theorem State.setC_zones (s : State) (a : Fin 4) (v : Int) :
    (s.setC a v).zones = s.zones := rfl
@[simp] theorem State.setC_openCounts (s : State) (a : Fin 4) (v : Int) :
    (s.setC a v).openCounts = s.openCounts := rfl
@[simp] theorem State.setC_evaluator (s : State) (a : Fin 4) (v : Int) :
    (s.setC a v).evaluator = s.evaluator := rfl
@[simp] theorem State.setC_calls (s : State) (a : Fin 4) (v : Int) :
    (s.setC a v).calls = s.calls := rfl
@[simp] theorem State.setC_scanner (s : State) (a : Fin 4) (v : Int) :
    (s.setC a v).scanner = s.scanner := rfl
@[simp] theorem State.setC_alarms (s : State) (a : Fin 4) (v : Int) :
    (s.setC a v).alarms = s.alarms := rfl
@[simp] theorem State.setC_links (s : State) (a : Fin 4) (v : Int) :
    (s.setC a v).links = s.links := rfl
@[simp] theorem State.setC_handed (s : State) (a : Fin 4) (v : Int) :
    (s.setC a v).handed = s.handed := rfl
@[simp] theorem State.setC_pending (s : State) (a : Fin 4) (v : Int) :
    (s.setC a v).pending = s.pending := rfl

/-! ### cut -/

@[simp] theorem State.cut_power (s : State) (a : Fin 4) :
    (s.cut a).power = s.power := rfl
@[simp] theorem State.cut_settings (s : State) (a : Fin 4) :
    (s.cut a).settings = s.settings := rfl
@[simp] theorem State.cut_store (s : State) (a : Fin 4) :
    (s.cut a).store = s.store := rfl
@[simp] theorem State.cut_clock (s : State) (a : Fin 4) :
    (s.cut a).clock = s.clock := rfl
@[simp] theorem State.cut_uptime (s : State) (a : Fin 4) :
    (s.cut a).uptime = s.uptime := rfl
@[simp] theorem State.cut_counters (s : State) (a : Fin 4) :
    (s.cut a).counters = s.counters := rfl
@[simp] theorem State.cut_channels (s : State) (a : Fin 4) :
    (s.cut a).channels = s.channels := rfl
@[simp] theorem State.cut_inputs (s : State) (a : Fin 4) :
    (s.cut a).inputs = s.inputs := rfl
@[simp] theorem State.cut_chain (s : State) (a : Fin 4) :
    (s.cut a).chain = s.chain := rfl
@[simp] theorem State.cut_axes (s : State) (a : Fin 4) :
    (s.cut a).axes = s.axes := rfl
@[simp] theorem State.cut_valves (s : State) (a : Fin 4) :
    (s.cut a).valves = upd s.valves a fun g => { g with cut := true } := rfl
@[simp] theorem State.cut_station (s : State) (a : Fin 4) :
    (s.cut a).station = s.station := rfl
@[simp] theorem State.cut_doors (s : State) (a : Fin 4) :
    (s.cut a).doors = s.doors := rfl
@[simp] theorem State.cut_zones (s : State) (a : Fin 4) :
    (s.cut a).zones = s.zones := rfl
@[simp] theorem State.cut_openCounts (s : State) (a : Fin 4) :
    (s.cut a).openCounts = s.openCounts := rfl
@[simp] theorem State.cut_evaluator (s : State) (a : Fin 4) :
    (s.cut a).evaluator = s.evaluator := rfl
@[simp] theorem State.cut_calls (s : State) (a : Fin 4) :
    (s.cut a).calls = s.calls := rfl
@[simp] theorem State.cut_scanner (s : State) (a : Fin 4) :
    (s.cut a).scanner = s.scanner := rfl
@[simp] theorem State.cut_alarms (s : State) (a : Fin 4) :
    (s.cut a).alarms = s.alarms := rfl
@[simp] theorem State.cut_links (s : State) (a : Fin 4) :
    (s.cut a).links = s.links := rfl
@[simp] theorem State.cut_handed (s : State) (a : Fin 4) :
    (s.cut a).handed = s.handed := rfl
@[simp] theorem State.cut_pending (s : State) (a : Fin 4) :
    (s.cut a).pending = s.pending := rfl

/-! ### openMotion -/

@[simp] theorem State.openMotion_power (s : State) (a : Fin 4) (l : Link) (k : MotionKind) (g : Option Int) :
    (s.openMotion a l k g).power = s.power := rfl
@[simp] theorem State.openMotion_settings (s : State) (a : Fin 4) (l : Link) (k : MotionKind) (g : Option Int) :
    (s.openMotion a l k g).settings = s.settings := rfl
@[simp] theorem State.openMotion_store (s : State) (a : Fin 4) (l : Link) (k : MotionKind) (g : Option Int) :
    (s.openMotion a l k g).store = s.store := rfl
@[simp] theorem State.openMotion_clock (s : State) (a : Fin 4) (l : Link) (k : MotionKind) (g : Option Int) :
    (s.openMotion a l k g).clock = s.clock := rfl
@[simp] theorem State.openMotion_uptime (s : State) (a : Fin 4) (l : Link) (k : MotionKind) (g : Option Int) :
    (s.openMotion a l k g).uptime = s.uptime := rfl
@[simp] theorem State.openMotion_counters (s : State) (a : Fin 4) (l : Link) (k : MotionKind) (g : Option Int) :
    (s.openMotion a l k g).counters = s.counters := rfl
@[simp] theorem State.openMotion_channels (s : State) (a : Fin 4) (l : Link) (k : MotionKind) (g : Option Int) :
    (s.openMotion a l k g).channels = s.channels := rfl
@[simp] theorem State.openMotion_inputs (s : State) (a : Fin 4) (l : Link) (k : MotionKind) (g : Option Int) :
    (s.openMotion a l k g).inputs = s.inputs := rfl
@[simp] theorem State.openMotion_chain (s : State) (a : Fin 4) (l : Link) (k : MotionKind) (g : Option Int) :
    (s.openMotion a l k g).chain = s.chain := rfl
@[simp] theorem State.openMotion_axes (s : State) (a : Fin 4) (l : Link) (k : MotionKind) (g : Option Int) :
    (s.openMotion a l k g).axes = upd s.axes a fun x => { x with motion := some ⟨l, k, g, s.clock, none, none⟩ } := rfl
@[simp] theorem State.openMotion_valves (s : State) (a : Fin 4) (l : Link) (k : MotionKind) (g : Option Int) :
    (s.openMotion a l k g).valves = s.valves := rfl
@[simp] theorem State.openMotion_station (s : State) (a : Fin 4) (l : Link) (k : MotionKind) (g : Option Int) :
    (s.openMotion a l k g).station = s.station := rfl
@[simp] theorem State.openMotion_doors (s : State) (a : Fin 4) (l : Link) (k : MotionKind) (g : Option Int) :
    (s.openMotion a l k g).doors = s.doors := rfl
@[simp] theorem State.openMotion_zones (s : State) (a : Fin 4) (l : Link) (k : MotionKind) (g : Option Int) :
    (s.openMotion a l k g).zones = s.zones := rfl
@[simp] theorem State.openMotion_openCounts (s : State) (a : Fin 4) (l : Link) (k : MotionKind) (g : Option Int) :
    (s.openMotion a l k g).openCounts = s.openCounts := rfl
@[simp] theorem State.openMotion_evaluator (s : State) (a : Fin 4) (l : Link) (k : MotionKind) (g : Option Int) :
    (s.openMotion a l k g).evaluator = s.evaluator := rfl
@[simp] theorem State.openMotion_calls (s : State) (a : Fin 4) (l : Link) (k : MotionKind) (g : Option Int) :
    (s.openMotion a l k g).calls = s.calls := rfl
@[simp] theorem State.openMotion_scanner (s : State) (a : Fin 4) (l : Link) (k : MotionKind) (g : Option Int) :
    (s.openMotion a l k g).scanner = s.scanner := rfl
@[simp] theorem State.openMotion_alarms (s : State) (a : Fin 4) (l : Link) (k : MotionKind) (g : Option Int) :
    (s.openMotion a l k g).alarms = s.alarms := rfl
@[simp] theorem State.openMotion_links (s : State) (a : Fin 4) (l : Link) (k : MotionKind) (g : Option Int) :
    (s.openMotion a l k g).links = s.links := rfl
@[simp] theorem State.openMotion_handed (s : State) (a : Fin 4) (l : Link) (k : MotionKind) (g : Option Int) :
    (s.openMotion a l k g).handed = s.handed := rfl
@[simp] theorem State.openMotion_pending (s : State) (a : Fin 4) (l : Link) (k : MotionKind) (g : Option Int) :
    (s.openMotion a l k g).pending = s.pending := rfl

/-! ### setHeld -/

@[simp] theorem State.setHeld_power (s : State) (k : Fin 8) (v : Bool) :
    (s.setHeld k v).power = s.power := rfl
@[simp] theorem State.setHeld_settings (s : State) (k : Fin 8) (v : Bool) :
    (s.setHeld k v).settings = s.settings := rfl
@[simp] theorem State.setHeld_store (s : State) (k : Fin 8) (v : Bool) :
    (s.setHeld k v).store = s.store := rfl
@[simp] theorem State.setHeld_clock (s : State) (k : Fin 8) (v : Bool) :
    (s.setHeld k v).clock = s.clock := rfl
@[simp] theorem State.setHeld_uptime (s : State) (k : Fin 8) (v : Bool) :
    (s.setHeld k v).uptime = s.uptime := rfl
@[simp] theorem State.setHeld_counters (s : State) (k : Fin 8) (v : Bool) :
    (s.setHeld k v).counters = s.counters := rfl
@[simp] theorem State.setHeld_channels (s : State) (k : Fin 8) (v : Bool) :
    (s.setHeld k v).channels = s.channels := rfl
@[simp] theorem State.setHeld_inputs (s : State) (k : Fin 8) (v : Bool) :
    (s.setHeld k v).inputs = s.inputs := rfl
@[simp] theorem State.setHeld_chain (s : State) (k : Fin 8) (v : Bool) :
    (s.setHeld k v).chain = s.chain := rfl
@[simp] theorem State.setHeld_axes (s : State) (k : Fin 8) (v : Bool) :
    (s.setHeld k v).axes = s.axes := rfl
@[simp] theorem State.setHeld_valves (s : State) (k : Fin 8) (v : Bool) :
    (s.setHeld k v).valves = s.valves := rfl
@[simp] theorem State.setHeld_station (s : State) (k : Fin 8) (v : Bool) :
    (s.setHeld k v).station = s.station := rfl
@[simp] theorem State.setHeld_doors (s : State) (k : Fin 8) (v : Bool) :
    (s.setHeld k v).doors = s.doors := rfl
@[simp] theorem State.setHeld_zones (s : State) (k : Fin 8) (v : Bool) :
    (s.setHeld k v).zones = s.zones := rfl
@[simp] theorem State.setHeld_openCounts (s : State) (k : Fin 8) (v : Bool) :
    (s.setHeld k v).openCounts = s.openCounts := rfl
@[simp] theorem State.setHeld_evaluator (s : State) (k : Fin 8) (v : Bool) :
    (s.setHeld k v).evaluator = s.evaluator := rfl
@[simp] theorem State.setHeld_calls (s : State) (k : Fin 8) (v : Bool) :
    (s.setHeld k v).calls = s.calls := rfl
@[simp] theorem State.setHeld_scanner (s : State) (k : Fin 8) (v : Bool) :
    (s.setHeld k v).scanner = s.scanner := rfl
@[simp] theorem State.setHeld_alarms (s : State) (k : Fin 8) (v : Bool) :
    (s.setHeld k v).alarms = { s.alarms with lines := upd s.alarms.lines k fun x => { x with held := v } } := rfl
@[simp] theorem State.setHeld_links (s : State) (k : Fin 8) (v : Bool) :
    (s.setHeld k v).links = s.links := rfl
@[simp] theorem State.setHeld_handed (s : State) (k : Fin 8) (v : Bool) :
    (s.setHeld k v).handed = s.handed := rfl
@[simp] theorem State.setHeld_pending (s : State) (k : Fin 8) (v : Bool) :
    (s.setHeld k v).pending = s.pending := rfl

/-! ### written -/

@[simp] theorem State.written_power (s : State) (x : Settings) :
    (s.written x).power = s.power := rfl
@[simp] theorem State.written_settings (s : State) (x : Settings) :
    (s.written x).settings = x := rfl
@[simp] theorem State.written_store (s : State) (x : Settings) :
    (s.written x).store = { s.store with unstored := true } := rfl
@[simp] theorem State.written_clock (s : State) (x : Settings) :
    (s.written x).clock = s.clock := rfl
@[simp] theorem State.written_uptime (s : State) (x : Settings) :
    (s.written x).uptime = s.uptime := rfl
@[simp] theorem State.written_counters (s : State) (x : Settings) :
    (s.written x).counters = s.counters := rfl
@[simp] theorem State.written_channels (s : State) (x : Settings) :
    (s.written x).channels = s.channels := rfl
@[simp] theorem State.written_inputs (s : State) (x : Settings) :
    (s.written x).inputs = s.inputs := rfl
@[simp] theorem State.written_chain (s : State) (x : Settings) :
    (s.written x).chain = s.chain := rfl
@[simp] theorem State.written_axes (s : State) (x : Settings) :
    (s.written x).axes = s.axes := rfl
@[simp] theorem State.written_valves (s : State) (x : Settings) :
    (s.written x).valves = s.valves := rfl
@[simp] theorem State.written_station (s : State) (x : Settings) :
    (s.written x).station = s.station := rfl
@[simp] theorem State.written_doors (s : State) (x : Settings) :
    (s.written x).doors = s.doors := rfl
@[simp] theorem State.written_zones (s : State) (x : Settings) :
    (s.written x).zones = s.zones := rfl
@[simp] theorem State.written_openCounts (s : State) (x : Settings) :
    (s.written x).openCounts = s.openCounts := rfl
@[simp] theorem State.written_evaluator (s : State) (x : Settings) :
    (s.written x).evaluator = s.evaluator := rfl
@[simp] theorem State.written_calls (s : State) (x : Settings) :
    (s.written x).calls = s.calls := rfl
@[simp] theorem State.written_scanner (s : State) (x : Settings) :
    (s.written x).scanner = s.scanner := rfl
@[simp] theorem State.written_alarms (s : State) (x : Settings) :
    (s.written x).alarms = s.alarms := rfl
@[simp] theorem State.written_links (s : State) (x : Settings) :
    (s.written x).links = s.links := rfl
@[simp] theorem State.written_handed (s : State) (x : Settings) :
    (s.written x).handed = s.handed := rfl
@[simp] theorem State.written_pending (s : State) (x : Settings) :
    (s.written x).pending = s.pending := rfl

end Sys2Proof.Machine
end

