-- ==== Sys2Proof/Laws/Ops.lean ====
section
/-! SUPPORT. What each shared operation can do, said once: the frame of a command, the banks, operands
that name a thing, notices taken as earlier, and reports, replies and transmitters. -/

namespace Sys2Proof.Machine

/-! ## The frame of a command -/

/-- While the part runs an event acts on the state its notice has been taken from. -/
theorem runEvent_of_running {i : Instr} {s : State} {f : State → State} (h : s.power = .running) :
    runEvent i s f = .next (f (s.taken i)).pump := if_pos h

/-- While it does not run an event leaves the state as it is. -/
theorem runEvent_of_not_running {i : Instr} {s : State} {f : State → State} (h : s.power ≠ .running) :
    runEvent i s f = .next s := if_neg h

/-- All an event can answer. -/
theorem runEvent_cases {i : Instr} {s t : State} {f : State → State} (h : runEvent i s f = .next t) :
    (s.power = .running ∧ t = (f (s.taken i)).pump) ∨ (s.power ≠ .running ∧ t = s) := by
  unfold runEvent at h
  split at h <;> injection h with h <;> simp_all

/-- While the part runs a request acts on the state its frame has been taken from, and its reply is
placed. -/
theorem runRequest_of_running {i : Instr} {l : Link} {tag : Byte} {s : State}
    {f : State → State × ReplyData} (h : s.power = .running) :
    runRequest i l tag s f =
      .next ((f (s.openRequest l i)).1.placeReply l ⟨i.kind, tag, (f (s.openRequest l i)).2⟩).pump :=
  if_pos h

/-- While it does not run a request is lost. -/
theorem runRequest_of_not_running {i : Instr} {l : Link} {tag : Byte} {s : State}
    {f : State → State × ReplyData} (h : s.power ≠ .running) : runRequest i l tag s f = .next s :=
  if_neg h

/-- All a request can answer. -/
theorem runRequest_cases {i : Instr} {l : Link} {tag : Byte} {s t : State}
    {f : State → State × ReplyData} (h : runRequest i l tag s f = .next t) :
    (s.power = .running ∧
      t = ((f (s.openRequest l i)).1.placeReply l ⟨i.kind, tag, (f (s.openRequest l i)).2⟩).pump) ∨
    (s.power ≠ .running ∧ t = s) := by
  unfold runRequest at h
  split at h <;> injection h with h <;> simp_all

/-- An event in the words of Safety. -/
theorem runEvent_actedBy {i : Instr} {s : State} {f : State → State} (h : s.power = .running) :
    runEvent i s f = .next (s.actedBy i f) := runEvent_of_running h

/-- A request in the words of Safety. -/
theorem runRequest_answeredBy {i : Instr} {l : Link} {tag : Byte} {s : State}
    {f : State → State × ReplyData} {g : State → State} {d : ReplyData} (h : s.power = .running)
    (hf : f (s.openRequest l i) = (g (s.openRequest l i), d)) :
    runRequest i l tag s f = .next (s.answeredBy l tag i d g) := by
  rw [runRequest_of_running h, hf]
  rfl

/-- An event that does nothing. -/
theorem runEvent_nothing {i : Instr} {s : State} (h : s.power = .running) :
    runEvent i s id = .next (s.acted i []) := runEvent_of_running h

/-- A request refused. -/
theorem runRequest_deny {i : Instr} {l : Link} {tag : Byte} {s : State} {c : RefusalCode}
    (h : s.power = .running) :
    runRequest i l tag s (fun s => deny s c) = .next (s.answered l tag i [] (.refused c)) :=
  runRequest_of_running h

/-- A request that only answers. -/
theorem runRequest_done {i : Instr} {l : Link} {tag : Byte} {s : State} {bs : List Byte}
    (h : s.power = .running) :
    runRequest i l tag s (fun s => done s bs) = .next (s.answered l tag i [] (.done bs)) :=
  runRequest_of_running h

/-! ## Banks -/

@[simp] theorem upd_get_self {α : Type} {n : Nat} (v : Vector α n) (i : Fin n) (f : α → α) :
    (upd v i f)[i] = f v[i] := by simp [upd]

theorem upd_get_other {α : Type} {n : Nat} (v : Vector α n) (i j : Fin n) (f : α → α) (h : j ≠ i) :
    (upd v i f)[j] = v[j] := by
  have : i.val ≠ j.val := fun e => h (Fin.ext e.symm)
  simp [upd, Vector.getElem_set_ne, this]

@[simp] theorem upd_upd {α : Type} {n : Nat} (v : Vector α n) (i : Fin n) (f g : α → α) :
    upd (upd v i f) i g = upd v i (fun x => g (f x)) := by simp [upd]

theorem upd_const {α : Type} {n : Nat} (v : Vector α n) (i : Fin n) (x : α) :
    upd v i (fun _ => x) = v.set i x := rfl

@[simp] theorem pair_get_set_self {α : Type} (p : Pair α) (l : Link) (x : α) :
    (p.set l x).get l = x := by cases l <;> rfl

theorem pair_get_set_other {α : Type} (p : Pair α) (l m : Link) (x : α) (h : m ≠ l) :
    (p.set l x).get m = p.get m := by cases l <;> cases m <;> first | rfl | exact absurd rfl h

@[simp] theorem pair_set_set {α : Type} (p : Pair α) (l : Link) (x y : α) :
    (p.set l x).set l y = p.set l y := by cases l <;> rfl

/-! ## Operands that name a thing -/

@[simp] theorem finOf?_val {n : Nat} (i : Fin n) : finOf? n i.val = some i := by simp [finOf?]

theorem finOf?_eq_none {n i : Nat} : finOf? n i = none ↔ n ≤ i := by simp [finOf?]

theorem finOf?_eq_some {n i : Nat} {k : Fin n} : finOf? n i = some k ↔ k.val = i := by
  unfold finOf?
  constructor
  · intro h
    split at h
    · injection h with h; exact h ▸ rfl
    · exact absurd h (by simp)
  · rintro rfl; simp

theorem fittedAxis?_of_fitted {s : State} {a : Fin 4} (h : s.settings.axes[a].fitted = true) :
    s.fittedAxis? a.val = some a := by
  unfold State.fittedAxis?
  rw [finOf?_val]
  exact if_pos h

theorem fittedAxis?_of_unfitted {s : State} {n : Nat}
    (h : ∀ a : Fin 4, a.val = n → s.settings.axes[a].fitted = false) : s.fittedAxis? n = none := by
  unfold State.fittedAxis?
  cases e : finOf? 4 n with
  | none => rfl
  | some a =>
    have := h a (finOf?_eq_some.mp e)
    simp only [this, Bool.false_eq_true, if_false]

theorem fittedDoor?_of_fitted {s : State} {d : Fin 32} (h : s.settings.doors[d].kind ≠ .absent) :
    s.fittedDoor? d.val = some d := by
  unfold State.fittedDoor?
  rw [finOf?_val]
  exact if_pos (decide_eq_true h)

theorem fittedDoor?_of_unfitted {s : State} {n : Nat}
    (h : ∀ d : Fin 32, d.val = n → s.settings.doors[d].kind = .absent) : s.fittedDoor? n = none := by
  unfold State.fittedDoor?
  cases e : finOf? 32 n with
  | none => rfl
  | some d =>
    have := h d (finOf?_eq_some.mp e)
    exact if_neg (by simpa [State.doorFitted] using this)

/-! ## Notices taken as earlier, input samples, output lines -/

theorem mem_takenFirst {s : State} {p : Instr → Bool} {n : Instr} :
    n ∈ (s.takenFirst p).handed ↔ n ∈ s.handed ∧ p n = false := by
  simp [State.takenFirst]

theorem takenFirst_of_none {s : State} {p : Instr → Bool} (h : ∀ n ∈ s.handed, p n = false) :
    s.takenFirst p = s := by
  have : s.handed.filter (fun i => !p i) = s.handed := by simpa using h
  simp [State.takenFirst, this]

/-- Notices heard change the active flags alone. -/
theorem hear_frame (ns : List Instr) (x : Station) :
    ns.foldl Station.hear x = { x with active := (ns.foldl Station.hear x).active } := by
  induction ns generalizing x with
  | nil => rfl
  | cons n ns ih =>
    rw [List.foldl_cons, ih]
    unfold Station.hear
    split <;> rfl

theorem endLoss_of_none {s : State} {l : Link} (h : .stationLinkLoss l ∉ s.handed) :
    s.endLoss l = s := if_neg h

theorem endLoss_of_mem {s : State} {l : Link} (h : .stationLinkLoss l ∈ s.handed) :
    s.endLoss l = (s.taken (.stationLinkLoss l)).loseLink l := if_pos h

/-- The loss of a link is the event of the same name but for its frame. -/
theorem execStationLinkLoss_eq {s : State} {l : Link} (h : s.power = .running) :
    execStationLinkLoss l s = .next (s.actedBy (.stationLinkLoss l) fun u => u.loseLink l) :=
  runEvent_of_running h

/-- Samples change the inputs and the notices alone. -/
theorem sampleInput_frame (s : State) (i : Input) (b : Bool) :
    s.sampleInput i b =
      { s with inputs := s.inputs.sample i b, handed := (s.sampleInput i b).handed } := by
  unfold State.sampleInput
  dsimp only
  split <;> rfl

/-- Settings of a line with one source and invert leave its level as it is. -/
theorem applyOutput_of_same {s : State} {k : Fin 8} {old : OutputSettings}
    (hs : s.settings.outputs[k].source = old.source) (hi : s.settings.outputs[k].invert = old.invert) :
    s.applyOutput k old = s := by
  unfold State.applyOutput
  dsimp only
  rw [if_pos ⟨hs, hi⟩, if_neg fun h => h.2 (hs ▸ h.1)]

/-! ## Reports, replies and transmitters -/

@[simp] theorem says_nil (s : State) : s.says [] = s := rfl

@[simp] theorem says_toBoth (s : State) (b : ReportBody) (rs : List (Option Link × ReportBody)) :
    s.says (toBoth b :: rs) = (s.report b).says rs := rfl

@[simp] theorem says_toLink (s : State) (l : Link) (b : ReportBody)
    (rs : List (Option Link × ReportBody)) : s.says (toLink l b :: rs) = (s.reportOn l b).says rs := rfl

theorem says_append (s : State) (rs qs : List (Option Link × ReportBody)) :
    s.says (rs ++ qs) = (s.says rs).says qs := List.foldl_append

/-- A field that no report changes is not changed by any number of them. -/
theorem says_field {α : Type} (g : State → α)
    (h : ∀ (s : State) (l : Link) (b : ReportBody), g (s.reportOn l b) = g s)
    (s : State) (rs : List (Option Link × ReportBody)) : g (s.says rs) = g s := by
  induction rs generalizing s with
  | nil => rfl
  | cons r rs ih =>
    obtain ⟨o, b⟩ := r
    cases o with
    | none =>
      have e : s.says ((none, b) :: rs) = (s.report b).says rs := rfl
      rw [e, ih, State.report, h, h]
    | some l =>
      have e : s.says ((some l, b) :: rs) = (s.reportOn l b).says rs := rfl
      rw [e, ih, h]

@[simp] theorem says_power (s : State) (rs : List (Option Link × ReportBody)) :
    (s.says rs).power = s.power := says_field (·.power) (fun _ _ _ => rfl) s rs
@[simp] theorem says_settings (s : State) (rs : List (Option Link × ReportBody)) :
    (s.says rs).settings = s.settings := says_field (·.settings) (fun _ _ _ => rfl) s rs
@[simp] theorem says_store (s : State) (rs : List (Option Link × ReportBody)) :
    (s.says rs).store = s.store := says_field (·.store) (fun _ _ _ => rfl) s rs
@[simp] theorem says_clock (s : State) (rs : List (Option Link × ReportBody)) :
    (s.says rs).clock = s.clock := says_field (·.clock) (fun _ _ _ => rfl) s rs
@[simp] theorem says_uptime (s : State) (rs : List (Option Link × ReportBody)) :
    (s.says rs).uptime = s.uptime := says_field (·.uptime) (fun _ _ _ => rfl) s rs
@[simp] theorem says_channels (s : State) (rs : List (Option Link × ReportBody)) :
    (s.says rs).channels = s.channels := says_field (·.channels) (fun _ _ _ => rfl) s rs
@[simp] theorem says_inputs (s : State) (rs : List (Option Link × ReportBody)) :
    (s.says rs).inputs = s.inputs := says_field (·.inputs) (fun _ _ _ => rfl) s rs
@[simp] theorem says_chain (s : State) (rs : List (Option Link × ReportBody)) :
    (s.says rs).chain = s.chain := says_field (·.chain) (fun _ _ _ => rfl) s rs
@[simp] theorem says_axes (s : State) (rs : List (Option Link × ReportBody)) :
    (s.says rs).axes = s.axes := says_field (·.axes) (fun _ _ _ => rfl) s rs
@[simp] theorem says_valves (s : State) (rs : List (Option Link × ReportBody)) :
    (s.says rs).valves = s.valves := says_field (·.valves) (fun _ _ _ => rfl) s rs
@[simp] theorem says_station (s : State) (rs : List (Option Link × ReportBody)) :
    (s.says rs).station = s.station := says_field (·.station) (fun _ _ _ => rfl) s rs
@[simp] theorem says_doors (s : State) (rs : List (Option Link × ReportBody)) :
    (s.says rs).doors = s.doors := says_field (·.doors) (fun _ _ _ => rfl) s rs
@[simp] theorem says_zones (s : State) (rs : List (Option Link × ReportBody)) :
    (s.says rs).zones = s.zones := says_field (·.zones) (fun _ _ _ => rfl) s rs
@[simp] theorem says_openCounts (s : State) (rs : List (Option Link × ReportBody)) :
    (s.says rs).openCounts = s.openCounts := says_field (·.openCounts) (fun _ _ _ => rfl) s rs
@[simp] theorem says_evaluator (s : State) (rs : List (Option Link × ReportBody)) :
    (s.says rs).evaluator = s.evaluator := says_field (·.evaluator) (fun _ _ _ => rfl) s rs
@[simp] theorem says_calls (s : State) (rs : List (Option Link × ReportBody)) :
    (s.says rs).calls = s.calls := says_field (·.calls) (fun _ _ _ => rfl) s rs
@[simp] theorem says_scanner (s : State) (rs : List (Option Link × ReportBody)) :
    (s.says rs).scanner = s.scanner := says_field (·.scanner) (fun _ _ _ => rfl) s rs
@[simp] theorem says_alarms (s : State) (rs : List (Option Link × ReportBody)) :
    (s.says rs).alarms = s.alarms := says_field (·.alarms) (fun _ _ _ => rfl) s rs
@[simp] theorem says_pending (s : State) (rs : List (Option Link × ReportBody)) :
    (s.says rs).pending = s.pending := says_field (·.pending) (fun _ _ _ => rfl) s rs
@[simp] theorem says_handed (s : State) (rs : List (Option Link × ReportBody)) :
    (s.says rs).handed = s.handed := says_field (·.handed) (fun _ _ _ => rfl) s rs
@[simp] theorem says_counters_axes (s : State) (rs : List (Option Link × ReportBody)) :
    (s.says rs).counters.axes = s.counters.axes := says_field (·.counters.axes) (fun _ _ _ => rfl) s rs
@[simp] theorem says_counters_doors (s : State) (rs : List (Option Link × ReportBody)) :
    (s.says rs).counters.doors = s.counters.doors := says_field (·.counters.doors) (fun _ _ _ => rfl) s rs

/-! ### What an event or a request leaves of each field -/

@[simp] theorem acted_power (s : State) (i : Instr) (rs : List (Option Link × ReportBody)) :
    (s.acted i rs).power = s.power := by simp [State.acted]
@[simp] theorem acted_settings (s : State) (i : Instr) (rs : List (Option Link × ReportBody)) :
    (s.acted i rs).settings = s.settings := by simp [State.acted]
@[simp] theorem acted_store (s : State) (i : Instr) (rs : List (Option Link × ReportBody)) :
    (s.acted i rs).store = s.store := by simp [State.acted]
@[simp] theorem acted_clock (s : State) (i : Instr) (rs : List (Option Link × ReportBody)) :
    (s.acted i rs).clock = s.clock := by simp [State.acted]
@[simp] theorem acted_uptime (s : State) (i : Instr) (rs : List (Option Link × ReportBody)) :
    (s.acted i rs).uptime = s.uptime := by simp [State.acted]
@[simp] theorem acted_channels (s : State) (i : Instr) (rs : List (Option Link × ReportBody)) :
    (s.acted i rs).channels = s.channels := by simp [State.acted]
@[simp] theorem acted_inputs (s : State) (i : Instr) (rs : List (Option Link × ReportBody)) :
    (s.acted i rs).inputs = s.inputs := by simp [State.acted]
@[simp] theorem acted_chain (s : State) (i : Instr) (rs : List (Option Link × ReportBody)) :
    (s.acted i rs).chain = s.chain := by simp [State.acted]
@[simp] theorem acted_axes (s : State) (i : Instr) (rs : List (Option Link × ReportBody)) :
    (s.acted i rs).axes = s.axes := by simp [State.acted]
@[simp] theorem acted_valves (s : State) (i : Instr) (rs : List (Option Link × ReportBody)) :
    (s.acted i rs).valves = s.valves := by simp [State.acted]
@[simp] theorem acted_station (s : State) (i : Instr) (rs : List (Option Link × ReportBody)) :
    (s.acted i rs).station = s.station := by simp [State.acted]
@[simp] theorem acted_doors (s : State) (i : Instr) (rs : List (Option Link × ReportBody)) :
    (s.acted i rs).doors = s.doors := by simp [State.acted]
@[simp] theorem acted_zones (s : State) (i : Instr) (rs : List (Option Link × ReportBody)) :
    (s.acted i rs).zones = s.zones := by simp [State.acted]
@[simp] theorem acted_openCounts (s : State) (i : Instr) (rs : List (Option Link × ReportBody)) :
    (s.acted i rs).openCounts = s.openCounts := by simp [State.acted]
@[simp] theorem acted_evaluator (s : State) (i : Instr) (rs : List (Option Link × ReportBody)) :
    (s.acted i rs).evaluator = s.evaluator := by simp [State.acted]
@[simp] theorem acted_calls (s : State) (i : Instr) (rs : List (Option Link × ReportBody)) :
    (s.acted i rs).calls = s.calls := by simp [State.acted]
@[simp] theorem acted_scanner (s : State) (i : Instr) (rs : List (Option Link × ReportBody)) :
    (s.acted i rs).scanner = s.scanner := by simp [State.acted]
@[simp] theorem acted_alarms (s : State) (i : Instr) (rs : List (Option Link × ReportBody)) :
    (s.acted i rs).alarms = s.alarms := by simp [State.acted]
@[simp] theorem acted_pending (s : State) (i : Instr) (rs : List (Option Link × ReportBody)) :
    (s.acted i rs).pending = s.pending := by simp [State.acted]
@[simp] theorem acted_handed (s : State) (i : Instr) (rs : List (Option Link × ReportBody)) :
    (s.acted i rs).handed = s.handed.erase i := by simp [State.acted]
@[simp] theorem acted_counters_axes (s : State) (i : Instr)
    (rs : List (Option Link × ReportBody)) :
    (s.acted i rs).counters.axes = s.counters.axes := by simp [State.acted]
@[simp] theorem acted_counters_doors (s : State) (i : Instr)
    (rs : List (Option Link × ReportBody)) :
    (s.acted i rs).counters.doors = s.counters.doors := by simp [State.acted]
@[simp] theorem answered_power (s : State) (l : Link) (tag : Byte) (i : Instr)
    (rs : List (Option Link × ReportBody)) (d : ReplyData) :
    (s.answered l tag i rs d).power = s.power := by simp [State.answered]
@[simp] theorem answered_settings (s : State) (l : Link) (tag : Byte) (i : Instr)
    (rs : List (Option Link × ReportBody)) (d : ReplyData) :
    (s.answered l tag i rs d).settings = s.settings := by simp [State.answered]
@[simp] theorem answered_store (s : State) (l : Link) (tag : Byte) (i : Instr)
    (rs : List (Option Link × ReportBody)) (d : ReplyData) :
    (s.answered l tag i rs d).store = s.store := by simp [State.answered]
@[simp] theorem answered_clock (s : State) (l : Link) (tag : Byte) (i : Instr)
    (rs : List (Option Link × ReportBody)) (d : ReplyData) :
    (s.answered l tag i rs d).clock = s.clock := by simp [State.answered]
@[simp] theorem answered_uptime (s : State) (l : Link) (tag : Byte) (i : Instr)
    (rs : List (Option Link × ReportBody)) (d : ReplyData) :
    (s.answered l tag i rs d).uptime = s.uptime := by simp [State.answered]
@[simp] theorem answered_channels (s : State) (l : Link) (tag : Byte) (i : Instr)
    (rs : List (Option Link × ReportBody)) (d : ReplyData) :
    (s.answered l tag i rs d).channels = s.channels := by simp [State.answered]
@[simp] theorem answered_inputs (s : State) (l : Link) (tag : Byte) (i : Instr)
    (rs : List (Option Link × ReportBody)) (d : ReplyData) :
    (s.answered l tag i rs d).inputs = s.inputs := by simp [State.answered]
@[simp] theorem answered_chain (s : State) (l : Link) (tag : Byte) (i : Instr)
    (rs : List (Option Link × ReportBody)) (d : ReplyData) :
    (s.answered l tag i rs d).chain = s.chain := by simp [State.answered]
@[simp] theorem answered_axes (s : State) (l : Link) (tag : Byte) (i : Instr)
    (rs : List (Option Link × ReportBody)) (d : ReplyData) :
    (s.answered l tag i rs d).axes = s.axes := by simp [State.answered]
@[simp] theorem answered_valves (s : State) (l : Link) (tag : Byte) (i : Instr)
    (rs : List (Option Link × ReportBody)) (d : ReplyData) :
    (s.answered l tag i rs d).valves = s.valves := by simp [State.answered]
@[simp] theorem answered_station (s : State) (l : Link) (tag : Byte) (i : Instr)
    (rs : List (Option Link × ReportBody)) (d : ReplyData) :
    (s.answered l tag i rs d).station = s.station := by simp [State.answered]
@[simp] theorem answered_doors (s : State) (l : Link) (tag : Byte) (i : Instr)
    (rs : List (Option Link × ReportBody)) (d : ReplyData) :
    (s.answered l tag i rs d).doors = s.doors := by simp [State.answered]
@[simp] theorem answered_zones (s : State) (l : Link) (tag : Byte) (i : Instr)
    (rs : List (Option Link × ReportBody)) (d : ReplyData) :
    (s.answered l tag i rs d).zones = s.zones := by simp [State.answered]
@[simp] theorem answered_openCounts (s : State) (l : Link) (tag : Byte) (i : Instr)
    (rs : List (Option Link × ReportBody)) (d : ReplyData) :
    (s.answered l tag i rs d).openCounts = s.openCounts := by simp [State.answered]
@[simp] theorem answered_evaluator (s : State) (l : Link) (tag : Byte) (i : Instr)
    (rs : List (Option Link × ReportBody)) (d : ReplyData) :
    (s.answered l tag i rs d).evaluator = s.evaluator := by simp [State.answered]
@[simp] theorem answered_calls (s : State) (l : Link) (tag : Byte) (i : Instr)
    (rs : List (Option Link × ReportBody)) (d : ReplyData) :
    (s.answered l tag i rs d).calls = s.calls := by simp [State.answered]
@[simp] theorem answered_scanner (s : State) (l : Link) (tag : Byte) (i : Instr)
    (rs : List (Option Link × ReportBody)) (d : ReplyData) :
    (s.answered l tag i rs d).scanner = s.scanner := by simp [State.answered]
@[simp] theorem answered_alarms (s : State) (l : Link) (tag : Byte) (i : Instr)
    (rs : List (Option Link × ReportBody)) (d : ReplyData) :
    (s.answered l tag i rs d).alarms = s.alarms := by simp [State.answered]
@[simp] theorem answered_pending (s : State) (l : Link) (tag : Byte) (i : Instr)
    (rs : List (Option Link × ReportBody)) (d : ReplyData) :
    (s.answered l tag i rs d).pending = s.pending := by simp [State.answered]
@[simp] theorem answered_handed (s : State) (l : Link) (tag : Byte) (i : Instr)
    (rs : List (Option Link × ReportBody)) (d : ReplyData) :
    (s.answered l tag i rs d).handed = s.handed := by simp [State.answered]
@[simp] theorem answered_counters_axes (s : State) (l : Link) (tag : Byte) (i : Instr)
    (rs : List (Option Link × ReportBody)) (d : ReplyData) :
    (s.answered l tag i rs d).counters.axes = s.counters.axes := by simp [State.answered]
@[simp] theorem answered_counters_doors (s : State) (l : Link) (tag : Byte) (i : Instr)
    (rs : List (Option Link × ReportBody)) (d : ReplyData) :
    (s.answered l tag i rs d).counters.doors = s.counters.doors := by simp [State.answered]

/-- A busy transmitter goes on with its frame (R171). -/
theorem transmit_of_busy {c : LinkController} {x : TxFrame} (h : c.line = some x) : c.transmit = c := by
  simp [LinkController.transmit, h]

/-- A free transmitter sends the reply first (R171). -/
theorem transmit_of_reply {c : LinkController} {r : Reply} (h : c.line = none) (k : c.slot = some r) :
    c.transmit = { c with line := some (.reply r), slot := none } := by
  simp [LinkController.transmit, h, k]

/-- A report queued or discarded leaves the queue within its limit (R170). -/
theorem enqueue_length {c : LinkController} {r : Report} (h : c.queue.length ≤ Config.queueLimit) :
    (c.enqueue r).queue.length ≤ Config.queueLimit := by
  unfold LinkController.enqueue
  dsimp only
  split
  · rename_i k
    simp only [LinkController.full, Bool.and_eq_true, Bool.not_eq_true', decide_eq_false_iff_not] at k
    rw [List.length_append, List.length_singleton]
    omega
  · exact h

/-! ## The step -/

theorem step_of_pending {s : State} {c : Instr} {rest : List Instr} (h : s.pending = c :: rest) :
    step s = exec c { s with pending := rest } := by unfold step; rw [h]

theorem step_of_idle {s : State} (h : s.pending = []) : step s = idleStep s := by
  unfold step; rw [h]

end Sys2Proof.Machine
end

