-- ==== Sys2Proof/Machine/Frames.lean ====
section
/-! DEFINITION. The bytes the transmitter puts on the line: replies, report headers and report bodies
(12, 12.1, 12.7). The state keeps a frame as what it says; this file spells it. -/

namespace Sys2Proof

/-- Refusal codes (12.1). -/
def RefusalCode.code : RefusalCode → Nat
  | .unknownRequest => 1
  | .badLength => 2
  | .badField => 3
  | .level => 4
  | .noAuthority => 5
  | .busy => 6
  | .state => 7
  | .held => 8
  | .pumpStopped => 9
  | .tripped => 10
  | .sensor => 11
  | .notPermitted => 12
  | .tableFull => 13
  | .zoneInAlarm => 14
  | .notFound => 15

namespace Machine

/-- A reply's payload (12.1). -/
def ReplyData.payload : ReplyData → List Byte
  | .done d => 0 :: d
  | .accepted d => 1 :: d
  | .refused c => [2, byte c.code]

def StationCause.code : StationCause → Nat
  | .granted => 1
  | .yielded => 2
  | .priority => 3
  | .linkLost => 4
  | .lostToRequester => 5

def StationAnswer.code : StationAnswer → Nat
  | .refused => 1
  | .timedOut => 2
  | .requesterLost => 3

def LevelCause.code : LevelCause → Nat
  | .entered => 1
  | .left => 2
  | .keyReleased => 3
  | .linkRestart => 4

def AlarmCause.code : AlarmCause → Nat
  | .active => 1
  | .returned => 2
  | .momentary => 3
  | .ack => 4

def EntryState.code : EntryState → Nat
  | .activeUnacked => 0
  | .activeAcked => 1
  | .returnedUnacked => 2

/-- The KIND of each report (12.2). -/
def ReportBody.kind : ReportBody → Byte
  | .axisState .. => 0x80
  | .axisOutcome .. => 0x81
  | .stationChanged .. => 0x88
  | .stationRequested .. => 0x89
  | .stationAnswer .. => 0x8A
  | .holdClaims .. => 0x8B
  | .holdEstablished .. => 0x8C
  | .levelChanged .. => 0x8D
  | .doorState .. => 0x90
  | .zoneState .. => 0x91
  | .callAdmitted .. => 0x98
  | .callRemoved .. => 0x98
  | .laneButton .. => 0x99
  | .permissiveChanged .. => 0xA0
  | .alarmChanged .. => 0xA8
  | .tripLineChanged .. => 0xA9
  | .storeResult .. => 0xB0
  | .controllerResetDone .. => 0xB1

/-- The bytes of a report's body (12.7). AXIS OUTCOME is sent with the fields listed, 15 bytes, where its
length column says 14, and ALARM CHANGED with 14, where it says 13 (log entry 51). In the motion flags of
AXIS OUTCOME bit 1 alone, which 12.7 names, is sent, and the other bits as 0: the model's choice (log entry
57). -/
def ReportBody.bytes : ReportBody → List Byte
  | .axisState a p n c =>
    [byte a, byte p.code, byte n.code, byte (c.elim 0 MotionOutcome.code)]
  | .axisOutcome a m =>
    [byte a, bitsByte [false, m.target.isSome], byte m.origin.code, byte m.kind.code] ++
    beInt16 (m.target.getD 0) ++ be32 m.start.toNat ++ beTime m.finish ++
    [byte (m.outcome.elim 0 MotionOutcome.code)]
  | .stationChanged a p n c =>
    [byte a, byte (Link.codeOpt p), byte (Link.codeOpt n), byte c.code]
  | .stationRequested a l t => [byte a, byte l.code] ++ be32 t.toNat
  | .stationAnswer a x => [byte a, byte x.code]
  | .holdClaims c h => [claimsByte c, byte h.code]
  | .holdEstablished c t => claimsByte c :: be32 t.toNat
  | .levelChanged l v c => [byte l.code, byte v.code, byte c.code]
  | .doorState d p n c => [byte d, byte p.code, byte n.code, byte c.code]
  | .zoneState z a c => [byte z, boolByte a, byte c.code]
  | .callAdmitted c => c.head ++ [0, 0, 0, 0]
  | .callRemoved c r => c.head ++ [1, byte r.code, 0, 0]
  | .laneButton n p => [byte n, boolByte p]
  | .permissiveChanged p r src =>
    [byte p, boolByte r, boolByte src.isSome, byte (src.elim 0 Source.kindCode),
      byte (src.elim 0 Source.index)]
  | .alarmChanged c p n occ f t cause =>
    [byte c, bitsByte [p.isSome], byte (p.elim 0 EntryState.code), byte (n.elim 3 EntryState.code),
      byte occ] ++ be32 f.toNat ++ be32 t.toNat ++ [byte cause.code]
  | .tripLineChanged stopLine v => [boolByte stopLine, boolByte v]
  | .storeResult good r => boolByte (!good) :: be16 r
  | .controllerResetDone r d => be16 r ++ [boolByte d]

/-- The KIND, TAG and payload of a frame on the line (12, 12.1): a report carries TAG 0, its five-byte
header and its body. -/
def TxFrame.frame : TxFrame → Frame
  | .reply r => ⟨r.kind, r.tag, r.data.payload⟩
  | .report r lost =>
    ⟨r.body.kind, 0, be32 r.time.toNat ++ [bitsByte [lost]] ++ r.body.bytes⟩

/-- The bytes of a frame on the line, START to CRC (12). -/
def Frame.bytes (f : Frame) : List Byte :=
  0xC3 :: byte (f.payload.length + 2) :: f.kind :: f.tag :: f.payload ++ be16 (Frame.crc f).toNat

/-- The bytes of the frame a link's transmitter is sending. -/
def LinkController.lineBytes (c : LinkController) : Option (List Byte) :=
  c.line.map fun x => Frame.bytes x.frame

end Machine

end Sys2Proof
end

