-- ==== Sys2Proof/WellFormed.lean ====
section
/-! DEFINITION. Which commands can come about: what the widths of the fields, the converters and the
frames allow. Numbers that name nothing and undefined codes are well-formed here: their rules refuse
them in a reply. -/

namespace Sys2Proof

/-- A one-byte field. -/
def isByte (n : Nat) : Bool := decide (n < 256)

/-- A two-byte unsigned field. -/
def isWord (n : Nat) : Bool := decide (n < 65536)

/-- A two-byte signed field. -/
def isInt16 (i : Int) : Bool := decide (-32768 ≤ i) && decide (i ≤ 32767)

def AxisData.wf (d : AxisData) : Bool :=
  isByte d.fitted && isByte d.angleCh && isByte d.pressCh && isInt16 d.lLo && isInt16 d.lHi &&
  isWord d.inBand && isByte d.settleCount && isByte d.kp && isByte d.tableMode &&
  isByte d.loopMode && isWord d.dMin && isWord d.dMax && isWord d.slew && isWord d.stopSlew &&
  isWord d.motionLimit && isByte d.warningTime && isByte d.warningPattern && isWord d.marginHi &&
  isWord d.marginLo && d.ff.toList.all isWord && d.prt.toList.all isWord

def ChannelData.wf (d : ChannelData) : Bool :=
  isByte d.enabled && isWord d.rawMin && isWord d.rawMax && isByte d.depth && isWord d.zero &&
  isInt16 d.gain && isInt16 d.offset

def DoorData.wf (d : DoorData) : Bool :=
  isByte d.kind && isByte d.zone && isByte d.seaClosed && isByte d.closeLimit && isByte d.pause &&
  isByte d.maxRetries

def ZoneData.wf (d : ZoneData) : Bool := isByte d.fireEnabled && isByte d.evacPattern

def RoutingData.wf (d : RoutingData) : Bool :=
  d.alarmEnable.toList.all isByte && d.stopEnable.toList.all isByte && isByte d.stopFollowsAlarm

def OutputData.wf (d : OutputData) : Bool :=
  isByte d.kind && isByte d.index && isByte d.invert && isByte d.powerOn

def TermData.wf (d : TermData) : Bool :=
  isByte d.kind && isByte d.index && isByte d.cmp && isInt16 d.const

def CallData.wf (d : CallData) : Bool :=
  isByte d.kind && isByte d.priority && isByte d.pattern && isByte d.chime && isByte d.ackMode &&
  isWord d.duration

/-- A reading a channel's notice can carry (01, 1.1.2). -/
def Reading.wf (r : Reading) : Bool := isInt16 r.value

/-- A list PERMISSIVE WRITE can carry: bytes, and no more than a 248-byte payload holds (12). -/
def entriesWf (es : List (Nat × Nat)) : Bool :=
  es.all (fun e => isByte e.1 && isByte e.2) && decide (2 + 2 * es.length ≤ Config.maxPayload)

/-- The commands that can come about. -/
def Instr.wf : Instr → Bool
  | .axisUpdate _ r => r.wf
  | .pressureCheck _ r => r.wf
  | .sourceChange _ v => v.wf
  | .durationTimerExpiry n => decide (1 ≤ n) && decide (n ≤ 255)
  | .frameComplete _ _ _ p _ => decide (p.length ≤ Config.maxPayload)
  | .channelStatus _ _ n st => isByte n && isByte st
  | .axisMove _ _ a t => isByte a && isInt16 t
  | .axisStop _ _ a => isByte a
  | .axisJog _ _ a d => isByte a && isByte d
  | .tripReset _ _ a => isByte a
  | .manualEnter _ _ a => isByte a
  | .manualSet _ _ a v => isByte a && isInt16 v
  | .manualApply _ _ a => isByte a
  | .manualLeave _ _ a => isByte a
  | .axisStatus _ _ a st => isByte a && isByte st
  | .driveStatus _ _ a => isByte a
  | .takeStation _ _ a => isByte a
  | .yieldStation _ _ a => isByte a
  | .refuseStation _ _ a => isByte a
  | .deckResume _ _ b => isByte b
  | .doorHold _ _ d => isByte d
  | .doorHoldZone _ _ z => isByte z
  | .doorRelease _ _ d => isByte d
  | .doorReleaseZone _ _ z => isByte z
  | .doorIsolate _ _ d => isByte d
  | .doorRestore _ _ d => isByte d
  | .zoneAlarm _ _ z act => isByte z && isByte act
  | .doorStatus _ _ d st => isByte d && isByte st
  | .zoneStatus _ _ z st => isByte z && isByte st
  | .termWrite _ _ t d => isByte t && d.wf
  | .permissiveWrite _ _ p es => isByte p && entriesWf es
  | .termStatus _ _ t st => isByte t && isByte st
  | .permissiveStatus _ _ p st => isByte p && isByte st
  | .callPost _ _ d => d.wf
  | .callCancel _ _ n => isByte n
  | .callStatus _ _ n st => isByte n && isByte st
  | .patternWrite _ _ p _ => isByte p
  | .boardStatus _ _ b st => isByte b && isByte st
  | .alarmAck _ _ c => isByte c
  | .alarmList _ _ st => isByte st
  | .outputSet _ _ k v => isByte k && isByte v
  | .reportSelect _ _ fs => fs.toList.all isByte
  | .settingsWriteAxis _ _ i d => isByte i && d.wf
  | .settingsWriteDrive _ _ i o => isByte i && isByte o
  | .settingsWriteChannel _ _ i d => isByte i && d.wf
  | .settingsWriteDoor _ _ i d => isByte i && d.wf
  | .settingsWriteZone _ _ i d => isByte i && d.wf
  | .settingsWriteScanner _ _ i n b => isByte i && isByte n && isByte b
  | .settingsWriteRouting _ _ i d => isByte i && d.wf
  | .settingsWriteOutput _ _ i d => isByte i && d.wf
  | .settingsWriteLink _ _ i t => isByte i && isWord t
  | .settingsRead _ _ o i => isByte o && isByte i
  | .readCounters _ _ g c => isByte g && isByte c
  | .powerOn => true
  | .settingsLoadEnd .. => true
  | .powerLoss => true
  | .channelCompletion .. => true
  | .discreteInputChange .. => true
  | .doorScan .. => true
  | .doorInputChange .. => true
  | .travelTimerExpiry .. => true
  | .pauseTimerExpiry .. => true
  | .conflictTimerExpiry .. => true
  | .fireInputChange .. => true
  | .angleValidityChange .. => true
  | .pressureValidityChange .. => true
  | .disablingNotice .. => true
  | .limitSwitchChange .. => true
  | .permissiveSlotChange .. => true
  | .holderChange .. => true
  | .deckHoldNotice .. => true
  | .lossOfServiceLevel .. => true
  | .stopLineChange .. => true
  | .warningTimerExpiry .. => true
  | .motionTimerExpiry .. => true
  | .jogRefreshExpiry .. => true
  | .manualRefreshExpiry .. => true
  | .valveFrameStart .. => true
  | .axisStateChangeSeen .. => true
  | .deadlineExpiry .. => true
  | .stationLinkLoss .. => true
  | .serviceKeyRelease => true
  | .alarmSourceChange .. => true
  | .momentaryRaise .. => true
  | .outputLineSourceChange .. => true
  | .standClearPost .. => true
  | .evacuatePost .. => true
  | .standClearRemoval .. => true
  | .recallTrim .. => true
  | .laneAcknowledgement .. => true
  | .chimeTimerExpiry => true
  | .boardFrameStart => true
  | .laneButtonChange .. => true
  | .buttonSample .. => true
  | .lastScanFrameEnd => true
  | .byteReceived .. => true
  | .frameDiscard .. => true
  | .gapAbort .. => true
  | .receiveBreak .. => true
  | .linkLost .. => true
  | .transmitEnd .. => true
  | .unknownRequest _ _ k => !kindIsRequest k
  | .storeCompletion .. => true
  | .inputStatus .. => true
  | .deckHold .. => true
  | .serviceEnter .. => true
  | .serviceLeave .. => true
  | .stationStatus .. => true
  | .outputStatus .. => true
  | .linkRestart .. => true
  | .linkStatus .. => true
  | .storeSettings .. => true
  | .controllerReset .. => true
  | .setClock .. => true
  | .identify .. => true

end Sys2Proof
end

