-- ==== Sys2Proof/Tests/Slice0.lean ====
section
/-! SUPPORT. Tests of the model: ill-formed commands, frames and checksums, the worked examples and
sequences of the spec one act at a time, and for each statement a state that meets its hypotheses. -/

open Sys2Proof Sys2Proof.Machine

namespace Sys2Proof.Tests

/-! ## Well-formedness: each check refuses an ill-formed term -/

def axisData : AxisData :=
  { fitted := 1, angleCh := 0, pressCh := 4, lLo := -1500, lHi := 600, inBand := 20, settleCount := 5,
    kp := 40, tableMode := 0, loopMode := 0, dMin := 300, dMax := 2000, slew := 150, stopSlew := 400,
    motionLimit := 120, warningTime := 2, warningLanes := 15, warningPattern := 40, marginHi := 50,
    marginLo := 50, ff := Vector.replicate 32 600, prt := Vector.replicate 16 100 }

def channelData : ChannelData := ⟨1, 0, 4095, 4, 410, 11250, 0⟩

theorem test_wf_axis_data : axisData.wf = true ∧
    [{ axisData with fitted := 256 }, { axisData with angleCh := 256 },
     { axisData with pressCh := 256 }, { axisData with lLo := -32769 },
     { axisData with lHi := 32768 }, { axisData with inBand := 65536 },
     { axisData with settleCount := 256 }, { axisData with kp := 256 },
     { axisData with tableMode := 256 }, { axisData with loopMode := 256 },
     { axisData with dMin := 65536 }, { axisData with dMax := 65536 },
     { axisData with slew := 65536 }, { axisData with stopSlew := 65536 },
     { axisData with motionLimit := 65536 }, { axisData with warningTime := 256 },
     { axisData with warningPattern := 256 }, { axisData with marginHi := 65536 },
     { axisData with marginLo := 65536 }, { axisData with ff := Vector.replicate 32 65536 },
     { axisData with prt := Vector.replicate 16 65536 }].all (fun d => !d.wf) = true := by decide

theorem test_wf_channel_data : channelData.wf = true ∧
    [{ channelData with enabled := 256 }, { channelData with rawMin := 65536 },
     { channelData with rawMax := 65536 }, { channelData with depth := 256 },
     { channelData with zero := 65536 }, { channelData with gain := 32768 },
     { channelData with offset := -32769 }].all (fun d => !d.wf) = true := by decide

theorem test_wf_door_data : (⟨2, 7, 1, 40, 5, 3⟩ : DoorData).wf = true ∧
    ([⟨256, 0, 0, 0, 0, 0⟩, ⟨0, 256, 0, 0, 0, 0⟩, ⟨0, 0, 256, 0, 0, 0⟩, ⟨0, 0, 0, 256, 0, 0⟩,
      ⟨0, 0, 0, 0, 256, 0⟩, ⟨0, 0, 0, 0, 0, 256⟩] : List DoorData).all (fun d => !d.wf) = true := by
  decide

theorem test_wf_zone_routing_output_data :
    ([⟨0, 256, 0⟩, ⟨0, 0, 256⟩] : List ZoneData).all (fun d => !d.wf) = true ∧
    ([⟨Vector.replicate 9 256, Vector.replicate 9 0, 0⟩,
      ⟨Vector.replicate 9 0, Vector.replicate 9 256, 0⟩,
      ⟨Vector.replicate 9 0, Vector.replicate 9 0, 256⟩] : List RoutingData).all
        (fun d => !d.wf) = true ∧
    ([⟨256, 0, 0, 0⟩, ⟨0, 256, 0, 0⟩, ⟨0, 0, 256, 0⟩, ⟨0, 0, 0, 256⟩] : List OutputData).all
      (fun d => !d.wf) = true := by decide

theorem test_wf_term_call_data :
    ([⟨256, 0, 0, 0⟩, ⟨0, 256, 0, 0⟩, ⟨0, 0, 256, 0⟩, ⟨0, 0, 0, 32768⟩] : List TermData).all
      (fun d => !d.wf) = true ∧
    ([⟨256, 0, 0, 0, 0, 0, 0⟩, ⟨0, 256, 0, 0, 0, 0, 0⟩, ⟨0, 0, 0, 256, 0, 0, 0⟩,
      ⟨0, 0, 0, 0, 256, 0, 0⟩, ⟨0, 0, 0, 0, 0, 256, 0⟩, ⟨0, 0, 0, 0, 0, 0, 65536⟩] :
      List CallData).all (fun d => !d.wf) = true := by decide

theorem test_wf_entries : entriesWf (List.replicate 123 (63, 1)) = true ∧
    [[(256, 0)], [(0, 256)], List.replicate 124 (0, 0)].all (fun es => !entriesWf es) = true := by
  decide +kernel

theorem test_wf_events :
    [Instr.axisUpdate 0 ⟨32768, true⟩, .pressureCheck 0 ⟨-32769, true⟩,
     .sourceChange .deckHold ⟨32768, true⟩, .durationTimerExpiry 0, .durationTimerExpiry 256,
     .frameComplete .bridge 0 0 (List.replicate 249 0) 0, .unknownRequest .bridge 0 0x10].all
      (fun i => !i.wf) = true := by decide +kernel

theorem test_wf_requests :
    [Instr.channelStatus .bridge 0 256 0, .channelStatus .bridge 0 0 256, .axisMove .bridge 0 256 0,
     .axisMove .bridge 0 0 32768, .axisStop .bridge 0 256, .axisJog .bridge 0 256 1,
     .axisJog .bridge 0 0 256, .tripReset .bridge 0 256, .manualEnter .bridge 0 256,
     .manualSet .bridge 0 256 0, .manualSet .bridge 0 0 32768, .manualApply .bridge 0 256,
     .manualLeave .bridge 0 256, .axisStatus .bridge 0 256 0, .axisStatus .bridge 0 0 256,
     .driveStatus .bridge 0 256, .takeStation .bridge 0 256, .yieldStation .bridge 0 256,
     .refuseStation .bridge 0 256, .deckResume .bridge 0 256, .doorHold .bridge 0 256,
     .doorHoldZone .bridge 0 256, .doorRelease .bridge 0 256, .doorReleaseZone .bridge 0 256,
     .doorIsolate .bridge 0 256, .doorRestore .bridge 0 256, .zoneAlarm .bridge 0 256 0,
     .zoneAlarm .bridge 0 0 256, .doorStatus .bridge 0 256 0, .doorStatus .bridge 0 0 256,
     .zoneStatus .bridge 0 256 0, .zoneStatus .bridge 0 0 256].all (fun i => !i.wf) = true := by
  decide

theorem test_wf_requests_on :
    [Instr.termWrite .bridge 0 256 ⟨0, 0, 0, 0⟩, .termWrite .bridge 0 0 ⟨256, 0, 0, 0⟩,
     .permissiveWrite .bridge 0 256 [], .permissiveWrite .bridge 0 0 [(256, 0)],
     .termStatus .bridge 0 256 0, .termStatus .bridge 0 0 256, .permissiveStatus .bridge 0 256 0,
     .permissiveStatus .bridge 0 0 256, .callPost .bridge 0 ⟨256, 0, 0, 0, 0, 0, 0⟩,
     .callCancel .bridge 0 256, .callStatus .bridge 0 256 0, .callStatus .bridge 0 0 256,
     .patternWrite .bridge 0 256 0, .boardStatus .bridge 0 256 0, .boardStatus .bridge 0 0 256,
     .alarmAck .bridge 0 256, .alarmList .bridge 0 256, .outputSet .bridge 0 256 0,
     .outputSet .bridge 0 0 256, .reportSelect .bridge 0 (Vector.replicate 7 256)].all
      (fun i => !i.wf) = true := by decide

theorem test_wf_settings_requests :
    [Instr.settingsWriteAxis .bridge 0 256 axisData,
     .settingsWriteAxis .bridge 0 0 { axisData with kp := 256 },
     .settingsWriteDrive .bridge 0 256 0, .settingsWriteDrive .bridge 0 0 256,
     .settingsWriteChannel .bridge 0 256 channelData,
     .settingsWriteChannel .bridge 0 0 { channelData with depth := 256 },
     .settingsWriteDoor .bridge 0 256 ⟨0, 0, 0, 0, 0, 0⟩,
     .settingsWriteDoor .bridge 0 0 ⟨256, 0, 0, 0, 0, 0⟩,
     .settingsWriteZone .bridge 0 256 ⟨0, 0, 0⟩, .settingsWriteZone .bridge 0 0 ⟨0, 256, 0⟩,
     .settingsWriteScanner .bridge 0 256 0 0, .settingsWriteScanner .bridge 0 0 256 0,
     .settingsWriteScanner .bridge 0 0 0 256,
     .settingsWriteRouting .bridge 0 256 ⟨Vector.replicate 9 0, Vector.replicate 9 0, 0⟩,
     .settingsWriteRouting .bridge 0 0 ⟨Vector.replicate 9 0, Vector.replicate 9 0, 256⟩,
     .settingsWriteOutput .bridge 0 256 ⟨0, 0, 0, 0⟩, .settingsWriteOutput .bridge 0 0 ⟨256, 0, 0, 0⟩,
     .settingsWriteLink .bridge 0 256 0, .settingsWriteLink .bridge 0 0 65536,
     .settingsRead .bridge 0 256 0, .settingsRead .bridge 0 0 256, .readCounters .bridge 0 256 0,
     .readCounters .bridge 0 0 256].all (fun i => !i.wf) = true := by decide

/-! ## Frames and bytes -/

/-- 10.1: the check value of this CRC over the nine digits. -/
theorem test_crc_check_value :
    crc16 [0x31, 0x32, 0x33, 0x34, 0x35, 0x36, 0x37, 0x38, 0x39] = 0x29B1 := by decide +kernel

/-- No row of the table gives bits. -/
theorem test_no_word_spells_a_command :
    [0, 1, 8, 16].all (fun n => decide (decodeTableWord n 0x10 = none)) = true := by decide

/-- 12.9: AXIS MOVE of axis 0 to −1000, and the same with a fourth payload byte. -/
theorem test_frame_axis_move :
    decodeFrame .localLink ⟨0x10, 0x27, [0x00, 0xFC, 0x18]⟩ =
      .request (.axisMove .localLink 0x27 0 (-1000)) ∧
    decodeFrame .localLink ⟨0x10, 0x27, [0x00, 0xFC, 0x18, 0x00]⟩ = .refuse .badLength := by decide

/-- 12.6, written out byte by byte: a request of each family. -/
theorem test_frames_of_each_family :
    decodeFrame .bridge ⟨0x01, 1, [0xFF, 0x04]⟩ = .request (.channelStatus .bridge 1 255 4) ∧
    decodeFrame .bridge ⟨0x20, 2, [0x03]⟩ = .request (.takeStation .bridge 2 3) ∧
    decodeFrame .bridge ⟨0x30, 3, [0x00, 0x1F]⟩ = .request (.doorHold .bridge 3 31) ∧
    decodeFrame .bridge ⟨0x31, 3, [0x01, 0x07]⟩ = .request (.doorReleaseZone .bridge 3 7) ∧
    decodeFrame .bridge ⟨0x31, 3, [0x02, 0x07]⟩ = .refuse .badField ∧
    decodeFrame .bridge ⟨0x40, 4, [0x0C, 0x01, 0x0A, 0x03, 0x03, 0x20]⟩ =
      .request (.termWrite .bridge 4 12 ⟨1, 10, 3, 800⟩) ∧
    decodeFrame .bridge ⟨0x41, 5, [0x09, 0x02, 0x0C, 0x00, 0x0D, 0x01]⟩ =
      .request (.permissiveWrite .bridge 5 9 [(12, 0), (13, 1)]) ∧
    decodeFrame .bridge ⟨0x41, 5, [0x09, 0x02, 0x0C, 0x00]⟩ = .refuse .badLength ∧
    decodeFrame .bridge ⟨0x48, 6, [0x02, 0x09, 0x00, 0x8C, 0x14, 0x01, 0x00, 0x13, 0x88]⟩ =
      .request (.callPost .bridge 6 ⟨2, 9, 0x008C, 20, 1, 0, 5000⟩) ∧
    decodeFrame .bridge ⟨0x4C, 7, [0x05, 0x80, 0x00, 0x00, 0x01]⟩ =
      .request (.patternWrite .bridge 7 5 0x80000001) ∧
    decodeFrame .bridge ⟨0x50, 8, [0x0D]⟩ = .request (.alarmAck .bridge 8 13) ∧
    decodeFrame .bridge ⟨0x65, 9, [0x00, 0x07, 0xD0, 0x00]⟩ =
      .request (.setClock .bridge 9 512000) ∧
    decodeFrame .bridge ⟨0x66, 9, []⟩ = .request (.identify .bridge 9) ∧
    decodeFrame .bridge ⟨0x03, 9, [1, 2, 3]⟩ = .request (.unknownRequest .bridge 9 0x03) := by
  decide

/-- 12.8: a SETTINGS WRITE of CHANNEL 8 carries 127 bytes of object data, padded with zeros. -/
theorem test_frame_settings_write :
    decodeFrame .bridge ⟨0x60, 1, [0x02, 0x08, 0x01, 0x00, 0x10, 0x0F, 0xF0, 0x04, 0x01, 0x9A, 0x2B,
      0xF2, 0xFF, 0xFE] ++ List.replicate 115 0⟩ =
      .request (.settingsWriteChannel .bridge 1 8 ⟨1, 16, 4080, 4, 410, 11250, -2⟩) ∧
    decodeFrame .bridge ⟨0x60, 1, [0x09, 0x00] ++ List.replicate 127 0⟩ = .undefinedObject ∧
    decodeFrame .bridge ⟨0x60, 1, [0x02, 0x08] ++ List.replicate 126 0⟩ = .refuse .badLength := by
  decide +kernel

/-- 12.9: the reply frame, LENGTH 4, KIND 0x10, TAG 0x27, REFUSED, NO_AUTHORITY. -/
theorem test_reply_bytes :
    (Frame.bytes (TxFrame.reply ⟨0x10, 0x27, .refused .noAuthority⟩).frame).take 6 =
      [0xC3, 4, 0x10, 0x27, 2, 5] := by decide

/-! ## The worked figures -/

/-- 1.1.3. -/
theorem test_scaling_figures :
    scaleValue 2048 410 11250 0 = 4498 ∧ scaleValue 300 410 11250 0 = -302 ∧
    scaleValue 4095 0 32767 30000 = 32767 := by decide

/-- 3.2.1, the table of indexes. -/
theorem test_index_figures :
    [-250, -200, -161, -160, 0, 203, 1000, 1039, 1040, 1500].map (fun t => tableIndex .single t true) =
      [0, 0, 0, 1, 5, 10, 30, 30, 31, 31] ∧
    [-250, -200, -161, -160, 0, 203, 1000, 1039, 1040, 1500].map (fun t => tableIndex .split t true) =
      [16, 16, 16, 16, 18, 21, 31, 31, 31, 31] ∧
    [-250, -160, 0, 203, 1000, 1500].map (fun t => tableIndex .split t false) =
      [0, 0, 2, 5, 15, 15] := by decide

/-- 3.2.2, the table of demands. -/
theorem test_demand_figures :
    demandMagnitude (unclampedMoving .normal 600 2500 40) 300 2000 = 2000 ∧
    demandMagnitude (unclampedMoving .normal 600 (-100) 40) 300 2000 = 850 ∧
    demandMagnitude (unclampedMoving .normal 0 30 40) 300 2000 = 300 ∧
    demandMagnitude (unclampedMoving .normal 0 500 0) 300 2000 = 0 ∧
    demandMagnitude (unclampedMoving .forceOpen 600 2500 40) 300 2000 = 600 ∧
    demandMagnitude (unclampedMoving .normal 0 5 3) 300 2000 = 0 := by decide

/-- 3.2.3: from −300 by 150 through 0, and from −50 directly to 100. -/
theorem test_slew_figures :
    slewed (-300) 600 150 2000 = -150 ∧ slewed (-150) 600 150 2000 = 0 ∧
    slewed 0 600 150 2000 = 150 ∧ slewed (-50) 600 150 2000 = 100 ∧
    slewed 1950 2000 150 2000 = 2000 := by decide

/-- 3.6.3: the frames for 850 and 1000, and R61: 4095. -/
theorem test_frame_figures :
    (List.range 64).filter (fun k => decide (highTicks 850 k = 14)) =
      [0, 2, 4, 8, 12, 16, 20, 24, 28, 32, 34, 36, 40, 44, 48, 52, 56, 60] ∧
    highTicks 850 1 = 13 ∧ highTicks 1000 1 = 16 ∧ highTicks 1000 3 = 15 ∧
    highTicks 4095 62 = 64 ∧ highTicks 4095 63 = 63 := by decide

/-- 3.4, the table of bands; R65 with the factory margins. -/
theorem test_band_figures :
    [1500, 9000, 9500, -300].map (fun x => pressureBand x 0 9000) = [2, 15, 15, 0] ∧
    [0, 550, -1500].map (fun x => pressureBand x (-1500) 600) = [11, 15, 0] ∧
    pressureHi 100 32767 = 32767 ∧ pressureLo 100 0 = 100 := by decide

/-! ## States the acts below begin from -/

/-- The state after a command. -/
def after (i : Instr) (s : State) : State :=
  match exec i s with
  | .next t => t
  | .fault _ => s
  | .refused _ => s

/-- The data of the reply a link was last given. -/
def reply (l : Link) (s : State) : Option ReplyData := (s.links.get l).lastReply.map (·.data)

/-- The ramps of 2.13.1 and 3.6.1; the doors and zones of 5.10.1; zone 1 of 7.9.2; four boards. -/
def ship : Settings :=
  { factorySettings with
    axes := Vector.ofFn fun a =>
      { factoryAxis a with
        fitted := true
        lLo := -1500
        lHi := 600
        dMin := 300
        dMax := 2000
        slew := 150
        stopSlew := 400
        kp := 40
        ff := (Vector.replicate 32 0).set 10 600
        warningLanes := 15
        warningPattern := 40
        prt := Vector.replicate 16 100
        marginHi := 50
        marginLo := 50 }
    channels := Vector.replicate 12 ⟨true, 0, 4095, 1, 410, 11250, 0⟩
    doors := Vector.ofFn fun d =>
      if d.val = 8 ∨ d.val = 11 then ⟨.swing, 2, decide (d.val = 8), 20, 5, 3⟩
      else if d.val = 9 ∨ d.val = 10 ∨ d.val = 12 then ⟨.sliding, 2, decide (d.val ≠ 10), 40, 5, 3⟩
      else factoryDoor
    zones := ((Vector.replicate 8 factoryZone).set 1 ⟨0x60, true, 12⟩).set 2 ⟨0x70, true, 12⟩
    boards := 4
    permissives := (Vector.replicate 16 []).set 9 [⟨12, false⟩] }

/-- The part running with these settings: every channel VALID at 550, the bridge at SERVICE and holder
of axes 0 and 1, the local link of axis 2, every slot TRUE. -/
def deck : State :=
  { State.reset with
    power := .running
    settings := ship
    clock := 12000
    inputs := ⟨{ InputLevels.released with serviceKey := true }, InputLevels.released⟩
    channels := Vector.replicate 12 ⟨610, 610, 550, true, 0, 0, true, [610]⟩
    station := { Station.powerOn with
      auth := #v[⟨some .bridge, none⟩, ⟨some .bridge, none⟩, ⟨some .localLink, none⟩, ⟨none, none⟩]
      level := ⟨.service, .operate⟩ }
    evaluator := { Evaluator.powerOn with slots := Vector.replicate 16 ⟨true, 0⟩ } }

/-- Axis 0 lowering from 550 to 400 in a state of travel, with command `c`. -/
def travelling (x : AxisState) (c : Int) : State :=
  deck.modAxis 0 fun r =>
    { r with
      state := x
      target := some 400
      direction := some .lower
      c := c
      motionTimer := some 120000
      motion := some ⟨.bridge, .move, some 400, 11000, none, none⟩ }

/-- Axis 0 in WARNING. -/
def warned : State :=
  deck.modAxis 0 fun r =>
    { r with
      state := .warning
      target := some 400
      direction := some .lower
      warning := some 3000
      motion := some ⟨.bridge, .move, some 400, 12000, none, none⟩ }

/-- Axis 0 in STOPPING with command `c`. -/
def stopping (c : Int) : State :=
  (travelling .stopping c).modAxis 0 fun r =>
    { r with motionTimer := none, stopOutcome := some .stationTaken }

/-- Axis 2 jogging upward. -/
def jogging (c : Int) : State :=
  deck.modAxis 2 fun r =>
    { r with
      state := .jogging
      direction := some .raise
      c := c
      motionTimer := some 120000
      refresh := some 500
      motion := some ⟨.localLink, .jog, none, 12000, none, none⟩ }

/-- Axis 1 in MANUAL with a staged value. -/
def byHand (staged c : Int) : State :=
  deck.modAxis 1 fun r =>
    { r with state := .manual, staged := staged, c := c, refresh := some 500 }

/-- Axis 0 TRIPPED. -/
def tripped : State := deck.modAxis 0 fun r => { r with state := .tripped, tripKind := some .high }

/-- Door `d` in a state. -/
def doorIn (d : Fin 32) (x : DoorState) : State :=
  deck.modDoor d fun r =>
    { r with
      state := x
      travel := if x = .closing ∨ x = .opening then some 20000 else none
      pause := if x = .obstructed then some 2000 else none }

/-- A call with most fields plain. -/
def call (n : Nat) (k : CallKind) (p : Nat) (o : Origin) (lanes : LaneSet) (pattern : Fin 64)
    (ack : Bool) (acked : LaneSet) (seq : Nat) : Call :=
  ⟨n, k, p, o, lanes, pattern, false, ack, acked, 0, none, 0, seq⟩

/-- The table of 7.9.1. -/
def callDeck : State :=
  { deck with calls := { CallTable.powerOn with
      table := [call 12 .recall 3 (.link .bridge) 0x0100 1 true 0 1,
        call 40 .notice 3 (.link .bridge) 0x0100 1 false 0 2,
        call 41 .notice 3 (.link .bridge) 0x0100 1 false 0 3,
        call 42 .notice 3 (.link .bridge) 0x0100 1 false 0 4,
        call 43 .notice 3 (.link .bridge) 0x0100 1 false 0 5,
        call 254 .notice 3 (.link .localLink) 0x0100 1 false 0 6,
        call 1 .evacuate 7 (.zone 3) 0x0100 1 false 0 7]
      number := 254
      sequence := 905 } }

/-- The table of 7.9.2. -/
def answerDeck : State :=
  { deck with calls := { CallTable.powerOn with
      table := [call 12 .recall 3 (.link .bridge) 0x000C 1 true 0 1,
        call 15 .recall 3 (.link .bridge) 0x0028 1 true 0x0008 2,
        { call 16 .disembark 3 (.link .bridge) 0x0008 1 false 0 3 with
          duration := 600, timer := some 20000 }]
      number := 17
      sequence := 4 } }

/-- The table of 8.7.1. -/
def boardDeck : State :=
  { deck with
    clock := 12496
    calls := { CallTable.powerOn with
      table := [call 255 .recall 5 (.link .bridge) 0x0006 20 true 0 905,
        call 2 .notice 2 (.link .bridge) 0x0001 31 false 0 906,
        call 3 .standClear 6 (.axis 0) 0x000F 40 false 0 907]
      number := 4
      sequence := 908 } }

/-- A scan frame of four boards in progress. -/
def scanning : State :=
  { deck with scanner := { Scanner.powerOn with frame := some ⟨4, 2, 0⟩ } }

/-- DOOR_FAULT 12 acknowledged, as in 9.6 with STOP_FOLLOWS_ALARM on. -/
def alarmDeck : State :=
  { deck with
    settings := { ship with
      routing := { factoryRouting with stopFollowsAlarm := true }
      outputs := (Vector.replicate 8 factoryOutput).set 3 ⟨.alarmLine, false, false⟩ }
    alarms := { AlarmUnit.powerOn with
      list := [⟨36, .activeAcked, 100, 200, 1⟩]
      flags := (Vector.replicate 60 false).set 36 true } }

/-- Both links UP. -/
def linked : State :=
  { deck with links :=
    ⟨{ LinkController.powerOn .bridge with state := .up, timer := some 2000 },
     { LinkController.powerOn .localLink with state := .up, timer := some 2000 }⟩ }

/-! ## Power and start-up (11.5, 11.7) -/

theorem test_power_on_begins_the_load :
    (after .powerOn deck).power = .loading ∧ (after .powerLoss deck).power = .off := by decide

/-- 11.7: with a bad CRC the defaults are in force at revision 0, and SETTINGS_DEFAULTED (source 59) is
raised RETURNED_UNACKED. -/
theorem test_load_end_with_bad_crc :
    let t := after (.settingsLoadEnd InputLevels.released (Vector.replicate 32 DoorInputs.released))
      State.reset
    t.power = .running ∧ t.store.defaulted = true ∧ t.store.revision = 0 ∧
    t.alarms.list = [⟨59, .returnedUnacked, 0, 0, 1⟩] := by decide +kernel

/-! ## Measurement (01) -/

/-- R4, R5, R6: the third good sample in a row makes the channel VALID with the value of 1.1.3. -/
theorem test_channel_completion :
    let s := deck.modChannel 0 fun r => { r with valid := false, count := 2, filter := [] }
    let t := after (.channelCompletion 0 2048) s
    t.channels[(0 : Fin 12)].valid = true ∧ t.channels[(0 : Fin 12)].scaled = 4498 := by decide

/-- R11, R114: GI2 asserts and is handed to the evaluator and the alarm unit. -/
theorem test_input_change :
    (after (.discreteInputChange (.gi 2) [true, true]) deck).handed =
      [.sourceChange (.input 2) ⟨1, true⟩, .outputLineSourceChange (.input 2) true] := by decide

/-- R11: a lone sample, and samples that alternate, change nothing but the last sample; the second of two
equal ones changes the debounced state, though the first came in an event before. -/
theorem test_input_samples :
    let lone := after (.discreteInputChange (.gi 2) [true]) deck
    lone.inputs.levels.get (.gi 2) = false ∧ lone.inputs.last.get (.gi 2) = true ∧ lone.handed = [] ∧
    (after (.discreteInputChange (.gi 2) [true, false, true]) deck).handed = [] ∧
    (after (.discreteInputChange (.gi 2) [true]) lone).inputs.levels.get (.gi 2) = true := by decide

/-- R13: two scans that agree change a debounced level; R14 hands it on with all three inputs. -/
theorem test_door_scan :
    let scan := (Vector.replicate 32 DoorInputs.released).set 8 ⟨false, true, false⟩
    let once := after (.doorScan scan) deck
    once.handed = [] ∧
    (after (.doorScan scan) once).handed = [.doorInputChange 8 ⟨false, true, false⟩] := by decide

theorem test_channel_status :
    reply .bridge (after (.channelStatus .bridge 1 12 0) deck) = some (.refused .badField) ∧
    ((deck.channelBytes 3).headD 0) = 3 := by decide

/-- 12.6: INPUT STATUS answers 37 bytes. -/
theorem test_input_status :
    (reply .bridge (after (.inputStatus .bridge 1) deck)).isSome = true ∧
    deck.inputBlock.length = 37 := by decide

/-! ## Axes (02, 03) -/

/-- 2.13.1, at 0 ms: −2000 is clamped to −1500; the warning timer takes 3,000 ms. -/
theorem test_axis_move_starts :
    let t := after (.axisMove .bridge 1 0 (-2000)) deck
    t.axes[(0 : Fin 4)].state = .warning ∧ t.axes[(0 : Fin 4)].target = some (-1500) ∧
    t.axes[(0 : Fin 4)].direction = some .lower ∧ t.axes[(0 : Fin 4)].warning = some 3000 ∧
    reply .bridge t = some (.accepted [0xFA, 0x24, 0]) := by decide

/-- 2.13.1, at 1,200 and 2,500 ms: −1000 is taken; 900 lies above 570 and is refused STATE. -/
theorem test_axis_move_retargets :
    (after (.axisMove .bridge 1 0 (-1000)) warned).axes[(0 : Fin 4)].target = some (-1000) ∧
    reply .bridge (after (.axisMove .bridge 1 0 900) warned) = some (.refused .state) := by decide

/-- 2.13.1, at 3,000 ms. -/
theorem test_warning_expiry :
    let t := after (.warningTimerExpiry 0) warned
    t.axes[(0 : Fin 4)].state = .moving ∧ t.axes[(0 : Fin 4)].motionTimer = some 120000 := by decide

/-- 3.6.1, the first update: T 203 gives index 10, e 2500 gives 6850 clamped to 2000, c 150. -/
theorem test_update_accelerates :
    let s := ((travelling .moving 0).modAxis 0 fun x => { x with target := some 4000 }).modChannel 8
      fun r => { r with scaled := 203 }
    let t := after (.axisUpdate 0 ⟨1500, true⟩) s
    t.axes[(0 : Fin 4)].c = 150 ∧ t.valves[(0 : Fin 4)].command = 150 ∧
    t.axes[(0 : Fin 4)].update =
      some ⟨.moving, some 203, some true, some 10, some 2500, some 2000, 2000, 0, 150⟩ := by decide

/-- 3.6.2, updates 8 and 12: c 862; and SETTLING with count 1 and c 525. -/
theorem test_update_approaches :
    let s := fun c => ((travelling .moving c).modAxis 0 fun x =>
      { x with target := some 4000, direction := some .raise }).modChannel 8
      fun r => { r with scaled := 203 }
    (after (.axisUpdate 0 ⟨3895, true⟩) (s 950)).axes[(0 : Fin 4)].c = 862 ∧
    (let x := (after (.axisUpdate 0 ⟨3982, true⟩) (s 675)).axes[(0 : Fin 4)];
      x.state = .settling ∧ x.settle = 1 ∧ x.c = 525) := by decide

/-- 2.13.1, at 6,080 ms: the stopping outcome is kept. -/
theorem test_axis_stop :
    (after (.axisStop .bridge 1 0) (stopping (-300))).axes[(0 : Fin 4)].stopOutcome =
      some .stationTaken ∧
    (after (.axisStop .localLink 1 0) (travelling .moving (-300))).axes[(0 : Fin 4)].state =
      .stopping := by decide

/-- 2.13.2, at 200 and 600 ms. -/
theorem test_axis_jog :
    (after (.axisJog .localLink 1 2 1)
      ((jogging 300).modAxis 2 fun x => { x with refresh := some 300 })).axes[(2 : Fin 4)].refresh =
      some 500 ∧
    reply .localLink (after (.axisJog .localLink 1 2 1)
      ((jogging 300).modAxis 2 fun x => { x with state := .stopping, stopOutcome := some .limit })) =
      some (.refused .busy) := by decide

/-- 2.13.2, at 560 ms: the soft limit. -/
theorem test_jog_soft_limit :
    let x := (after (.axisUpdate 2 ⟨600, true⟩) (jogging 900)).axes[(2 : Fin 4)]
    x.state = .stopping ∧ x.stopOutcome = some .limit ∧ x.refresh = none := by decide

/-- 2.13.3: 2500 is staged as 2000; APPLY makes it the command and starts the window. -/
theorem test_manual_set_and_apply :
    reply .bridge (after (.manualSet .bridge 1 1 2500) (byHand 0 0)) =
      some (.done [0x07, 0xD0]) ∧
    (let t := after (.manualApply .bridge 1 1) (byHand 2000 0);
      t.axes[(1 : Fin 4)].c = 2000 ∧ t.axes[(1 : Fin 4)].refresh = some 500) := by decide

/-- 2.13.3: the STOP line brings the axis to IDLE with its frame cut. -/
theorem test_stop_line :
    let t := after (.stopLineChange 1 true) (byHand 2000 2000)
    t.axes[(1 : Fin 4)].state = .idle ∧ t.axes[(1 : Fin 4)].c = 0 ∧
    t.valves[(1 : Fin 4)].cut = true := by decide

/-- R38, R40. -/
theorem test_manual_enter_and_leave :
    (after (.manualEnter .bridge 1 1) deck).axes[(1 : Fin 4)].state = .manual ∧
    reply .localLink (after (.manualEnter .localLink 1 2) deck) = some (.refused .level) ∧
    (after (.manualLeave .bridge 1 1) (byHand 2000 2000)).axes[(1 : Fin 4)].state = .idle := by decide

/-- R39. -/
theorem test_manual_refresh_expiry :
    let x := (after (.manualRefreshExpiry 1) (byHand 2000 2000)).axes[(1 : Fin 4)]
    x.state = .manual ∧ x.c = 0 ∧ x.staged = 2000 := by decide

/-- R65, R66: a pressure equal to the limit is inside; a second one above trips. -/
theorem test_pressure_check :
    let s := (travelling .moving (-300)).modAxis 0 fun x => { x with confirm := some .high }
    (after (.pressureCheck 0 ⟨150, true⟩) s).axes[(0 : Fin 4)].confirm = none ∧
    (after (.pressureCheck 0 ⟨151, true⟩) s).axes[(0 : Fin 4)].tripKind = some .high := by decide

/-- R35. -/
theorem test_trip_reset :
    (after (.tripReset .bridge 1 0) tripped).axes[(0 : Fin 4)].state = .idle ∧
    reply .bridge (after (.tripReset .bridge 1 0) deck) = some (.refused .state) := by decide

/-- R27, R28, R29, R31, R32, R37, R41, R42: what ends a motion in travel. -/
theorem test_ends_of_travel :
    [(Instr.permissiveSlotChange 0 .lower false, MotionOutcome.permissiveLost),
     (.motionTimerExpiry 0, .timeout), (.holderChange 0 .linkLost, .linkLost),
     (.deckHoldNotice 0, .held), (.angleValidityChange 0 false, .sensorLost)].all
      (fun p => decide ((after p.1 (travelling .moving (-300))).axes[(0 : Fin 4)].stopOutcome =
        some p.2)) = true ∧
    (after (.limitSwitchChange 0 .lower true) (travelling .moving (-300))).axes[(0 : Fin 4)].state =
      .idle ∧
    (after (.jogRefreshExpiry 2) (jogging 300)).axes[(2 : Fin 4)].stopOutcome =
      some .jogReleased := by decide

/-- R29, R43, R81. -/
theorem test_other_axis_events :
    (after (.disablingNotice 0) (stopping (-300))).axes[(0 : Fin 4)].state = .idle ∧
    (after (.pressureValidityChange 0 false)
      (deck.modChannel 4 fun r => { r with valid := false })).axes[(0 : Fin 4)].sensor = true ∧
    (after (.lossOfServiceLevel 1 .bridge) (byHand 5 0)).axes[(1 : Fin 4)].state = .idle := by decide

/-- R58, R59 and 3.6.4: a frame of zero stands between the two directions. -/
theorem test_valve_frame_start :
    let s := deck.modValve 0 fun g => { g with command := 150, applied := 300, lines := some .lower }
    let once := after (.valveFrameStart 0) s
    once.valves[(0 : Fin 4)].applied = 0 ∧ once.valves[(0 : Fin 4)].lines = some .lower ∧
    (let t := after (.valveFrameStart 0) once;
      t.valves[(0 : Fin 4)].applied = 150 ∧ t.valves[(0 : Fin 4)].lines = some .raise) := by decide

/-- 12.4: an axis status record has 47 bytes; 12.6: DRIVE STATUS answers 46. -/
theorem test_axis_and_drive_status :
    (deck.axisBytes 0).length = 47 ∧ (deck.driveBlock 0).length = 46 ∧
    reply .bridge (after (.axisStatus .bridge 1 4 0) deck) = some (.refused .badField) ∧
    reply .bridge (after (.driveStatus .bridge 1 4) deck) = some (.refused .badField) := by decide

/-! ## Stations and deck hold (04) -/

/-- 4.6.1. -/
theorem test_station_requests :
    let asked := after (.takeStation .localLink 1 1) deck
    asked.station.auth[(1 : Fin 4)].request = some ⟨.localLink, 12000, 30000⟩ ∧
    reply .localLink (after (.takeStation .localLink 2 1) asked) = some (.refused .state) ∧
    (after (.yieldStation .bridge 2 1) asked).holder 1 = some .localLink ∧
    (after (.refuseStation .bridge 2 1) asked).station.auth[(1 : Fin 4)] = ⟨some .bridge, none⟩ ∧
    (after (.deadlineExpiry 1) asked).station.auth[(1 : Fin 4)] = ⟨some .bridge, none⟩ := by decide

/-- R72: after a YIELD the axis at rest may be commanded at once; the notice of its passing does not end
the new motion. -/
theorem test_yielded_axis_moves_at_once :
    let asked := after (.takeStation .localLink 1 1) deck
    let t := after (.axisMove .localLink 2 1 100) (after (.yieldStation .bridge 1 1) asked)
    t.axes[(1 : Fin 4)].state = .warning ∧ .holderChange 1 .passed ∉ t.handed := by decide

/-- 4.6.2: the bridge's request for an axis of the lost local link is granted to it. -/
theorem test_station_link_loss :
    let s := deck.modAuth 2 fun r => { r with request := some ⟨.bridge, 0, 30000⟩ }
    (after (.stationLinkLoss .localLink) s).holder 2 = some .bridge ∧
    (after (.stationLinkLoss .localLink) deck).holder 2 = none := by decide

/-- R75, R76, R169: a good frame returns the lost bridge with no authority and no request; it takes axis 0
again, which no later loss undoes, and its YIELD of axis 1, which has passed, is refused. -/
theorem test_returned_link_has_no_authority :
    let s := { (deck.modAuth 1 fun r => { r with request := some ⟨.localLink, 0, 30000⟩ }) with
      links := ⟨{ LinkController.powerOn .bridge with state := .up, timer := some 0 },
        LinkController.powerOn .localLink⟩ }
    let t := after (.frameComplete .bridge 0x27 1 [] (Frame.crc ⟨0x27, 1, []⟩))
      (after (.linkLost .bridge) s)
    t.holder 0 = none ∧ t.holder 1 = some .localLink ∧ .stationLinkLoss .bridge ∉ t.handed ∧
    (after (.takeStation .bridge 2 0) t).holder 0 = some .bridge ∧
    reply .bridge (after (.yieldStation .bridge 2 1) t) = some (.refused .noAuthority) := by
  decide +kernel

/-- R77, R78, R79. -/
theorem test_deck_hold :
    (after (.deckHold .bridge 1) deck).station.hold = .established ∧
    (let s := { deck with station := { deck.station with
        active := deck.station.active.set 0 true, claims := ⟨true, false⟩, hold := .pending } };
      (after (.axisStateChangeSeen 0 .idle) s).station.hold = .established ∧
      (after (.deckResume .bridge 1 0) s).station.hold = .none) := by decide

/-- R78: an axis that has entered WARNING before the hold is found active. -/
theorem test_hold_finds_a_new_motion :
    let t := after (.deckHold .bridge 2) (after (.axisMove .bridge 1 0 100) deck)
    t.station.hold = .pending ∧ t.station.active[(0 : Fin 4)] = true := by decide

/-- R80, R81. -/
theorem test_service_level :
    reply .localLink (after (.serviceEnter .localLink 1) deck) = some (.refused .level) ∧
    (after (.serviceLeave .bridge 1) deck).station.level.bridge = .operate ∧
    (after .serviceKeyRelease deck).handed =
      [.lossOfServiceLevel 0 .bridge, .lossOfServiceLevel 1 .bridge] := by decide

/-- 12.6: STATION STATUS answers 53 bytes. -/
theorem test_station_status :
    reply .localLink (after (.stationStatus .localLink 1) deck) = some (.done deck.stationBlock) ∧
    deck.stationBlock.length = 53 := by decide

/-! ## Doors and zones (05) -/

/-- 5.10.1, at 0 ms, door by door. -/
theorem test_fire_releases_doors :
    let s := (((doorIn 8 .openHeld).modDoor 9 fun r => { r with state := .openHeld }).modDoor 11
      fun r => { r with state := .armed, seen := ⟨false, true, false⟩ }).modDoor 12
      fun r => { r with state := .obstructed, pause := some 2000, retry := 1 }
    let t := after (.fireInputChange 2 true) s
    t.zones[(2 : Fin 8)].alarm = true ∧ t.doors[(8 : Fin 32)].state = .closing ∧
    t.doors[(9 : Fin 32)].travel = some 40000 ∧ t.doors[(11 : Fin 32)].state = .closed ∧
    t.doors[(12 : Fin 32)].state = .obstructed := by decide

/-- 5.10.1, at 1,500 ms: refused ZONE_IN_ALARM. R87: a swing door is ARMED, a sliding one OPENING. -/
theorem test_door_hold :
    reply .localLink (after (.doorHold .localLink 1 11)
      (deck.modZone 2 fun z => { z with alarm := true })) = some (.refused .zoneInAlarm) ∧
    (after (.doorHold .bridge 1 8) deck).doors[(8 : Fin 32)].state = .armed ∧
    (after (.doorHold .bridge 1 9) deck).doors[(9 : Fin 32)].state = .opening := by decide

/-- R88, R92. -/
theorem test_door_requests_of_a_zone :
    reply .bridge (after (.doorHoldZone .bridge 1 2) (doorIn 8 .fault)) = some (.done [1, 8, 6]) ∧
    reply .bridge (after (.doorReleaseZone .bridge 1 2) (doorIn 8 .openHeld)) =
      some (.done [1, 8, 4]) ∧
    (after (.doorRelease .bridge 1 8) (doorIn 8 .openHeld)).doors[(8 : Fin 32)].state = .closing := by
  decide

/-- 5.10.1, at 2,000 and 12,900 ms: retry 1 < 3 closes with retry 2; retry 3 = 3 faults. -/
theorem test_pause_expiry :
    let s := fun n => (doorIn 12 .obstructed).modDoor 12 fun r => { r with retry := n }
    (after (.pauseTimerExpiry 12) (s 1)).doors[(12 : Fin 32)].retry = 2 ∧
    (after (.pauseTimerExpiry 12) (s 3)).doors[(12 : Fin 32)].cause = some .retries := by decide

/-- 5.10.1, at 2,600 and 5,800 ms; 5.10.2, at 0 ms. -/
theorem test_door_input_changes :
    (after (.doorInputChange 12 ⟨false, false, true⟩) (doorIn 12 .closing)).doors[(12 : Fin 32)].pause =
      some 5000 ∧
    (after (.doorInputChange 8 ⟨false, true, false⟩)
      { doorIn 8 .closing with uptime := 5800 }).doors[(8 : Fin 32)].closeDuration = some 5800 ∧
    (after (.doorInputChange 8 ⟨false, false, false⟩)
      (deck.modDoor 8 fun r => { r with seen := ⟨false, true, false⟩ })).doors[(8 : Fin 32)].travel =
      some 20000 := by decide

/-- R90, R94, R98. -/
theorem test_door_faults :
    (after (.travelTimerExpiry 8) (doorIn 8 .closing)).doors[(8 : Fin 32)].cause = some .closeTime ∧
    (after (.travelTimerExpiry 9) (doorIn 9 .opening)).doors[(9 : Fin 32)].cause = some .openTime ∧
    (after (.conflictTimerExpiry 8)
      (deck.modDoor 8 fun r => { r with conflict := some 1000 })).doors[(8 : Fin 32)].cause =
      some .switches := by decide

/-- R100. -/
theorem test_door_isolate_and_restore :
    (after (.doorIsolate .bridge 1 8) (doorIn 8 .fault)).doors[(8 : Fin 32)].state = .isolated ∧
    (after (.doorRestore .bridge 1 8) (doorIn 8 .isolated)).doors[(8 : Fin 32)].state = .closing := by
  decide

/-- R106. -/
theorem test_zone_alarm :
    (after (.zoneAlarm .bridge 1 2 1) deck).zones[(2 : Fin 8)].alarm = true ∧
    reply .localLink (after (.zoneAlarm .localLink 1 2 1) deck) = some (.refused .noAuthority) := by
  decide

/-- 12.4: a door status record has 37 bytes. -/
theorem test_door_and_zone_status :
    (deck.doorBytes 8).length = 37 ∧
    reply .bridge (after (.doorStatus .bridge 1 32 0) deck) = some (.refused .badField) ∧
    reply .bridge (after (.zoneStatus .bridge 1 8 0) deck) = some (.refused .badField) := by decide

/-! ## Permissives (06) -/

/-- 6.7: TERM WRITE (term 12, CHANNEL 10, GE, 900); at 950 its value is TRUE; in WARNING it is BUSY. -/
theorem test_term_write :
    let s := deck.modChannel 10 fun r => { r with scaled := 950 }
    let lists := fun (x : State) => { x with settings := { x.settings with
      permissives := x.settings.permissives.set 0 [⟨12, false⟩] } }
    (after (.termWrite .bridge 1 12 ⟨1, 10, 3, 900⟩) s).evaluator.values[(12 : Fin 64)] = true ∧
    reply .bridge (after (.termWrite .bridge 1 12 ⟨1, 10, 3, 800⟩) (lists warned)) =
      some (.refused .busy) := by decide +kernel

/-- R118; 6.7: slot 9 follows term 12. -/
theorem test_permissive_write :
    (after (.permissiveWrite .bridge 1 9 [(12, 0)]) deck).evaluator.slots[(9 : Fin 16)].result = false ∧
    reply .bridge (after (.permissiveWrite .bridge 1 9 [(12, 1)]) deck) = some (.done [1]) := by decide +kernel

/-- 6.7: channel 10 becomes INVALID, and slot 9 with its GE term turns FALSE, reported with its source. -/
theorem test_source_change :
    let s := { deck with
      settings := { ship with terms := ship.terms.set 12 ⟨some (.channel 10), .ge, 800⟩ }
      evaluator := { deck.evaluator with values := deck.evaluator.values.set 12 true } }
    let t := after (.sourceChange (.channel 10) ⟨950, false⟩) s
    t.evaluator.values[(12 : Fin 64)] = false ∧ t.evaluator.slots[(9 : Fin 16)].result = false ∧
    t.links.bridge.queue.map (·.body) = [.permissiveChanged 9 false (some (.channel 10))] := by decide

theorem test_term_and_permissive_status :
    reply .bridge (after (.termStatus .bridge 1 64 0) deck) = some (.refused .badField) ∧
    reply .bridge (after (.permissiveStatus .bridge 1 16 0) deck) = some (.refused .badField) := by
  decide

/-! ## Calls (07) -/

/-- 7.9.1, the first and the fourth post. -/
theorem test_call_post :
    let t := after (.callPost .bridge 1 ⟨2, 9, 0x008C, 20, 1, 0, 5000⟩) callDeck
    t.calls.table.getLast?.map (fun c => (c.number, c.sequence, c.priority, c.duration)) =
      some (255, 905, 5, 3600) ∧ t.calls.number = 1 ∧ t.calls.chimeTimer = some 2000 ∧
    reply .localLink (after (.callPost .localLink 1 ⟨0, 0, 0xFFFF, 0, 0, 0, 0⟩) callDeck) =
      some (.refused .noAuthority) := by decide

/-- 7.9.1: STAND_CLEAR of axis 1 is admitted; zone 3's EVACUATE stands already. -/
theorem test_automatic_posts :
    (after (.standClearPost 1) callDeck).calls.table.getLast?.map (fun c => (c.origin, c.priority)) =
      some (.axis 1, 6) ∧
    (after (.evacuatePost 3) callDeck).calls = callDeck.calls := by decide

/-- 7.9.1: CALL CANCEL (42). -/
theorem test_call_cancel :
    (after (.callCancel .localLink 1 42) callDeck).calls.externals = 5 ∧
    reply .localLink (after (.callCancel .localLink 1 1) callDeck) = some (.refused .noAuthority) := by
  decide

/-- 7.9.2, at 4,000 ms: call 12 is answered by the press on lane 2 after that on lane 3. -/
theorem test_lane_acknowledgement :
    let first := after (.laneAcknowledgement 3) answerDeck
    first.calls.table.map (·.acked) = [8, 8, 0] ∧
    (after (.laneAcknowledgement 2) first).calls.table.map (·.number) = [15, 16] := by decide

/-- 7.9.2, at 11,000, 13,000 and 20,000 ms. -/
theorem test_trim_and_expiry :
    let t := after (.recallTrim 1) answerDeck
    t.calls.table.map (·.number) = [12, 16] ∧
    t.calls.removed.map (fun r => (r.number, r.lanes, r.reason)) = [(15, 8, .answered)] ∧
    (after (.durationTimerExpiry 16) answerDeck).calls.table.map (·.number) = [12, 15] ∧
    (after .chimeTimerExpiry
      { deck with calls := { CallTable.powerOn with chimeTimer := some 0, chime := true } }).calls.chime =
      false := by decide

/-- R132: the post's own removal. R136: an absent call is NOT_FOUND. -/
theorem test_stand_clear_removal :
    (after (.standClearRemoval 0) boardDeck).calls.table.map (·.number) = [255, 2] ∧
    reply .bridge (after (.callStatus .bridge 1 9 0) boardDeck) = some (.refused .notFound) := by decide

/-! ## Boards (08) -/

/-- 8.7.1, at 12,496 (LIT) and 12,502 (DARK): call 3 wins every board. -/
theorem test_board_frames :
    let boards := fun t => ((after .boardFrameStart { boardDeck with clock := t }).scanner.shown.toList.take 5).map
      fun x => (x.winner.map (·.1), x.pattern, x.lit)
    boards 12496 = List.replicate 4 (some 3, some 40, true) ++ [(none, none, false)] ∧
    boards 12502 = List.replicate 4 (some 3, some 40, false) ++ [(none, none, false)] := by decide

/-- 8.7.1, at 12,508: call 3 is gone and no board flashes. -/
theorem test_board_winners :
    ((after .boardFrameStart
      { after (.standClearRemoval 0) boardDeck with clock := 12508 }).scanner.shown.toList.take 4).map
      (fun x => (x.winner.map (·.1), x.pattern, x.lit)) =
    [(some 2, some 31, true), (some 255, some 20, true), (some 255, some 20, true),
      (none, some 0, true)] := by decide

/-- R145: the third differing sample presses the button; R140: the last frame's end clears it. -/
theorem test_buttons :
    let one := (Vector.replicate 16 false).set 2 true
    let twice := after (.buttonSample one) (after (.buttonSample one) scanning)
    twice.scanner.buttons[(2 : Fin 16)] = ⟨false, 2⟩ ∧
    (let t := after (.buttonSample one) twice;
      t.scanner.buttons[(2 : Fin 16)] = ⟨true, 0⟩ ∧
      t.handed = [.sourceChange (.laneButton 2) ⟨1, true⟩, .laneAcknowledgement 2] ∧
      (after .lastScanFrameEnd { t with settings := { ship with boards := 0 } }).scanner.frame =
        none) ∧
    (after (.laneButtonChange 3 true) scanning).handed =
      [.sourceChange (.laneButton 3) ⟨1, true⟩, .laneAcknowledgement 3] := by decide

/-- R147: with the settings written from 4 boards to 2 in a frame of 4, N stays 4 and board 3 fitted until
the next frame start. R140: no second frame start is handed on where N is not 0. -/
theorem test_board_status_in_a_frame :
    let s := after (.settingsWriteScanner .bridge 1 0 2 2) scanning
    s.settings.boards = 2 ∧ s.handed = [] ∧ s.boardSummary.head? = some 4 ∧
    (s.boardBytes 3).take 2 = [3, 1] ∧ (s.boardBytes 4).take 2 = [4, 0] := by decide

/-- R144; R147. -/
theorem test_patterns_and_board_status :
    (after (.patternWrite .bridge 1 5 0x80000001) deck).settings.patterns[(5 : Fin 64)] = 0x80000001 ∧
    reply .localLink (after (.patternWrite .localLink 1 5 1) deck) = some (.refused .level) ∧
    reply .bridge (after (.boardStatus .bridge 1 16 0) deck) = some (.refused .badField) := by decide

/-! ## Alarms and outputs (09) -/

/-- 9.6: ESTOP asserted, then acknowledged, then released. -/
theorem test_alarm_list :
    let hit := after (.alarmSourceChange .estop true) alarmDeck
    let acked := after (.alarmAck .localLink 1 255) hit
    let clear := after (.alarmSourceChange .estop false) acked
    (hit.alarms.alarm, hit.alarms.stop) = (true, true) ∧
    reply .localLink acked = some (.done [1]) ∧
    (acked.alarms.alarm, acked.alarms.stop) = (false, true) ∧
    clear.alarms.list.map (·.source) = [36] ∧ clear.alarms.stop = false := by decide

/-- 9.6: AXIS_TIMEOUT 1 stops the pump through the ALARM line; its acknowledgement (13) removes it. -/
theorem test_momentary_raise :
    let t := after (.momentaryRaise (.axisTimeout 1)) alarmDeck
    t.alarms.list.map (fun e => (e.source, e.state)) = [(36, .activeAcked), (13, .returnedUnacked)] ∧
    t.alarms.stop = true ∧
    (after (.alarmAck .bridge 1 13) t).alarms.list.map (·.source) = [36] := by decide

/-- 9.6: line 3 follows the ALARM line. R160: OUTPUT SET of a FIXED line. -/
theorem test_output_lines :
    (after (.outputLineSourceChange .alarmLine true) alarmDeck).alarms.lines[(3 : Fin 8)].level = true ∧
    (after (.outputSet .bridge 1 0 1) deck).alarms.lines[(0 : Fin 8)] = ⟨true, true⟩ ∧
    reply .bridge (after (.outputSet .bridge 1 3 1) alarmDeck) = some (.refused .state) := by decide

theorem test_alarm_list_and_output_status :
    reply .bridge (after (.alarmList .bridge 1 60) deck) = some (.refused .badField) ∧
    reply .bridge (after (.outputStatus .bridge 1) deck) = some (.done deck.outputBlock) := by decide

/-! ## Links (10) -/

/-- R165, R169: the CRC of a frame is judged at its last byte; a good frame brings the link UP. -/
theorem test_frame_complete :
    let crc := Frame.crc ⟨0x27, 1, []⟩
    let t := after (.frameComplete .bridge 0x27 1 [] crc) deck
    t.links.bridge.state = .up ∧ t.links.bridge.timer = some 2000 ∧ t.counters.links.bridge.good = 1 ∧
    (after (.frameComplete .bridge 0x27 1 [] (crc + 1)) deck).counters.links.bridge.crc = 1 := by decide +kernel

/-- R165: START, then a LENGTH out of range. -/
theorem test_receiver :
    let started := after (.byteReceived .bridge 0xC3) deck
    started.links.bridge.receiver = .length ∧
    (after (.byteReceived .bridge 1) started).counters.links.bridge.crc = 1 ∧
    (after (.gapAbort .bridge) started).counters.links.bridge.gap = 1 ∧
    (after (.frameDiscard .bridge .missingStop) started).links.bridge.receiver = .hunt := by decide

/-- 10.8, at 2,000 ms; R173: a break clears the link; R171: an ended transmission frees the line. -/
theorem test_link_events :
    let t := after (.linkLost .localLink) linked
    t.links.localLink.state = .lost ∧
    t.handed = [.alarmSourceChange (.linkLost .localLink) true, .stationLinkLoss .localLink] ∧
    (after (.receiveBreak .localLink) linked).links.localLink.state = .down ∧
    (after (.transmitEnd .bridge) (after (.identify .bridge 1) linked)).links.bridge.line = none := by
  decide

/-- R172, R167. -/
theorem test_link_requests :
    (after (.reportSelect .bridge 1 #v[1, 0, 0, 0, 0, 0, 1]) linked).links.bridge.selection =
      #v[true, false, false, false, false, false, true] ∧
    reply .bridge (after (.unknownRequest .bridge 1 0x03) linked) = some (.refused .unknownRequest) ∧
    (after (.linkRestart .localLink 1) linked).links.localLink.state = .down ∧
    (linked.linkBytes .bridge ++ linked.linkBytes .localLink).length = 24 ∧
    (reply .bridge (after (.linkStatus .bridge 1) linked)).isSome = true := by decide

/-! ## Settings, counters and clock (11) -/

/-- R18, R176: Dmin above Dmax; an axis in motion refuses BUSY. -/
theorem test_settings_write_axis :
    (after (.settingsWriteAxis .bridge 1 1 { axisData with dMin := 3000 }) deck).settings.axes[(1 : Fin 4)].dMin =
      2000 ∧
    reply .bridge (after (.settingsWriteAxis .bridge 1 0 axisData) warned) = some (.refused .busy) := by
  decide

/-- R7: a depth of 5 is taken as 4. R49: the oil channel. -/
theorem test_settings_write_channel_and_drive :
    (after (.settingsWriteChannel .bridge 1 11 { channelData with depth := 5 }) deck).settings.channels[(11 : Fin 12)].depth =
      4 ∧
    (after (.settingsWriteDrive .bridge 1 0 11) deck).settings.oil = 11 ∧
    reply .bridge (after (.settingsWriteDrive .bridge 1 0 12) deck) = some (.refused .badField) := by
  decide

/-- R85, R104. -/
theorem test_settings_write_door_and_zone :
    (after (.settingsWriteDoor .bridge 1 8 ⟨1, 2, 0, 200, 5, 9⟩) deck).settings.doors[(8 : Fin 32)] =
      ⟨.swing, 2, false, 120, 5, 7⟩ ∧
    (after (.settingsWriteZone .bridge 1 2 ⟨0x70, 0, 12⟩)
      (deck.modZone 2 fun z => { z with alarm := true, fire := true })).zones[(2 : Fin 8)].alarm =
      false := by decide

/-- R139, R156, R161, R169. -/
theorem test_settings_write_others :
    (after (.settingsWriteScanner .bridge 1 0 17 0) deck).settings.blanking = 1 ∧
    (after (.settingsWriteRouting .bridge 1 0
      ⟨Vector.replicate 9 1, Vector.replicate 9 1, 0⟩) alarmDeck).alarms.stop = true ∧
    (after (.settingsWriteOutput .bridge 1 7 ⟨5, 0, 1, 0⟩) deck).alarms.lines[(7 : Fin 8)].level = true ∧
    (after (.settingsWriteLink .bridge 1 2 100) deck).settings.supervision.localLink = 500 := by decide

/-- R177: an undefined object is refused; object 5 reads N and B. -/
theorem test_settings_read :
    reply .bridge (after (.settingsRead .bridge 1 12 0) deck) = some (.refused .badField) ∧
    reply .bridge (after (.settingsRead .bridge 1 5 0) deck) =
      some (.done ([5, 0, 4, 2] ++ List.replicate 126 0)) := by decide

/-- 11.7: the store is refused while one is in flight; its completion takes the next revision. -/
theorem test_store :
    let s := after (.storeSettings .bridge 1) { deck with store := { deck.store with revision := 41 } }
    reply .bridge s = some (.accepted []) ∧
    reply .bridge (after (.patternWrite .bridge 2 5 1) s) = some (.refused .busy) ∧
    (after (.storeCompletion none) s).store.revision = 42 ∧
    (after .powerLoss s).store.image.crcGood = false := by decide

/-- R46, R164: a trip whose activation is still on its way leaves no entry behind the rebuilt list. -/
theorem test_reset_of_a_tripped_axis :
    let t := after (.controllerReset .bridge 1)
      { tripped with handed := [.alarmSourceChange (.axisTripHigh 0) true] }
    t.alarms.list = [] ∧ .alarmSourceChange (.axisTripHigh 0) true ∉ t.handed := by decide +kernel

/-- R180, R181, R182. -/
theorem test_reset_counters_clock :
    (after (.controllerReset .bridge 1) (jogging 300)).axes[(2 : Fin 4)].state = .idle ∧
    (after (.readCounters .bridge 1 3 1)
      (deck.countLink .bridge fun k => { k with good := 7 })).counters.links.bridge.good = 0 ∧
    (after (.setClock .bridge 1 512000) deck).clock = 512000 := by decide +kernel

/-- 12.6: the first bytes of IDENTIFY's reply carry the part code; the revision is free. -/
theorem test_identify :
    (match reply .bridge (after (.identify .bridge 1) deck) with
      | some (.done (a :: b :: _ :: rest)) => decide (a = 0xDC ∧ b = 0x40 ∧ rest.length = 7)
      | _ => false) = true := by decide

/-! ## The step -/

/-- The front command is run; with none waiting a notice is taken, and with none of either a millisecond
passes. -/
theorem test_step :
    (match step { deck with pending := [.setClock .bridge 1 5] } with
      | .next t => decide (t.clock = 5 ∧ t.pending = [])
      | _ => false) = true ∧
    (match step { deck with handed := [.evacuatePost 2] } with
      | .next t => decide (t.handed = [] ∧ t.calls.externals = 0 ∧ t.calls.table.length = 1)
      | _ => false) = true ∧
    (match step deck with
      | .next t => decide (t.clock = 12001)
      | _ => false) = true := by decide

/-- R139: with four boards, board 3 in the first slot, board 0 in the fourth, and then blanking. -/
theorem test_boards_driven_in_turn :
    [0, 3, 4].map (fun p => ({ Scanner.powerOn with frame := some ⟨4, 2, p⟩ } : Scanner).driven) =
      [some (3, 0), some (0, 0), none] := by decide

/-! ## Witnesses: states and operands that meet the hypotheses of each statement, clause by clause

Each theorem names its statement. Every state below has the power running where the statement asks it:
`deck_runs`. -/

theorem deck_runs : deck.power = .running ∧ State.reset.power = .loading := by decide

/-- A frame waiting on a link. -/
def waiting (l : Link) (f : Frame) : State := deck.modLink l fun c => { c with waiting := some f }

theorem witness_StepRunsFrontCommandElseOwnAct :
    ({ deck with pending := [.chimeTimerExpiry] }).pending = [.chimeTimerExpiry] ∧
    State.reset.pending = [] ∧ State.reset.power ≠ .running ∧
    ({ deck with handed := [.chimeTimerExpiry] }).handed = [.chimeTimerExpiry] ∧
    (let f : Frame := ⟨0x66, 1, []⟩;
      ((waiting .localLink f).links.get .localLink).waiting = some f ∧
      ((waiting .localLink f).links.get .localLink).slot = none ∧
      ((waiting .localLink f).links.get .bridge).waiting = none ∧
      decodeFrame .localLink f = .request (.identify .localLink 1) ∧
      decodeFrame .localLink ⟨0x66, 1, [0]⟩ = .refuse .badLength ∧
      decodeFrame .localLink ⟨0x60, 1, [9, 0] ++ List.replicate 127 0⟩ = .undefinedObject) ∧
    (deck.modAxis 0 fun x => { x with warning := some 0 }).due = [.warningTimerExpiry 0] ∧
    (deck.modValve 0 fun g => { g with position := 4096 }).due = [.valveFrameStart 0] ∧
    (deck.modValve 0 fun g => { g with position := 4095 }).due = [] ∧ deck.due = [] ∧ deck.handed = [] ∧ deck.pending = [] ∧
    (∀ l : Fin 2, (deck.links.get (if l = 0 then .bridge else .localLink)).waiting = none) := by
  decide +kernel

theorem witness_EveryCommandAnswersNext :
    State.reset.power ≠ .running ∧ Instr.chimeTimerExpiry ≠ .powerOn ∧
    Instr.chimeTimerExpiry ≠ .powerLoss ∧ (after .powerLoss deck).power ≠ .loading := by decide

/-- A request and a refused one: an AXIS MOVE of the link that is not the holder. -/
theorem witness_RequestsAreAnsweredAndRefusalsChangeNothing :
    (Instr.axisMove .localLink 0x27 0 (-1000)).sender = some (.localLink, 0x27) ∧
    ((after (.axisMove .localLink 0x27 0 (-1000)) deck).links.get .localLink).lastReply =
      some ⟨(Instr.axisMove .localLink 0x27 0 (-1000)).kind, 0x27, .refused .noAuthority⟩ ∧
    decodeFrame .localLink ⟨0x10, 0x27, [0, 0xFC, 0x18]⟩ =
      .request (.axisMove .localLink 0x27 0 (-1000)) := by decide

theorem witness_PowerEventsAndStartOfThePart :
    State.reset.power = .loading ∧ State.reset.store.image.crcGood = false ∧
    (State.powerOn ⟨ship, 41, true⟩).store.image.crcGood = true := by decide

/-- A disabled channel; an enabled one VALID with count 0, 1 and 2, INVALID likewise; samples at both
ends of the range and beyond. -/
theorem witness_ChannelCompletionUpdatesRecord :
    State.reset.settings.channels[(0 : Fin 12)].enabled = false ∧
    (let x : ChannelSettings := ⟨true, 16, 4080, 4, 410, 11250, 0⟩;
      x.enabled = true ∧ x.rawMin ≤ 16 ∧ 16 ≤ x.rawMax ∧ x.rawMin ≤ 4080 ∧ 4080 ≤ x.rawMax ∧
      ¬x.rawMin ≤ 15 ∧ ¬4081 ≤ x.rawMax) ∧
    deck.settings.channels[(0 : Fin 12)].enabled = true ∧
    (deck.modChannel 0 fun r => { r with count := 1 }).channels[(0 : Fin 12)].valid = true ∧
    (deck.modChannel 0 fun r => { r with valid := false, count := 2 }).channels[(0 : Fin 12)].count =
      2 := by decide

theorem witness_InputsAndDoorScansAreHandedOn :
    deck.inputs.levels.get .serviceKey = true ∧ deck.inputs.levels.get .estop ≠ true ∧
    deck.inputs.levels.get (.fire 7) ≠ true ∧ deck.inputs.levels.get (.limLo 3) ≠ true ∧
    deck.inputs.levels.get (.limHi 0) ≠ true ∧ deck.inputs.levels.get (.gi 15) ≠ true ∧
    (deck.inputs.last.get (.gi 15) :: [true, false]).IsChain (· ≠ ·) := by decide

theorem witness_StatusRepliesCarryTheirRecords :
    callDeck.calls.table.find? (·.number = 254) =
      some (call 254 .notice 3 (.link .localLink) 0x0100 1 false 0 6) ∧
    callDeck.calls.table.find? (·.number = 255) = none ∧
    ((List.finRange 12).map deck.channelBytes).length = 12 ∧
    248 < 3 + ((List.finRange 32).map deck.doorBytes).flatten.length := by decide +kernel

/-- A field in two's complement, most significant byte first, and one that is not there (12). -/
theorem test_layout_of_fields :
    Laid [5, 0xFF, 0xFE] 3 [(0, 1, 5), (1, 2, -2)] ∧ ¬Laid [5, 0xFF, 0xFE] 3 [(1, 2, 0xFE)] := by
  unfold Laid Carries; decide

theorem witness_BlockRequestsReadTheirBlock :
    deck.settings.axes[(3 : Fin 4)].fitted = true ∧
    (Machine.Settings.objectBytes deck.settings 8 2).isSome = true ∧
    Machine.Settings.objectBytes deck.settings 8 0 = none ∧
    Machine.Settings.objectBytes deck.settings 8 3 = none ∧
    (∀ a : Fin 4, a.val = 0 → State.reset.settings.axes[a].fitted = false) := by decide

/-- Axis 0 at rest at 550, held by the bridge: 570 and 571 lie on either side of in_band 20. -/
theorem witness_AxisMoveStartsFromIdle :
    deck.settings.axes[(0 : Fin 4)].fitted = true ∧ deck.holder 0 = some .bridge ∧
    deck.station.held = false ∧ deck.alarms.stop = false ∧ deck.axes[(0 : Fin 4)].state = .idle ∧
    (deck.angle 0).valid = true ∧ (deck.angle 0).scaled = 550 ∧
    ((570 : Int) - 550).natAbs ≤ deck.settings.axes[(0 : Fin 4)].inBand ∧
    deck.settings.axes[(0 : Fin 4)].inBand < ((571 : Int) - 550).natAbs ∧
    deck.evaluator.slots[slotOf 0 .raise].result = true ∧
    State.reset.evaluator.slots[slotOf 0 .raise].result = false ∧
    idleNotice 0 (.holderChange 0 .passed) = true ∧
    idleNotice 0 (.angleValidityChange 0 true) = false := by decide

theorem witness_AxisMoveChecksAndRetargets :
    (∀ a : Fin 4, a.val = 4 → deck.settings.axes[a].fitted = false) ∧
    deck.holder 0 ≠ some .localLink ∧ deck.holder 0 = some .bridge ∧
    (after (.deckHold .bridge 1) deck).station.held = true ∧
    (after (.alarmSourceChange .estop true) deck).alarms.stop = true ∧
    tripped.axes[(0 : Fin 4)].state = .tripped ∧ (stopping 5).axes[(0 : Fin 4)].state = .stopping ∧
    (deck.modChannel 0 fun r => { r with valid := false }).channels[(0 : Fin 12)].valid = false ∧
    warned.axes[(0 : Fin 4)].direction = some .lower ∧ warned.holder 0 = some .bridge ∧
    warned.station.held = false ∧ warned.alarms.stop = false ∧ (warned.angle 0).valid = true ∧
    warned.evaluator.slots[slotOf 0 .lower].result = true ∧
    ¬(550 : Int) + 20 < 570 ∧ (550 : Int) + 20 < 571 ∧
    (travelling .settling 0).axes[(0 : Fin 4)].state = .settling := by decide

theorem witness_WarningEndsInTravelOrIdle :
    warned.axes[(0 : Fin 4)].state = .warning ∧ warned.axes[(0 : Fin 4)].warning.isSome = true ∧
    warned.axes[(0 : Fin 4)].direction = some .lower ∧
    warned.evaluator.slots[slotOf 0 .lower].result = true ∧
    warned.inputs.levels.limit 0 .lower = false ∧
    (InputLevels.put deck.inputs.levels (.limLo 0) true).limit 0 .lower = true ∧
    (byHand 5 0).axes[(1 : Fin 4)].state = .manual ∧ (byHand 5 0).holder 1 = some .bridge ∧
    (byHand 5 0).settings.axes[(1 : Fin 4)].fitted = true := by decide

/-- In MOVING below and at in_band 20; with c such that the fifth update ends it, and settle count 1. -/
theorem witness_MovingUpdateDrivesOrSettles :
    (travelling .moving (-150)).axes[(0 : Fin 4)].state = .moving ∧
    (travelling .moving (-150)).axes[(0 : Fin 4)].target = some 400 ∧
    (travelling .moving (-150)).axes[(0 : Fin 4)].direction = some .lower ∧
    (travelling .moving (-150)).settings.axes[(0 : Fin 4)].fitted = true ∧
    (travelling .moving (-150)).inputs.levels.limit 0 .lower = false ∧
    ((400 : Int) - 420).natAbs ≤ ship.axes[(0 : Fin 4)].inBand ∧
    ship.axes[(0 : Fin 4)].inBand < ((400 : Int) - 421).natAbs ∧
    slewed (-150) 0 ship.axes[(0 : Fin 4)].slew ship.axes[(0 : Fin 4)].dMax = 0 ∧
    slewed (-151) 0 ship.axes[(0 : Fin 4)].slew ship.axes[(0 : Fin 4)].dMax ≠ 0 ∧
    (let y := { ship.axes[(0 : Fin 4)] with settleCount := 1 }; min 1 y.settleCount = y.settleCount) := by
  decide

theorem witness_SettlingUpdateCountsOrReturns :
    (let s := (travelling .settling (-150)).modAxis 0 fun x => { x with settle := 4 };
      s.axes[(0 : Fin 4)].state = .settling ∧ s.axes[(0 : Fin 4)].target = some 400 ∧
      s.axes[(0 : Fin 4)].direction = some .lower ∧ s.settings.axes[(0 : Fin 4)].fitted = true ∧
      min (s.axes[(0 : Fin 4)].settle + 1) s.settings.axes[(0 : Fin 4)].settleCount =
        s.settings.axes[(0 : Fin 4)].settleCount ∧
      slewed s.axes[(0 : Fin 4)].c 0 s.settings.axes[(0 : Fin 4)].slew
        s.settings.axes[(0 : Fin 4)].dMax = 0 ∧
      s.evaluator.slots[slotOf 0 .lower].result = true ∧ s.axes[(0 : Fin 4)].c ≠ 0) ∧
    (let s := { travelling .settling 0 with evaluator := Evaluator.powerOn };
      s.evaluator.slots[slotOf 0 .lower].result = false ∧ s.axes[(0 : Fin 4)].c = 0) ∧
    slewed (-400) 0 400 2000 = 0 ∧ slewed (-401) 0 400 2000 ≠ 0 ∧
    (let s := { travelling .settling 5 with
        evaluator := Evaluator.powerOn
        inputs := ⟨deck.inputs.levels.put (.limHi 0) true, deck.inputs.last⟩ };
      s.inputs.levels.limit 0 .lower = false ∧ 0 < s.axes[(0 : Fin 4)].c ∧
      s.inputs.levels.limHi[(0 : Fin 4)] = true) := by decide

theorem witness_StoppingComesToRest :
    (stopping (-400)).settings.axes[(0 : Fin 4)].fitted = true ∧
    (stopping (-400)).axes[(0 : Fin 4)].stopOutcome = some .stationTaken ∧
    (stopping (-400)).axes[(0 : Fin 4)].state = .stopping ∧
    slewed (-400) 0 400 2000 = 0 ∧ slewed (-401) 0 400 2000 ≠ 0 ∧
    (let s := { stopping (-1) with inputs := ⟨deck.inputs.levels.put (.limLo 0) true, deck.inputs.last⟩ };
      s.axes[(0 : Fin 4)].c < 0 ∧ s.inputs.levels.limLo[(0 : Fin 4)] = true) ∧
    deck.axes[(0 : Fin 4)].state ≠ .stopping ∧
    (travelling .moving 5).axes[(0 : Fin 4)].state ≠ .stopping := by decide

theorem witness_TravelEndsInStopping :
    (travelling .moving (-150)).settings.axes[(0 : Fin 4)].fitted = true ∧
    (travelling .moving (-150)).axes[(0 : Fin 4)].direction = some .lower ∧
    (travelling .settling 0).axes[(0 : Fin 4)].state.travels = true ∧
    (travelling .settling 0).axes[(0 : Fin 4)].motionTimer.isSome = true ∧
    (jogging 5).axes[(2 : Fin 4)].state = .jogging ∧
    (jogging 5).axes[(2 : Fin 4)].refresh.isSome = true ∧
    (jogging 5).axes[(2 : Fin 4)].state.travels = true ∧
    deck.axes[(0 : Fin 4)].motionTimer = none ∧ deck.axes[(0 : Fin 4)].state = .idle ∧
    (stopping 5).axes[(0 : Fin 4)].state = .stopping := by decide

theorem witness_AxisStopByState :
    deck.settings.axes[(0 : Fin 4)].fitted = true ∧ tripped.axes[(0 : Fin 4)].state = .tripped ∧
    warned.axes[(0 : Fin 4)].state = .warning ∧
    (travelling .moving 5).axes[(0 : Fin 4)].state.travels = true ∧
    (byHand 5 5).axes[(1 : Fin 4)].state = .manual ∧
    (∀ b : Fin 4, b.val = 254 → deck.settings.axes[b].fitted = false) ∧ (254 : Nat) ≠ 0xFF ∧
    State.reset.settings.axes[(0 : Fin 4)].fitted = false := by decide

/-- AXIS STOP naming all axes, none of them fitted, is answered DONE (R30). -/
theorem test_stop_all_of_none :
    (let s := { deck with settings := factorySettings };
      (∀ b : Fin 4, s.settings.axes[b].fitted = false) ∧
      ((after (.axisStop .bridge 1 0xFF) s).links.get .bridge).lastReply =
        some ⟨(Instr.axisStop .bridge 1 0xFF).kind, 1, .done []⟩) := by decide

theorem witness_ChannelValidityActsOnAxis :
    warned.settings.axes[(0 : Fin 4)].fitted = true ∧ warned.axes[(0 : Fin 4)].state = .warning ∧
    (travelling .settling 5).axes[(0 : Fin 4)].state = .settling ∧
    (jogging 5).axes[(2 : Fin 4)].state ≠ .warning ∧ (jogging 5).axes[(2 : Fin 4)].state ≠ .moving ∧
    (jogging 5).axes[(2 : Fin 4)].state ≠ .settling := by decide

theorem witness_LimitSwitchAndStopLineCutTheFrame :
    (travelling .moving 5).settings.axes[(0 : Fin 4)].fitted = true ∧
    (travelling .moving 5).axes[(0 : Fin 4)].direction = some .lower ∧
    (travelling .moving 5).axes[(0 : Fin 4)].direction ≠ some .raise ∧
    (stopping 1).axes[(0 : Fin 4)].stopOutcome = some .stationTaken ∧
    0 < (stopping 1).axes[(0 : Fin 4)].c ∧ (stopping (-1)).axes[(0 : Fin 4)].c < 0 ∧
    ¬0 < (stopping 0).axes[(0 : Fin 4)].c ∧ 0 < (byHand 5 5).axes[(1 : Fin 4)].c ∧
    tripped.axes[(0 : Fin 4)].state = .tripped ∧ (byHand 5 5).axes[(1 : Fin 4)].state ≠ .idle ∧
    (byHand 5 5).axes[(1 : Fin 4)].state ≠ .tripped := by decide

/-- With ref 100 and margins 50 the limits are 50 and 150. -/
theorem witness_PressureTripsAndTripReset :
    (let s := travelling .moving (-150);
      s.settings.axes[(0 : Fin 4)].fitted = true ∧ s.axes[(0 : Fin 4)].state ≠ .tripped ∧
      s.axes[(0 : Fin 4)].c ≠ 0 ∧
      s.settings.axes[(0 : Fin 4)].prt.toList.getD (pressureBand (s.angle 0).scaled (-1500) 600) 0 =
        100 ∧
      s.axes[(0 : Fin 4)].confirm ≠ some .high) ∧
    min (100 + 50) 32767 = 150 ∧ 100 - 50 = 50 ∧
    deck.axes[(0 : Fin 4)].c = 0 ∧ tripped.axes[(0 : Fin 4)].tripKind = some .high ∧
    tripped.holder 0 = some .bridge ∧ tripped.settings.axes[(0 : Fin 4)].fitted = true ∧
    tripped.holder 0 ≠ some .localLink ∧ State.reset.settings.axes[(0 : Fin 4)].fitted = false := by
  decide

theorem witness_AxisJogStartsDrivesAndEnds :
    deck.settings.axes[(2 : Fin 4)].fitted = true ∧ deck.holder 2 = some .localLink ∧
    deck.station.held = false ∧ deck.alarms.stop = false ∧ deck.axes[(2 : Fin 4)].state = .idle ∧
    (jogging 5).axes[(2 : Fin 4)].direction = some .raise ∧
    (jogging 5).axes[(2 : Fin 4)].direction ≠ some .lower ∧
    deck.inputs.levels.limit 2 .raise = false ∧ (deck.angle 2).scaled < deck.settings.axes[(2 : Fin 4)].lHi ∧
    deck.evaluator.slots[slotOf 2 .raise].result = true ∧
    (deck.modChannel 2 fun r => { r with scaled := 600 }).settings.axes[(2 : Fin 4)].lHi ≤ 600 ∧
    (jogging 0).axes[(2 : Fin 4)].c = 0 ∧ (jogging 5).axes[(2 : Fin 4)].c ≠ 0 ∧
    slewed 400 0 400 2000 = 0 ∧ slewed 401 0 400 2000 ≠ 0 ∧
    (let s := { jogging (-5) with
        inputs := ⟨deck.inputs.levels.put (.limLo 2) true, deck.inputs.last⟩ };
      s.inputs.levels.limit 2 .raise = false ∧ s.axes[(2 : Fin 4)].c < 0 ∧
      s.inputs.levels.limLo[(2 : Fin 4)] = true) := by decide

theorem witness_ManualSessionDrivesByHand :
    deck.settings.axes[(1 : Fin 4)].fitted = true ∧ deck.station.level.get .localLink = .operate ∧
    deck.station.level.get .bridge = .service ∧ deck.holder 1 = some .bridge ∧
    deck.holder 2 ≠ some .bridge ∧ deck.axes[(1 : Fin 4)].state = .idle ∧
    (byHand 5 5).axes[(1 : Fin 4)].state = .manual ∧
    (byHand 5 5).axes[(1 : Fin 4)].refresh.isSome = true ∧
    (InputLevels.put deck.inputs.levels (.limHi 1) true).limHi[(1 : Fin 4)] = true ∧
    0 < (byHand 5 5).axes[(1 : Fin 4)].staged ∧
    tripped.axes[(0 : Fin 4)].state = .tripped ∧ warned.axes[(0 : Fin 4)].state = .warning := by decide

/-- The same direction; the other with zero in force, by m 0 and by a cut; the other without. -/
theorem witness_ValveFramesApplyAndSumTheCommand :
    (let g : Generator := ⟨150, 300, some .raise, false, 0⟩; 0 < g.command ∧ some .raise = g.lines) ∧
    (let g : Generator := ⟨150, 0, some .lower, false, 0⟩; some .raise ≠ g.lines ∧ g.applied = 0) ∧
    (let g : Generator := ⟨0, 300, some .lower, true, 0⟩; none ≠ g.lines ∧ g.cut = true) ∧
    (let g : Generator := ⟨-150, 300, some .raise, false, 0⟩;
      some .lower ≠ g.lines ∧ g.applied ≠ 0 ∧ g.cut = false) := by decide

/-- Both ends of the ranges: a step at the slew limit and beyond; the first and last band. -/
theorem witness_DriveArithmeticStaysInBounds :
    ((1950 : Int) ≤ 2000 ∧ (2000 : Int) - 1850 ≤ 150 ∧ (150 : Int) < 2001 - 1850) ∧
    ((0 : Int) < 1 ∧ (299 : Int) < 300 ∧ (300 : Nat) ≤ 2000) ∧
    (-200 + 40 * ((0 : Nat) : Int) ≤ -200 ∧ (-161 : Int) < -200 + 40 * ((0 : Nat) + 1)) ∧
    (-200 + 40 * ((31 : Nat) : Int) ≤ 1040 ∧ (31 : Nat) = 31) ∧
    (-200 + 80 * ((15 : Nat) : Int) ≤ 1000 ∧ (-201 : Int) < -200) ∧
    ((15 : Nat) : Int) * (9000 - 0 + 1) ≤ ((9000 : Int) - 0) * 16 := by decide

theorem witness_AuthorityIsTakenAndRequestsAnswered :
    deck.settings.axes[(3 : Fin 4)].fitted = true ∧ deck.holder 3 = none ∧ deck.holder 0 = some .bridge ∧
    (let s := { deck with inputs := ⟨deck.inputs.levels.put .localPriority true, deck.inputs.last⟩ };
      s.inputs.levels.localPriority = true ∧ s.station.auth[(0 : Fin 4)].holder = some .bridge) ∧
    deck.station.auth[(0 : Fin 4)].request = none ∧ deck.axes[(0 : Fin 4)].state = .idle ∧
    (travelling .moving 5).axes[(0 : Fin 4)].state ≠ .idle ∧
    (let s := after (.takeStation .localLink 1 0) deck;
      s.station.auth[(0 : Fin 4)] = ⟨some .bridge, some ⟨.localLink, 12000, 30000⟩⟩) ∧
    (∀ b : Fin 4, b.val = 4 → deck.settings.axes[b].fitted = false) := by decide

theorem witness_DeckHoldIsClaimedEstablishedAndResumed :
    deck.station.claims = ⟨false, false⟩ ∧ (∀ a : Fin 4, deck.station.active[a] = false) ∧
    (let s := { deck with station := { deck.station with active := deck.station.active.set 3 true } };
      (∃ a : Fin 4, s.station.active[a] = true) ∧
      (∀ b : Fin 4, (s.station.active.set (3 : Fin 4) false)[b] = false)) ∧
    (let c : Pair Bool := ⟨true, false⟩;
      c.get .bridge = true ∧ c.get .localLink = false ∧ c.get Link.localLink.other = true ∧
      c.set .bridge false = ⟨false, false⟩ ∧ c.set .bridge false ≠ c ∧ c.set .localLink false = c) ∧
    (let c : Pair Bool := ⟨true, true⟩;
      c.set .bridge false ≠ c ∧ c.set .bridge false ≠ ⟨false, false⟩) ∧
    (let s := after (.axisMove .bridge 1 0 100) deck;
      s.station.claims = ⟨false, false⟩ ∧ .axisStateChangeSeen 0 .warning ∈ s.handed) := by decide

theorem witness_ServiceLevelRisesAndFalls :
    deck.station.level.get .bridge = .service ∧ deck.station.level.get .localLink ≠ .service ∧
    (let s := { deck with station := { deck.station with level := ⟨.operate, .operate⟩ } };
      s.inputs.levels.serviceKey = true ∧ s.station.level.get .bridge ≠ .service ∧
      s.station.level.get Link.bridge.other ≠ .service) ∧
    State.reset.inputs.levels.serviceKey = false := by decide

theorem witness_UnfittedIsRefusedAndDoesNotAct :
    (∀ a : Fin 4, a.val = 4 → deck.settings.axes[a].fitted = false) ∧
    (∀ d : Fin 32, d.val = 31 → deck.settings.doors[d].kind = .absent) ∧
    (∀ d : Fin 32, d.val = 32 → deck.settings.doors[d].kind = .absent) ∧
    (let s := { deck with settings := factorySettings };
      s.power = .running ∧ s.settings.axes[(3 : Fin 4)].fitted = false) := by decide

theorem witness_DoorHoldAndRelease :
    deck.settings.doors[(8 : Fin 32)].kind ≠ .absent ∧ deck.settings.doors[(9 : Fin 32)].kind = .sliding ∧
    deck.doors[(8 : Fin 32)].state = .closed ∧ deck.zones[(2 : Fin 8)].alarm = false ∧
    (deck.modZone 2 fun z => { z with alarm := true }).zones[deck.settings.doors[(8 : Fin 32)].zone].alarm =
      true ∧
    (doorIn 8 .fault).doors[(8 : Fin 32)].state = .fault ∧
    (let s := (doorIn 8 .armed).modDoor 8 fun r => { r with seen := ⟨false, true, false⟩ };
      s.doors[(8 : Fin 32)].state = .armed ∧ s.doors[(8 : Fin 32)].seen.closedSwitch = true) ∧
    (doorIn 8 .armed).doors[(8 : Fin 32)].seen.closedSwitch = false ∧
    (let s := (doorIn 9 .openHeld).modDoor 9 fun r => { r with seen := ⟨true, false, true⟩ };
      s.doors[(9 : Fin 32)].state = .openHeld ∧ s.doors[(9 : Fin 32)].seen.edge = true) := by decide

theorem witness_ZoneHoldAndRelease :
    deck.zones[(2 : Fin 8)].alarm = false ∧
    (deck.modZone 2 fun z => { z with alarm := true }).zones[(2 : Fin 8)].alarm = true ∧
    deck.settings.doors[(12 : Fin 32)].kind ≠ .absent ∧ deck.settings.doors[(12 : Fin 32)].zone = 2 ∧
    deck.settings.doors[(13 : Fin 32)].kind = .absent ∧
    (doorIn 12 .openHeld).doors[(12 : Fin 32)].state.heldOpen = true ∧
    deck.doors[(12 : Fin 32)].state.heldOpen = false := by decide

theorem witness_DoorInputsMoveTheDoor :
    deck.settings.doors[(8 : Fin 32)].kind ≠ .absent ∧ deck.settings.doors[(0 : Fin 32)].kind = .absent ∧
    (doorIn 8 .isolated).doors[(8 : Fin 32)].state = .isolated ∧
    (deck.modDoor 8 fun r => { r with seen := ⟨false, true, false⟩ }).doors[(8 : Fin 32)].seen.closedSwitch =
      true ∧
    (doorIn 8 .openHeld).doors[(8 : Fin 32)].state = .openHeld ∧
    (doorIn 9 .opening).doors[(9 : Fin 32)].state = .opening ∧
    (doorIn 12 .closing).doors[(12 : Fin 32)].state = .closing ∧
    deck.settings.doors[(12 : Fin 32)].kind = .sliding ∧
    (doorIn 12 .closing).doors[(12 : Fin 32)].seen.edge = false ∧
    (doorIn 12 .obstructed).doors[(12 : Fin 32)].state = .obstructed ∧
    (doorIn 12 .fault).doors[(12 : Fin 32)].state = .fault := by decide

/-- The pause runs out at retry 2 below, and at retry 3 at, the 3 retries set. -/
theorem witness_DoorTimersFaultOrRetry :
    (doorIn 12 .closing).doors[(12 : Fin 32)].travel.isSome = true ∧
    (doorIn 9 .opening).doors[(9 : Fin 32)].travel.isSome = true ∧
    (doorIn 12 .obstructed).doors[(12 : Fin 32)].pause.isSome = true ∧
    2 < deck.settings.doors[(12 : Fin 32)].maxRetries ∧
    deck.settings.doors[(12 : Fin 32)].maxRetries ≤ 3 ∧
    deck.settings.doors[(12 : Fin 32)].maxRetries ≤ 4 ∧
    deck.settings.doors[(12 : Fin 32)].kind = .sliding ∧
    (let s := deck.modDoor 8 fun r => { r with conflict := some 0 };
      s.doors[(8 : Fin 32)].conflict.isSome = true ∧ s.doors[(8 : Fin 32)].state ≠ .fault ∧
      s.doors[(8 : Fin 32)].state ≠ .isolated) ∧
    (let s := (doorIn 8 .fault).modDoor 8 fun r => { r with conflict := some 0 };
      s.doors[(8 : Fin 32)].conflict.isSome = true ∧ s.doors[(8 : Fin 32)].state = .fault) ∧
    deck.doors[(8 : Fin 32)].travel = none ∧ deck.doors[(8 : Fin 32)].pause = none ∧
    deck.doors[(8 : Fin 32)].conflict = none := by decide

theorem witness_DoorIsolateAndRestore :
    deck.settings.doors[(9 : Fin 32)].kind = .sliding ∧ deck.station.level.get .bridge = .service ∧
    deck.station.level.get .localLink = .operate ∧ deck.doors[(9 : Fin 32)].state ≠ .isolated ∧
    (doorIn 9 .isolated).doors[(9 : Fin 32)].state = .isolated ∧
    (doorIn 9 .isolated).chain.levels[(9 : Fin 32)].closedSwitch = false ∧
    (let s := { doorIn 9 .isolated with chain := { deck.chain with
        levels := deck.chain.levels.set 9 ⟨false, false, true⟩ } };
      s.chain.levels[(9 : Fin 32)].closedSwitch = false ∧ s.chain.levels[(9 : Fin 32)].edge = true) ∧
    (let s := { doorIn 9 .isolated with chain := { deck.chain with
        levels := deck.chain.levels.set 9 ⟨true, true, false⟩ } };
      s.chain.levels[(9 : Fin 32)].closedSwitch = true) := by decide

/-- A zone that enters ALARM, one that leaves it, one that stays. -/
theorem witness_ZoneAlarmEntersAndLeaves :
    (deck.settings.zones[(2 : Fin 8)].fireEnabled && true) = true ∧ deck.zones[(2 : Fin 8)].alarm = false ∧
    (deck.modZone 2 fun z => { z with alarm := true, manual := true }).zones[(2 : Fin 8)].alarm = true ∧
    (8 ≤ 8 ∨ 2 ≤ 0) ∧ (8 ≤ 7 ∨ 2 ≤ 2) := by decide

/-- A term on the source whose value changes, in the list of slot 9. -/
theorem witness_SourceChangeReevaluates :
    (let s := { deck with settings := { ship with
        terms := ship.terms.set 12 ⟨some (.channel 10), .ge, 800⟩ } };
      s.settings.terms[(12 : Fin 64)].source = some (.channel 10) ∧
      s.evaluator.values[(12 : Fin 64)] = false ∧ compares .ge 800 800 = true ∧
      s.settings.permissives[(9 : Fin 16)] = [⟨12, false⟩]) := by decide

theorem witness_TableWritesCheckThenEvaluate :
    deck.station.level.get .localLink = .operate ∧ deck.station.level.get .bridge = .service ∧
    deck.store.inFlight.isSome = false ∧
    (after (.storeSettings .bridge 1) deck).store.inFlight.isSome = true ∧
    Comparison.ofCode 5 = some .bitClr ∧ Comparison.ofCode 6 = none ∧
    Source.ofCode 10 0 = some .deckHold ∧ Source.ofCode 2 3 = some (.axisState 3) ∧
    Source.ofCode 1 12 = none ∧ Source.ofCode 11 0 = none ∧
    deck.settings.axes[(3 : Fin 4)].fitted = true ∧ deck.settings.doors[(0 : Fin 32)].kind = .absent ∧
    looped ship = false ∧
    looped { ship with
      terms := ship.terms.set 12 ⟨some (.outputLine 3), .eq, 1⟩
      outputs := ship.outputs.set 3 ⟨.permissive 9, false, false⟩ } = true ∧
    (∃ e ∈ ship.permissives[(9 : Fin 16)], e.term = 12) ∧
    (warned.axes[(0 : Fin 4)].state ≠ .idle ∧ warned.axes[(0 : Fin 4)].state ≠ .stopping ∧
      warned.axes[(0 : Fin 4)].state ≠ .tripped) := by decide +kernel

/-- Every check of CALL POST that fails, and a post that passes them with 7 external calls. -/
theorem witness_PostsAdmitCalls :
    CallKind.ofCode 5 = none ∧ CallKind.ofCode 2 = some .recall ∧ CallKind.ofCode 1 = some .standClear ∧
    CallKind.ofCode 0 = some .evacuate ∧ callDeck.calls.externals < 8 ∧
    (let s := deck.modZone 2 fun z => { z with alarm := true };
      ∃ z : Fin 8, s.zones[z].alarm = true ∧ s.settings.zones[z].lanes &&& 0x0040 ≠ 0) ∧
    8 ≤ ({ deck with calls := { CallTable.powerOn with
      table := List.replicate 8 (call 1 .notice 3 (.link .bridge) 1 0 false 0 0) } }).calls.externals ∧
    (∃ d ∈ boardDeck.calls.table, d.origin = .axis 0) ∧
    (∀ d ∈ boardDeck.calls.table, d.origin ≠ .axis 1) ∧
    (∃ d ∈ callDeck.calls.table, d.origin = .zone 3) ∧
    (∀ d ∈ callDeck.calls.table, d.origin ≠ .zone 2) ∧
    callDeck.calls.table.length < 255 ∧ 1 ≤ callDeck.calls.number ∧ callDeck.calls.number ≤ 255 := by
  decide

theorem witness_CallsAreRemovedTrimmedAndAnswered :
    callDeck.calls.table.find? (fun c => decide (c.number = 99)) = none ∧
    (callDeck.calls.table.find? (fun c => decide (c.number = 1))).map (·.kind) = some .evacuate ∧
    (callDeck.calls.table.find? (fun c => decide (c.number = 42))).map (·.kind) = some .notice ∧
    (boardDeck.calls.table.find? (fun c => decide (c.number = 3))).map (·.kind) = some .standClear ∧
    deck.calls.chimeTimer = none ∧
    (after (.evacuatePost 2) deck).calls.chimeTimer ≠ none ∧
    (answerDeck.calls.table.map fun c => decide (c.kind = .recall ∧
      c.lanes &&& answerDeck.settings.zones[(1 : Fin 8)].lanes ≠ 0)) = [false, true, false] ∧
    (answerDeck.calls.table.map fun c => c.ack && c.lanes.getLsbD 3 && !c.acked.getLsbD 3) =
      [true, false, false] := by decide

theorem witness_FramesLoadTheWinners :
    boardDeck.settings.boards = 4 ∧ State.reset.settings.boards = 0 ∧
    (winnerOf boardDeck.calls.table 0).map (·.number) = some 3 ∧
    winnerOf boardDeck.calls.table 4 = none := by decide

theorem witness_ButtonsAndPatterns :
    scanning.scanner.frame = some ⟨4, 2, 0⟩ ∧ (3 : Nat) < 4 ∧
    scanning.scanner.buttons[(3 : Fin 16)].pressed ≠ true ∧ State.reset.scanner.frame = none ∧
    deck.station.level.get .bridge = .service ∧ deck.station.level.get .localLink = .operate ∧
    deck.store.inFlight = none ∧
    (after (.storeSettings .bridge 1) deck).store.inFlight.isSome = true := by decide

/-- An entry in each state, and an absent one. -/
theorem witness_AlarmEntriesFollowTheirSources :
    alarmDeck.alarms.flags[CondSource.estop.code] = false ∧
    alarmDeck.alarms.list.find? (fun e => e.source = CondSource.estop.code) = none ∧
    alarmDeck.alarms.flags[(CondSource.doorFault 12).code] = true ∧
    alarmDeck.alarms.list.find? (fun e => e.source = (CondSource.doorFault 12).code) =
      some ⟨36, .activeAcked, 100, 200, 1⟩ ∧
    (let s := after (.alarmSourceChange .estop true) alarmDeck;
      s.alarms.flags[CondSource.estop.code] = true ∧
      (s.alarms.list.find? (fun e => e.source = CondSource.estop.code)).map (·.state) =
        some .activeUnacked ∧
      (let t := after (.alarmSourceChange .estop false) s;
        t.alarms.flags[CondSource.estop.code] = false ∧
        (t.alarms.list.find? (fun e => e.source = CondSource.estop.code)).map (·.state) =
          some .returnedUnacked)) ∧
    alarmDeck.alarms.list.find? (fun e => e.source = (MomentarySource.axisTimeout 3).code) = none ∧
    (let t := after (.momentaryRaise (.axisTimeout 3)) alarmDeck;
      t.alarms.list.find? (fun e => e.source = (MomentarySource.axisTimeout 3).code) =
        some ⟨15, .returnedUnacked, 12000, 12000, 1⟩) ∧
    (let e : AlarmEntry := ⟨15, .returnedUnacked, 100, 12000, 255⟩;
      let s := { alarmDeck with alarms := { alarmDeck.alarms with list := [e] } };
      s.alarms.list.find? (fun e => e.source = (MomentarySource.axisTimeout 3).code) = some e ∧
      { e with last := s.clock, occurrences := min (e.occurrences + 1) 255 } = e) := by decide

theorem witness_AlarmAckAcknowledges :
    (alarmDeck.alarms.list.map (·.source)).Nodup ∧ (∃ e ∈ alarmDeck.alarms.list, e.source = 36) ∧
    (∀ e ∈ alarmDeck.alarms.list, e.source ≠ 59) ∧ (60 ≤ 60 ∧ 60 ≠ 255) ∧
    (60 ≤ 254 ∧ 254 ≠ 255) := by decide

theorem witness_OutputLinesFollow :
    alarmDeck.settings.outputs[(3 : Fin 8)].source ≠ .fixed ∧
    deck.settings.outputs[(7 : Fin 8)].source = .fixed ∧ (7 < 8 ∨ 1 < 1) ∧ (7 < 7 ∨ 1 < 2) := by decide

/-- Each receiver state; LENGTH at 1, 2, 250 and 251; the last byte of a frame. -/
theorem witness_ReceiverAssemblesAndJudgesFrames :
    (deck.links.get .bridge).receiver = .hunt ∧
    (let s := after (.byteReceived .bridge 0xC3) deck;
      (s.links.get .bridge).receiver = .length ∧
      (let t := after (.byteReceived .bridge 2) s;
        (t.links.get .bridge).receiver = .body ∧ (t.links.get .bridge).assembly = some [2] ∧
        ([2] : List Byte).length + 1 < (([2] : List Byte).headD 0).toNat + 3)) ∧
    (2 ≤ (2 : Byte).toNat ∧ (250 : Byte).toNat ≤ 250 ∧ (1 : Byte).toNat < 2 ∧ 250 < (251 : Byte).toNat) ∧
    (let s := deck.modLink .bridge fun c =>
        { c with receiver := .body, assembly := some [2, 0x27, 1, 0x55] };
      (s.links.get .bridge).assembly = some ((2 : Byte) :: 0x27 :: 1 :: ([] ++ [0x55])) ∧
      (2 : Byte).toNat = ([] : List Byte).length + 2) ∧
    (let s := { deck with handed := [.stationLinkLoss .bridge] };
      .stationLinkLoss .bridge ∈ s.handed ∧ s.holder 0 = some .bridge) := by decide

theorem witness_LinkEventsAndRequests :
    (linked.links.get .bridge).timer ≠ none ∧ (linked.links.get .bridge).state = .up ∧
    (deck.links.get .bridge).timer = none ∧ (∃ n : Fin 7, 1 < (Vector.replicate 7 2)[n]) ∧
    (∀ n : Fin 7, (Vector.replicate 7 1)[n] ≤ 1) := by decide

/-- A queue of 31 and one of 32; a selected class and one that is not. -/
theorem witness_QueueAndTransmitterChoose :
    (let r : Report := ⟨0, .laneButton 0 true⟩;
      let c := { LinkController.powerOn .localLink with state := .up, queue := List.replicate 32 r };
      c.selection[r.body.cls.code] = false ∧
      c.selection[(ReportBody.tripLineChanged true true).cls.code] = true ∧ 32 ≤ c.queue.length ∧
      (List.replicate 31 r).length < 32 ∧ c.line = none ∧ c.slot = none ∧ c.waiting = none ∧
      c.queue = r :: List.replicate 31 r) ∧
    (LinkController.powerOn .bridge).state ≠ .up := by decide

theorem witness_AxisAndChannelWrites :
    axisData.taken.isSome = true ∧ (AxisData.taken { axisData with fitted := 2 }).isSome = false ∧
    warned.axes[(0 : Fin 4)].state ≠ .idle ∧ tripped.axes[(0 : Fin 4)].state = .tripped ∧
    tripped.settings.axes[(0 : Fin 4)].fitted = true ∧
    (AxisData.taken { axisData with fitted := 0 }).map (·.fitted) = some false ∧
    tripped.axes[(0 : Fin 4)].tripKind = some .high ∧ channelData.taken.isSome = true ∧
    warned.settings.axes[(0 : Fin 4)].angleCh = 0 ∧ warned.settings.axes[(3 : Fin 4)].pressCh = 7 ∧
    (axisData.taken.map fun x => (x.fitted, x.angleCh, x.pressCh)) =
      some (let x := deck.settings.axes[(0 : Fin 4)]; (x.fitted, x.angleCh, x.pressCh)) ∧
    deck.station.level.get .bridge = .service ∧ deck.store.inFlight = none ∧ (0 : Nat) ≤ 11 := by decide

theorem witness_DoorAndZoneWrites :
    (⟨1, 7, 0, 20, 5, 3⟩ : DoorData).taken.map (·.kind) = some .swing ∧
    (⟨0, 7, 0, 20, 5, 3⟩ : DoorData).taken.map (·.kind) = some .absent ∧
    (⟨3, 7, 0, 20, 5, 3⟩ : DoorData).taken.isSome = false ∧
    deck.settings.doors[(8 : Fin 32)].kind = .swing ∧ deck.settings.doors[(0 : Fin 32)].kind = .absent ∧
    deck.doors[(8 : Fin 32)].state = .closed ∧ (doorIn 8 .armed).doors[(8 : Fin 32)].state ≠ .closed ∧
    deck.chain.levels[(0 : Fin 32)].closedSwitch = false ∧
    (⟨2, 7, 0, 20, 5, 3⟩ : DoorData).taken.map (·.kind) = some .sliding ∧
    (deck.chain.levels.set 0 ⟨false, false, true⟩)[(0 : Fin 32)].edge = true ∧
    (⟨0x70, 0, 63⟩ : ZoneData).taken.map (·.fireEnabled) = some false ∧
    deck.settings.zones[(2 : Fin 8)].fireEnabled = true ∧ deck.settings.zones[(2 : Fin 8)].lanes = 0x70 ∧
    (deck.modZone 2 fun z => { z with alarm := true }).zones[(2 : Fin 8)].alarm = true := by decide

theorem witness_ScannerRoutingOutputAndLinkWrites :
    deck.scanner.frame = none ∧ 1 ≤ min 1 16 ∧ State.reset.settings.boards = 0 ∧
    .boardFrameStart ∉ deck.handed ∧
    (deck.outputTaken ⟨0, 0, 0, 1⟩).map (fun x => (x.source, x.invert)) =
      some (deck.settings.outputs[(7 : Fin 8)].source, deck.settings.outputs[(7 : Fin 8)].invert) ∧
    (⟨Vector.replicate 9 1, Vector.replicate 9 0, 1⟩ : RoutingData).taken.isSome = true ∧
    (deck.outputTaken ⟨2, 15, 0, 1⟩).map (·.source) = some (.permissive 15) ∧
    (deck.outputTaken ⟨2, 16, 0, 1⟩).isSome = false ∧
    (deck.outputTaken ⟨0, 0, 0, 1⟩).map (·.source) = some .fixed ∧
    looped { ship with outputs := ship.outputs.set 7 ⟨.permissive 15, false, true⟩ } = false ∧
    Link.localLink.code = 2 ∧ deck.station.level.get .bridge = .service ∧
    deck.store.inFlight = none := by decide +kernel

/-- R18 at its edges: L_hi not above L_lo, at 8999 and at 9000. -/
theorem witness_SettingsAreTakenClamped :
    (AxisData.taken { axisData with lLo := 8999, lHi := 8999 }).map (fun x => (x.lLo, x.lHi)) =
      some (8999, 9000) ∧
    (AxisData.taken { axisData with lLo := 9000, lHi := 9000 }).map (fun x => (x.lLo, x.lHi)) =
      some (8999, 9000) ∧
    (AxisData.taken { axisData with lLo := -9000, lHi := -9000 }).map (fun x => (x.lLo, x.lHi)) =
      some (-9000, -8999) ∧
    (ChannelData.taken { channelData with depth := 7, rawMin := 5000, rawMax := 0 }).map
      (fun x => (x.depth, x.rawMin, x.rawMax)) = some (4, 4095, 4095) ∧
    (⟨2, 7, 1, 0, 0, 255⟩ : DoorData).taken = some ⟨.sliding, 7, true, 5, 1, 7⟩ ∧
    OutSource.ofCode 3 0 = some (.axisActive 0) ∧ OutSource.ofCode 3 4 = none ∧
    OutSource.ofCode 6 0 = none := by decide

theorem witness_StoreCountersClockAndIdentity :
    deck.station.level.get .bridge = .service ∧ deck.station.level.get .localLink = .operate ∧
    deck.store.inFlight = none ∧ deck.store.revision ≤ 65535 ∧
    (let s := after (.storeSettings .bridge 1) { deck with store := { deck.store with revision := 65535 } };
      s.store.inFlight.map (·.revision) = some 0) := by decide

theorem witness_ControllerResetRestores :
    deck.station.level.get .bridge = .service ∧ deck.store.inFlight = none ∧
    deck.store.image.crcGood = false ∧
    (deck.modZone 2 fun z => { z with alarm := true, manual := true }).zones[(2 : Fin 8)].manual = true ∧
    (∃ n ∈ [Instr.momentaryRaise (.axisTimeout 3)], overtaken n = false) ∧
    (∃ n ∈ [Instr.holderChange 0 .passed], overtaken n = true) ∧
    tripped.axes[(0 : Fin 4)].state ≠ .idle ∧
    (after (.storeSettings .bridge 1) deck).store.inFlight.isSome = true := by decide

/-! ### The laws: each holds after reset, of the running deck, and a step of it answers a state -/

theorem witness_steps : (match step deck with
    | .next t => decide (t.uptime = 1)
    | _ => false) = true := by decide

theorem witness_StepKeepsAxisLaws : deck.ValveLaw ∧ (travelling .moving (-150)).AxisLaw := by
  constructor
  · intro a
    revert a
    decide
  · intro a
    revert a
    decide

/-- Axis 1 asked for by the pendant; axis 0 in WARNING. -/
theorem witness_StepKeepsStationAndMotionLaws :
    (after (.takeStation .localLink 1 1) deck).StationLaw ∧ warned.MotionLaw := by
  refine ⟨⟨?_, by decide, ?_, by decide⟩, ?_⟩
  · have h : ∀ a : Fin 4, (after (.takeStation .localLink 1 1) deck).station.auth[a].request = none ∨
        (after (.takeStation .localLink 1 1) deck).station.auth[a].request =
          some ⟨.localLink, 12000, 30000⟩ ∧
        (after (.takeStation .localLink 1 1) deck).holder a = some .bridge := by decide
    intro a r hr
    obtain h | ⟨h, k⟩ := h a
    · rw [h] at hr
      cases hr
    · rw [h] at hr
      cases hr
      exact k
  · intro l _
    exact .inl (by decide)
  · intro a h
    obtain rfl : a = 0 := by
      revert h a
      decide
    exact ⟨by decide, by decide, fun _ _ => .inl ⟨.bridge, by decide, by decide⟩⟩

theorem witness_StepKeepsAlarmLaw : deck.AlarmLaw := by
  refine ⟨by decide, ?_, ?_, by decide, by decide⟩
  · decide
  · decide

theorem witness_StepKeepsAlarmZoneLaws : deck.FireDoorLaw ∧ deck.RecallLaw := by
  constructor
  · intro d
    revert d
    decide
  · intro c h
    cases h

theorem witness_StepKeepsCallLaw : callDeck.CallLaw := by
  refine ⟨by decide, by decide, by decide, by decide, by decide, by decide⟩

theorem witness_StepKeepsLinkLaw : linked.LinkLaw := by
  intro l
  cases l <;> decide

end Sys2Proof.Tests
end

section
/-! SUPPORT. The arithmetic of valve drive (03): the bands of the temperature and of the travel, the
demand magnitude and the slew, and the obligation on them. -/

open Sys2Proof Sys2Proof.Machine

namespace Sys2Proof.Proofs

/-! ### Bands

A temperature band and a pressure band are both `min (x / width) top` of an offset `x` from the low end,
0 below it; the value and the monotony of a band follow from that one form. -/

/-- The band `n` holds the offsets from `width * n` up to the next band; the last one has no upper end. -/
theorem min_div_eq_of_mem_band {x width n top : ℕ} (hw : 0 < width) (hn : n ≤ top)
    (lower : width * n ≤ x) (upper : x < width * (n + 1) ∨ n = top) : min (x / width) top = n := by
  have reached : n ≤ x / width := (Nat.le_div_iff_mul_le hw).2 (by rwa [Nat.mul_comm])
  obtain below | last := upper
  · have notPassed : x / width < n + 1 := Nat.div_lt_of_lt_mul below
    omega
  · omega

/-- Below −200 the offset is 0, so the low limit needs no case of its own. -/
theorem tempBand_eq_min_div (t : ℤ) (width top : ℕ) :
    tempBand t width top = min ((t + 200).toNat / width) top := by
  unfold tempBand
  split
  next below =>
    have offset : (t + 200).toNat = 0 := by omega
    simp [offset]
  next => rfl

theorem tempBand_of_lt {t : ℤ} (h : t < -200) (width top : ℕ) : tempBand t width top = 0 :=
  if_pos h

theorem tempBand_eq_of_mem_band {t : ℤ} {width n top : ℕ} (hw : 0 < width) (hn : n ≤ top)
    (lower : -200 + (width : ℤ) * n ≤ t) (upper : t < -200 + (width : ℤ) * (n + 1) ∨ n = top) :
    tempBand t width top = n := by
  have start : 0 ≤ (width : ℤ) * n := by positivity
  have offset : ((t + 200).toNat : ℤ) = t + 200 := Int.toNat_of_nonneg (by omega)
  rw [tempBand_eq_min_div]
  apply min_div_eq_of_mem_band hw hn
  · zify
    omega
  · refine upper.imp_left fun below => ?_
    zify
    omega

theorem tempBand_mono {t u : ℤ} (h : t ≤ u) (width top : ℕ) :
    tempBand t width top ≤ tempBand u width top := by
  simp only [tempBand_eq_min_div]
  exact min_le_min_right _ (Nat.div_le_div_right (by omega))

@[simp] theorem tableIndex_single (t : ℤ) (r : Bool) : tableIndex .single t r = tempBand t 40 31 := rfl

@[simp] theorem tableIndex_split_lower (t : ℤ) : tableIndex .split t false = tempBand t 80 15 := rfl

@[simp] theorem tableIndex_split_raise (t : ℤ) :
    tableIndex .split t true = tempBand t 80 15 + 16 := rfl

theorem tableIndex_mono (m : TableMode) {t u : ℤ} (r : Bool) (h : t ≤ u) :
    tableIndex m t r ≤ tableIndex m u r := by
  match m, r with
  | .single, _ => exact tempBand_mono h 40 31
  | .split, false => exact tempBand_mono h 80 15
  | .split, true => exact Nat.add_le_add_right (tempBand_mono h 80 15) 16

/-- Below the low end of the travel the quotient, truncated toward zero, is not positive and is limited
to 0; there the offset is 0 as well. -/
theorem pressureBand_eq_min_div (angle : ℤ) {lo hi : ℤ} (h : lo < hi) :
    pressureBand angle lo hi = min ((angle - lo).toNat * 16 / (hi - lo + 1).toNat) 15 := by
  unfold pressureBand
  congr 1
  obtain ⟨travel, htravel⟩ := Int.eq_ofNat_of_zero_le (a := hi - lo + 1) (by omega)
  rw [htravel]
  obtain above | below := le_total lo angle
  · obtain ⟨offset, hoffset⟩ := Int.eq_ofNat_of_zero_le (sub_nonneg.2 above)
    rw [hoffset]
    rfl
  · have offset : (angle - lo).toNat = 0 := by omega
    have negated : 0 ≤ (-((angle - lo) * 16)).tdiv travel := Int.tdiv_nonneg (by omega) (by omega)
    rw [Int.neg_tdiv, Int.neg_nonneg] at negated
    rw [offset, Int.toNat_of_nonpos negated]
    simp

theorem pressureBand_of_le {angle lo hi : ℤ} (h : lo < hi) (below : angle ≤ lo) :
    pressureBand angle lo hi = 0 := by
  have offset : (angle - lo).toNat = 0 := by omega
  simp [pressureBand_eq_min_div angle h, offset]

theorem pressureBand_eq_of_mem_band {angle lo hi : ℤ} {n : ℕ} (h : lo < hi) (hn : n ≤ 15)
    (above : lo ≤ angle) (lower : (n : ℤ) * (hi - lo + 1) ≤ (angle - lo) * 16)
    (upper : (angle - lo) * 16 < ((n : ℤ) + 1) * (hi - lo + 1) ∨ n = 15) :
    pressureBand angle lo hi = n := by
  have travel : ((hi - lo + 1).toNat : ℤ) = hi - lo + 1 := Int.toNat_of_nonneg (by omega)
  have offset : ((angle - lo).toNat : ℤ) = angle - lo := Int.toNat_of_nonneg (by omega)
  rw [pressureBand_eq_min_div angle h]
  apply min_div_eq_of_mem_band (by omega) hn
  · zify
    rwa [travel, offset, mul_comm]
  · refine upper.imp_left fun below => ?_
    zify
    rwa [travel, offset, mul_comm _ ((n : ℤ) + 1)]

theorem pressureBand_mono {angle angle' lo hi : ℤ} (h : lo < hi) (rises : angle ≤ angle') :
    pressureBand angle lo hi ≤ pressureBand angle' lo hi := by
  simp only [pressureBand_eq_min_div _ h]
  exact min_le_min_right _ (Nat.div_le_div_right (by omega))

/-! ### Demand and slew -/

@[simp] theorem demandMagnitude_zero (dMin dMax : ℕ) : demandMagnitude 0 dMin dMax = 0 := by
  simp [demandMagnitude]

theorem demandMagnitude_of_ne_zero {n : ℕ} (h : n ≠ 0) (dMin dMax : ℕ) :
    demandMagnitude n dMin dMax = min (max n dMin) dMax := by
  rw [demandMagnitude, if_neg h]

theorem demandMagnitude_le (n dMin dMax : ℕ) : demandMagnitude n dMin dMax ≤ dMax :=
  min_le_right _ _

/-- An unclamped magnitude of 0 is in range only where Dmin is 0; the step that keeps 0 answers it. -/
theorem demandMagnitude_of_mem_range {n dMin dMax : ℕ} (lower : dMin ≤ n) (upper : n ≤ dMax) :
    demandMagnitude n dMin dMax = n := by
  obtain rfl | nonzero := eq_or_ne n 0
  · exact demandMagnitude_zero dMin dMax
  · rw [demandMagnitude_of_ne_zero nonzero]
    omega

theorem slewed_natAbs_le (c d : ℤ) (slew dMax : ℕ) : (slewed c d slew dMax).natAbs ≤ dMax := by
  simp only [slewed]
  omega

/-- A previous command and a demand within Dmax leave nothing for the clamp: the step between them stays
within Dmax. -/
theorem slewed_eq_add_step {c d : ℤ} {dMax : ℕ} (slew : ℕ) (hc : c.natAbs ≤ dMax)
    (hd : d.natAbs ≤ dMax) : slewed c d slew dMax = c + min (max (d - c) (-slew)) slew := by
  simp only [slewed]
  omega

/-- Settles O24: each band by its one form `min (x / width) top`, the demand and the slew by their
cases. -/
theorem driveArithmeticStaysInBounds : Obligations.DriveArithmeticStaysInBounds := by
  refine ⟨⟨fun c d slew dMax => ⟨slewed_natAbs_le c d slew dMax, fun hc hd => ?slew⟩,
      fun n dMin dMax => ⟨demandMagnitude_le n dMin dMax, ?demand⟩,
      fun ff kp e => ⟨rfl, rfl⟩⟩,
    fun t r => ⟨fun below => tempBand_of_lt below 40 31, fun n hn lower upper => ?single⟩,
    fun t => ⟨rfl, fun below => tempBand_of_lt below 80 15, fun n hn lower upper => ?split⟩,
    fun m _ _ r => tableIndex_mono m r,
    fun angle lo hi h => ⟨pressureBand_of_le h, fun n => pressureBand_eq_of_mem_band h⟩,
    fun _ _ lo hi => pressureBand_mono⟩
  case slew =>
    rw [slewed_eq_add_step slew hc hd]
    omega
  case demand =>
    refine ⟨?_, fun nonzero order => ?_, fun nonzero below order => ?_,
      demandMagnitude_of_mem_range, fun above => ?_⟩
    · rintro rfl
      exact demandMagnitude_zero dMin dMax
    all_goals
      rw [demandMagnitude_of_ne_zero (by omega)]
      omega
  case single => exact tempBand_eq_of_mem_band (by omega) hn lower upper
  case split => exact tempBand_eq_of_mem_band (by omega) hn lower upper

end Sys2Proof.Proofs
end

section
/-! SUPPORT. The admission of driver calls (07): the frame of a command that changes the call table, the
numbering, the checks of CALL POST, the automatic posts, and the obligation on them. -/

open Sys2Proof Sys2Proof.Machine
namespace Sys2Proof.Proofs

/-! ### The frame of a command that changes the call table -/

/-- Reports read no call: queueing them commutes with a change of the call table. -/
theorem says_with_calls (s : State) (t : CallTable) (rs : List (Option Link × ReportBody)) :
    { s with calls := t }.says rs = { s.says rs with calls := t } := by
  induction rs generalizing s with
  | nil => rfl
  | cons r rs ih =>
    obtain ⟨_ | l, b⟩ := r
    · exact ih (s.report b)
    · exact ih (s.reportOn l b)

/-- A request whose rule refuses it leaves what the frame alone leaves. -/
theorem runRequest_refused {i : Instr} {l : Link} {tag : Byte} {s : State} {code : RefusalCode}
    {f : State → State × ReplyData} (h : s.power = .running)
    (hf : f (s.openRequest l i) = deny (s.openRequest l i) code) :
    runRequest i l tag s f = .next (s.answered l tag i [] (.refused code)) :=
  runRequest_answeredBy (g := id) h hf

/-! ### Numbering (R125) -/

/-- The number `k` places after `n`, in the cycle 1 to 255. -/
def numberAfter (n k : ℕ) : ℕ := (n - 1 + k) % 255 + 1

theorem numberAfter_zero {n : ℕ} (low : 1 ≤ n) (high : n ≤ 255) : numberAfter n 0 = n := by
  unfold numberAfter
  omega

theorem numberAfter_nextNumber {n : ℕ} (low : 1 ≤ n) (high : n ≤ 255) (k : ℕ) :
    numberAfter (nextNumber n) k = numberAfter n (k + 1) := by
  unfold numberAfter nextNumber
  split <;> omega

theorem nextNumber_mem_range {n : ℕ} (low : 1 ≤ n) : 1 ≤ nextNumber n ∧ nextNumber n ≤ 255 := by
  unfold nextNumber
  split <;> omega

/-- The search passes over used numbers alone, and ends at a free one or out of fuel. -/
theorem firstFree_cases (used : List ℕ) {n : ℕ} (fuel : ℕ) (low : 1 ≤ n) (high : n ≤ 255) :
    ∃ k, k ≤ fuel ∧ firstFree used fuel n = numberAfter n k ∧ (∀ j < k, numberAfter n j ∈ used) ∧
      (k = fuel ∨ numberAfter n k ∉ used) := by
  induction fuel generalizing n with
  | zero => exact ⟨0, le_rfl, (numberAfter_zero low high).symm, by simp, .inl rfl⟩
  | succ fuel ih =>
    by_cases taken : n ∈ used
    · obtain ⟨low', high'⟩ := nextNumber_mem_range low
      obtain ⟨k, within, found, passed, free⟩ := ih low' high'
      simp only [numberAfter_nextNumber low high] at found passed free
      refine ⟨k + 1, by omega, by simp [firstFree, taken, found], fun j hj => ?_, by simpa using free⟩
      cases j with
      | zero => rwa [numberAfter_zero low high]
      | succ j => exact passed j (by omega)
    · have found := numberAfter_zero low high
      exact ⟨0, by omega, by simp [firstFree, taken, found], by simp, .inr (by rwa [found])⟩

/-- Fewer than 255 numbers in use leave one of the cycle free. -/
theorem exists_numberAfter_not_mem {used : List ℕ} (short : used.length < 255) (n : ℕ) :
    ∃ j < 255, numberAfter n j ∉ used := by
  by_contra! full
  have distinct : ((List.range 255).map (numberAfter n)).Nodup := by
    refine List.nodup_range.map_on fun i hi j hj same => ?_
    rw [List.mem_range] at hi hj
    unfold numberAfter at same
    omega
  have inUse : (List.range 255).map (numberAfter n) ⊆ used := by
    simpa [List.subset_def] using full
  have count := (distinct.subperm inUse).length_le
  simp only [List.length_map, List.length_range] at count
  omega

theorem freeNumber_spec {t : CallTable} (short : t.table.length < 255) (low : 1 ≤ t.number)
    (high : t.number ≤ 255) :
    ∃ k < 255, t.freeNumber = numberAfter t.number k ∧ t.freeNumber ∉ t.table.map (·.number) ∧
      ∀ j < k, numberAfter t.number j ∈ t.table.map (·.number) := by
  obtain ⟨k, within, found, passed, free⟩ := firstFree_cases (t.table.map (·.number)) 255 low high
  have found' : t.freeNumber = numberAfter t.number k := found
  obtain ⟨j, hj, unused⟩ :=
    exists_numberAfter_not_mem (used := t.table.map (·.number)) (by simpa using short) t.number
  have reached : k ≤ j := not_lt.1 fun hjk => unused (passed j hjk)
  exact ⟨k, by omega, found', found' ▸ free.resolve_left (by omega), passed⟩

/-! ### Admission -/

theorem resequence_eq_mapIdx (cs : List Call) (n : ℕ) :
    resequence cs n = cs.mapIdx fun k c => { c with sequence := k + n } := by
  induction cs generalizing n with
  | nil => rfl
  | cons c cs ih => simp [resequence, ih, List.mapIdx_cons, Nat.add_assoc, Nat.add_comm 1]

/-- Only the table and the sequence counter are made ready. -/
theorem ready_eq (t : CallTable) :
    t.ready = { t with
      table := if t.sequence < 4294967295 then t.table
        else t.table.mapIdx fun k c => { c with sequence := k + 1 }
      sequence := if t.sequence < 4294967295 then t.sequence else t.table.length + 1 } := by
  unfold CallTable.ready
  simp only [Config.counterTop, resequence_eq_mapIdx]
  split <;> rfl

theorem stamp_eq_callIn (s : State) (c : Call) : s.calls.stamp c s.clock = s.callIn c := by
  simp only [CallTable.stamp, State.callIn, ready_eq]

theorem enter_eq_withCall (s : State) (c : Call) :
    s.calls.enter c s.clock = (s.withCall (s.callIn c)).calls := by
  unfold CallTable.enter
  rw [stamp_eq_callIn, ready_eq]
  cases rings : c.chime <;>
    simp [State.withCall, State.callIn, CallTable.ring, nextNumber, Config.chimeTime, rings]

/-- An admission in the words of Safety. -/
theorem admitCall_eq_withCall (s : State) (c : Call) :
    s.admitCall c = (s.says [toBoth (.callAdmitted (s.callIn c))]).withCall (s.callIn c) := by
  unfold State.admitCall
  rw [enter_eq_withCall, stamp_eq_callIn]
  rfl

/-- An event that admits a call. -/
theorem actedBy_admitCall (s : State) (i : Instr) (c : Call) :
    s.actedBy i (·.admitCall c) =
      (s.acted i [toBoth (.callAdmitted (s.callIn c))]).withCall (s.callIn c) :=
  congrArg State.pump (admitCall_eq_withCall (s.taken i) c)

/-- A request that admits a call. -/
theorem answeredBy_admitCall (s : State) (l : Link) (tag : Byte) (i : Instr) (d : ReplyData) (c : Call) :
    s.answeredBy l tag i d (·.admitCall c) =
      (s.answered l tag i [toBoth (.callAdmitted (s.callIn c))] d).withCall (s.callIn c) :=
  congrArg (fun u => (u.placeReply l ⟨i.kind, tag, d⟩).pump) (admitCall_eq_withCall (s.openRequest l i) c)

/-! ### Automatic posts (R128) -/

theorem hasOrigin_iff (t : CallTable) (o : Origin) :
    t.hasOrigin o = true ↔ ∃ d ∈ t.table, d.origin = o := by
  simp [CallTable.hasOrigin]

section
variable {s : State} {c : Call} (i : Instr)

theorem actedBy_postAutomatic_of_standing (h : ∃ d ∈ s.calls.table, d.origin = c.origin) :
    s.actedBy i (·.postAutomatic c) = s.acted i [] :=
  congrArg State.pump (if_pos ((hasOrigin_iff _ _).2 h))

theorem actedBy_postAutomatic_of_absent (h : ∀ d ∈ s.calls.table, d.origin ≠ c.origin) :
    s.actedBy i (·.postAutomatic c) =
      (s.acted i [toBoth (.callAdmitted (s.callIn c))]).withCall (s.callIn c) := by
  have absent : ¬s.calls.hasOrigin c.origin = true := by simpa [hasOrigin_iff] using h
  rw [← actedBy_admitCall]
  exact congrArg State.pump (if_neg absent)

end

theorem exec_standClearPost {s : State} (running : s.power = .running) (a : Fin 4) :
    exec (.standClearPost a) s =
      .next (s.actedBy (.standClearPost a) (·.postAutomatic (s.standClearCall a))) :=
  calc exec (.standClearPost a) s
    _ = execStandClearPost a s := rfl
    _ = .next (s.actedBy (.standClearPost a) fun u => u.postAutomatic (u.standClearCall a)) :=
      runEvent_actedBy running
    _ = _ := rfl

theorem exec_evacuatePost {s : State} (running : s.power = .running) (z : Fin 8) :
    exec (.evacuatePost z) s =
      .next (s.actedBy (.evacuatePost z) (·.postAutomatic (s.evacuateCall z))) :=
  calc exec (.evacuatePost z) s
    _ = execEvacuatePost z s := rfl
    _ = .next (s.actedBy (.evacuatePost z) fun u => u.postAutomatic (u.evacuateCall z)) :=
      runEvent_actedBy running
    _ = _ := rfl

/-! ### CALL POST (R126, R127) -/

theorem boolOfCode_isNone_iff (n : ℕ) : (boolOfCode n).isNone = true ↔ 1 < n := by
  match n with
  | 0 => simp [boolOfCode]
  | 1 => simp [boolOfCode]
  | n + 2 => simp [boolOfCode]

theorem and_foldl_or_eq_zero_iff (p : Fin 8 → Bool) (f : Fin 8 → LaneSet) (x acc : LaneSet)
    (zs : List (Fin 8)) :
    x &&& zs.foldl (fun ls z => if p z then ls ||| f z else ls) acc = 0 ↔
      x &&& acc = 0 ∧ ∀ z ∈ zs, p z = true → f z &&& x = 0 := by
  induction zs generalizing acc with
  | nil => simp
  | cons z zs ih =>
    rw [List.foldl_cons, ih, List.forall_mem_cons]
    by_cases hz : p z = true
    · simp [hz, BitVec.and_or_distrib_left, BitVec.and_comm (f z), and_assoc]
    · simp [hz]

/-- A lane of a zone in ALARM is among them (R126). -/
theorem and_alarmLanes_ne_zero_iff (s : State) (lanes : LaneSet) :
    lanes &&& s.alarmLanes ≠ 0 ↔
      ∃ z : Fin 8, s.zones[z].alarm = true ∧ s.settings.zones[z].lanes &&& lanes ≠ 0 := by
  have key := and_foldl_or_eq_zero_iff (fun z => s.zones[z].alarm) (fun z => s.settings.zones[z].lanes)
    lanes 0 (List.finRange 8)
  rw [State.alarmLanes, Ne, key]
  simp

theorem postForbidden_iff (l : Link) (k : CallKind) :
    postForbidden l k = true ↔ k = .standClear ∨ (k = .evacuate ∧ l = .localLink) := by
  simp [postForbidden]

theorem ackTaken_eq {mode : ℕ} (k : CallKind) (h : mode ≤ 2) :
    ackTaken k mode = decide (k ≠ .evacuate ∧ (mode = 1 ∨ (mode = 0 ∧ k = .recall))) := by
  unfold ackTaken
  obtain rfl | rfl | rfl : mode = 0 ∨ mode = 1 ∨ mode = 2 := by omega
  all_goals by_cases hk : k = .evacuate <;> simp [hk]

theorem clamp_one_five (n : ℕ) : clamp 1 5 n = max 1 (min n 5) := by
  unfold clamp
  omega

theorem exec_callPost (s : State) (l : Link) (tag : Byte) (data : CallData) :
    exec (.callPost l tag data) s = execCallPost l tag data s := rfl

/-- No code of the post is undefined (R126, check 1). -/
theorem undefinedCode_eq_false {data : CallData} (chime : data.chime ≤ 1) (ack : data.ackMode ≤ 2) :
    ((boolOfCode data.chime).isNone || decide (2 < data.ackMode)) = false := by
  have known : (boolOfCode data.chime).isNone = false := by
    rw [← Bool.not_eq_true, boolOfCode_isNone_iff]
    omega
  simp [known, ack]

section
variable {s : State} {l : Link} {tag : Byte} {data : CallData} (running : s.power = .running)
include running

theorem callPost_of_undefinedCode
    (bad : CallKind.ofCode data.kind = none ∨ 1 < data.chime ∨ 2 < data.ackMode) :
    exec (.callPost l tag data) s =
      .next (s.answered l tag (.callPost l tag data) [] (.refused .badField)) := by
  rw [exec_callPost, execCallPost]
  apply runRequest_refused running
  cases hk : CallKind.ofCode data.kind with
  | none => rfl
  | some k =>
    have code : (boolOfCode data.chime).isNone = true ∨ 2 < data.ackMode := by
      rw [boolOfCode_isNone_iff]
      exact bad.resolve_left (by simp [hk])
    exact if_pos (by simpa using code)

variable {k : CallKind} {p : Fin 64} (kind : CallKind.ofCode data.kind = some k)
  (chime : data.chime ≤ 1) (ack : data.ackMode ≤ 2)
include kind chime ack

theorem callPost_of_forbidden (forbidden : postForbidden l k = true) :
    exec (.callPost l tag data) s =
      .next (s.answered l tag (.callPost l tag data) [] (.refused .noAuthority)) := by
  rw [exec_callPost, execCallPost]
  apply runRequest_refused running
  simp [kind, undefinedCode_eq_false chime ack, forbidden]

variable (allowed : ¬postForbidden l k = true)
include allowed

theorem callPost_of_badPattern_or_noLanes (bad : 63 < data.pattern ∨ data.lanes = 0) :
    exec (.callPost l tag data) s =
      .next (s.answered l tag (.callPost l tag data) [] (.refused .badField)) := by
  rw [exec_callPost, execCallPost]
  apply runRequest_refused running
  simp only [kind, undefinedCode_eq_false chime ack, allowed]
  cases hp : finOf? 64 data.pattern with
  | none => rfl
  | some p =>
    have inRange : data.pattern ≤ 63 := by
      rw [← finOf?_eq_some.1 hp]
      omega
    have noLanes : data.lanes = 0 := bad.resolve_left (by omega)
    exact if_pos noLanes

variable (lanes : data.lanes ≠ 0) (pattern : p.val = data.pattern)
include lanes pattern

theorem callPost_of_zoneInAlarm (alarm : k = .recall ∧ data.lanes &&& s.alarmLanes ≠ 0) :
    exec (.callPost l tag data) s =
      .next (s.answered l tag (.callPost l tag data) [] (.refused .zoneInAlarm)) := by
  rw [exec_callPost, execCallPost]
  apply runRequest_refused running
  simp only [kind, undefinedCode_eq_false chime ack, allowed, finOf?_eq_some.2 pattern, lanes]
  exact if_pos alarm

variable (quiet : ¬(k = .recall ∧ data.lanes &&& s.alarmLanes ≠ 0))
include quiet

theorem callPost_of_tableFull (full : 8 ≤ s.calls.externals) :
    exec (.callPost l tag data) s =
      .next (s.answered l tag (.callPost l tag data) [] (.refused .tableFull)) := by
  rw [exec_callPost, execCallPost]
  apply runRequest_refused running
  simp only [kind, undefinedCode_eq_false chime ack, allowed, finOf?_eq_some.2 pattern, lanes]
  exact (if_neg quiet).trans (if_pos full)

theorem callPost_of_admitted (room : s.calls.externals < 8) :
    exec (.callPost l tag data) s =
      let c := s.callIn (postedCall l k p data)
      .next ((s.answered l tag (.callPost l tag data) [toBoth (.callAdmitted c)]
        (.done c.postData)).withCall c) := by
  dsimp only
  rw [← answeredBy_admitCall, exec_callPost, execCallPost]
  apply runRequest_answeredBy running
  simp only [kind, undefinedCode_eq_false chime ack, allowed, finOf?_eq_some.2 pattern, lanes]
  exact (if_neg quiet).trans ((if_neg (not_le.2 room)).trans
    (congrArg (fun c : Call => done (State.admitCall _ _) c.postData) (stamp_eq_callIn s _)))

end

theorem postedCall_eq {data : CallData} (l : Link) (k : CallKind) (p : Fin 64) (ack : data.ackMode ≤ 2) :
    postedCall l k p data =
      { number := 0
        kind := k
        priority := if k = .evacuate then 7 else max 1 (min data.priority 5)
        origin := .link l
        lanes := data.lanes
        pattern := p
        chime := decide (k = .evacuate ∨ data.chime = 1)
        ack := decide (k ≠ .evacuate ∧ (data.ackMode = 1 ∨ (data.ackMode = 0 ∧ k = .recall)))
        acked := 0
        duration := min data.duration 3600
        timer := none
        admitted := 0
        sequence := 0 } := by
  simp [postedCall, clamp_one_five, ackTaken_eq k ack]

/-- Settles O38: CALL POST check by check, the automatic posts by whether a call of their origin stands,
and the numbers by the search over the cycle 1 to 255. -/
theorem postsAdmitCalls : Obligations.PostsAdmitCalls := by
  refine ⟨fun s running => ⟨fun l tag data =>
      ⟨callPost_of_undefinedCode running, fun k kind chime ack => ?post⟩,
    fun a => ?standClear, fun z => ?evacuate⟩, fun t short low high => ?number⟩
  case post =>
    rw [← postForbidden_iff]
    refine ⟨callPost_of_forbidden running kind chime ack,
      callPost_of_badPattern_or_noLanes running kind chime ack, fun allowed lanes p pattern => ?_⟩
    rw [← and_alarmLanes_ne_zero_iff]
    refine ⟨callPost_of_zoneInAlarm running kind chime ack allowed lanes pattern,
      callPost_of_tableFull running kind chime ack allowed lanes pattern, fun quiet room => ?_⟩
    have posted := callPost_of_admitted (tag := tag) running kind chime ack allowed lanes pattern quiet room
    rwa [postedCall_eq l k p ack] at posted
  case standClear =>
    dsimp only
    rw [exec_standClearPost running]
    exact ⟨fun standing => congrArg _ (actedBy_postAutomatic_of_standing _ standing),
      fun absent => congrArg _ (actedBy_postAutomatic_of_absent _ absent)⟩
  case evacuate =>
    dsimp only
    rw [exec_evacuatePost running]
    exact ⟨fun standing => congrArg _ (actedBy_postAutomatic_of_standing _ standing),
      fun absent => congrArg _ (actedBy_postAutomatic_of_absent _ absent)⟩
  case number =>
    obtain ⟨k, within, found, unused, passed⟩ := freeNumber_spec short low high
    exact ⟨by simpa using unused, k, within, found, by simpa [numberAfter] using passed⟩

end Sys2Proof.Proofs
end

section
/-! SUPPORT. The removal of driver calls (07): one act over the table, what it removes and what it keeps,
and the obligation on the acts that remove, trim and acknowledge. -/

open Sys2Proof Sys2Proof.Machine

namespace Sys2Proof.Proofs

/-! ### One act over the table (R129) -/

/-- The calls the act removes, as they then stood, in table order. -/
def removedBy (judge : Call → Verdict) (cs : List Call) : List (Call × RemovalReason) :=
  cs.filterMap fun c => (judge c).2.map fun r => ((judge c).1, r)

/-- The calls the act keeps, as they then stand. -/
def keptBy (judge : Call → Verdict) (cs : List Call) : List Call :=
  (cs.filter fun c => (judge c).2.isNone).map fun c => (judge c).1

theorem filterMap_kept_eq_keptBy (judge : Call → Verdict) (cs : List Call) :
    (cs.map judge).filterMap (fun v => if v.2.isNone then some v.1 else none) = keptBy judge cs := by
  unfold keptBy
  induction cs with
  | nil => rfl
  | cons c cs ih => cases removal : (judge c).2 <;> simpa [removal] using ih

theorem lastN_append_append {α : Type} (n : ℕ) (xs ys : List α) :
    lastN n (lastN n xs ++ ys) = lastN n (xs ++ ys) := by
  simp only [lastN, List.drop_append, List.drop_drop, List.length_append, List.length_drop]
  congr 2 <;> omega

/-- Removals recorded one after another leave the last eight of all of them. -/
theorem foldl_note (rs : List RemovedCall) (t : CallTable) :
    rs.foldl CallTable.note t =
      { t with removed := if rs = [] then t.removed else lastN 8 (t.removed ++ rs) } := by
  induction rs generalizing t with
  | nil => rfl
  | cons r rs ih =>
    rw [List.foldl_cons, ih]
    cases rs with
    | nil => rfl
    | cons q rs => simp [CallTable.note, Config.removedLimit, lastN_append_append]

/-- Recording a removal changes the call table; reporting it, the links. -/
theorem foldl_noteRemoval (gs : List (Call × RemovalReason)) (s : State) :
    gs.foldl State.noteRemoval s =
      { s.says (removalReports gs) with
        calls := (gs.map fun g => RemovedCall.of g.1 g.2 s.clock).foldl CallTable.note s.calls } := by
  induction gs generalizing s with
  | nil => rfl
  | cons g gs ih =>
    rw [List.foldl_cons, ih]
    have noted : (s.noteRemoval g).says (removalReports gs) =
        { s.says (removalReports (g :: gs)) with
          calls := s.calls.note (RemovedCall.of g.1 g.2 s.clock) } :=
      says_with_calls s _ (removalReports (g :: gs))
    rw [noted]
    rfl

/-- An act over the table in the words of Safety: reports read no call, so recording and reporting the
removals one by one is reporting them all and then recording them all. -/
theorem sweepCalls_eq_withRemovals (s : State) (judge : Call → Verdict) :
    s.sweepCalls judge =
      (s.says (removalReports (removedBy judge s.calls.table))).withRemovals
        (keptBy judge s.calls.table) (removedBy judge s.calls.table) := by
  have gone : (s.calls.table.map judge).filterMap (fun v => v.2.map fun r => (v.1, r)) =
      removedBy judge s.calls.table := List.filterMap_map
  unfold State.sweepCalls
  dsimp only
  rw [gone, filterMap_kept_eq_keptBy, foldl_noteRemoval, foldl_note, says_with_calls]
  simp [State.withRemovals, CallTable.keep, lastN, RemovedCall.of]

/-- An event that acts over the table. -/
theorem actedBy_sweepCalls (s : State) (i : Instr) (judge : Call → Verdict) :
    s.actedBy i (·.sweepCalls judge) =
      (s.acted i (removalReports (removedBy judge s.calls.table))).withRemovals
        (keptBy judge s.calls.table) (removedBy judge s.calls.table) :=
  congrArg State.pump (sweepCalls_eq_withRemovals (s.taken i) judge)

/-- A request that acts over the table. -/
theorem answeredBy_sweepCalls (s : State) (l : Link) (tag : Byte) (i : Instr) (d : ReplyData)
    (judge : Call → Verdict) :
    s.answeredBy l tag i d (·.sweepCalls judge) =
      (s.answered l tag i (removalReports (removedBy judge s.calls.table)) d).withRemovals
        (keptBy judge s.calls.table) (removedBy judge s.calls.table) :=
  congrArg (fun u => (u.placeReply l ⟨i.kind, tag, d⟩).pump)
    (sweepCalls_eq_withRemovals (s.openRequest l i) judge)

/-! ### Acts that remove by a test: a cancel, an axis come to rest, an expired duration (R130 to R132) -/

section
variable {judge : Call → Verdict} {change : Call → Call} {p : Call → Bool} {r : RemovalReason}
  (h : ∀ c, judge c = (change c, if p c then some r else none)) (cs : List Call)
include h

/-- An act with one reason removes the calls its test picks. -/
theorem removedBy_of_test : removedBy judge cs = (cs.filter p).map fun c => (change c, r) := by
  unfold removedBy
  simp only [h]
  induction cs with
  | nil => rfl
  | cons c cs ih => cases picked : p c <;> simpa [picked] using ih

theorem keptBy_of_test : keptBy judge cs = (cs.filter fun c => !p c).map change := by
  unfold keptBy
  congr 1
  · funext c
    rw [h]
  · refine List.filter_congr fun c _ => ?_
    cases picked : p c <;> simp [h, picked]

end

theorem removedBy_removeIf (p : Call → Bool) (r : RemovalReason) (cs : List Call) :
    removedBy (removeIf p r) cs = (cs.filter p).map fun c => (c, r) :=
  removedBy_of_test (fun _ => rfl) cs

theorem keptBy_removeIf (p : Call → Bool) (r : RemovalReason) (cs : List Call) :
    keptBy (removeIf p r) cs = cs.filter fun c => !p c :=
  (keptBy_of_test (change := id) (fun _ => rfl) cs).trans (List.map_id _)

/-- An event that removes the calls a test picks. -/
theorem runEvent_removeIf {s : State} (running : s.power = .running) (i : Instr) (p : Call → Bool)
    (r : RemovalReason) :
    runEvent i s (·.sweepCalls (removeIf p r)) =
      .next ((s.acted i (removalReports ((s.calls.table.filter p).map fun c => (c, r)))).withRemovals
        (s.calls.table.filter fun c => !p c) ((s.calls.table.filter p).map fun c => (c, r))) := by
  rw [runEvent_actedBy running, actedBy_sweepCalls, removedBy_removeIf, keptBy_removeIf]

theorem exec_standClearRemoval (s : State) (a : Fin 4) :
    exec (.standClearRemoval a) s = runEvent (.standClearRemoval a) s
      (·.sweepCalls (removeIf (fun c => decide (c.origin = .axis a)) .axisIdle)) := rfl

theorem exec_durationTimerExpiry (s : State) (n : ℕ) :
    exec (.durationTimerExpiry n) s = runEvent (.durationTimerExpiry n) s
      (·.sweepCalls (removeIf (fun c => decide (c.number = n ∧ c.timer ≠ none)) .expired)) := by
  have sameTest : (fun c : Call => decide (c.number = n ∧ c.timer ≠ none)) =
      fun c => decide (c.number = n) && c.timer.isSome := by
    funext c
    cases c.timer <;> simp
  rw [sameTest]
  rfl

/-! ### The CHIME timer (R135) -/

theorem exec_chimeTimerExpiry (s : State) : exec .chimeTimerExpiry s = execChimeTimerExpiry s := rfl

theorem chimeTimerExpiry_of_silent {s : State} (running : s.power = .running)
    (silent : s.calls.chimeTimer = none) :
    exec .chimeTimerExpiry s = .next (s.acted .chimeTimerExpiry []) := by
  rw [exec_chimeTimerExpiry, execChimeTimerExpiry, runEvent_of_running running,
    State.taken_calls, if_pos silent]
  rfl

theorem chimeTimerExpiry_of_ringing {s : State} (running : s.power = .running)
    (ringing : s.calls.chimeTimer ≠ none) :
    exec .chimeTimerExpiry s = .next { s.acted .chimeTimerExpiry [] with
      calls := { s.calls with chimeTimer := none, chime := false } } := by
  rw [exec_chimeTimerExpiry, execChimeTimerExpiry, runEvent_of_running running,
    State.taken_calls, if_neg ringing]
  rfl

/-! ### CALL CANCEL (R130) -/

theorem exec_callCancel (s : State) (l : Link) (tag : Byte) (n : ℕ) :
    exec (.callCancel l tag n) s = execCallCancel l tag n s := rfl

section
variable {s : State} {l : Link} {tag : Byte} {n : ℕ} (running : s.power = .running)
include running

theorem callCancel_zero : exec (.callCancel l tag 0) s =
    .next (s.answered l tag (.callCancel l tag 0) [] (.refused .badField)) := by
  rw [exec_callCancel, execCallCancel]
  exact runRequest_refused running rfl

variable (nonzero : n ≠ 0)
include nonzero

theorem callCancel_of_absent
    (absent : s.calls.table.find? (fun c => decide (c.number = n)) = none) :
    exec (.callCancel l tag n) s =
      .next (s.answered l tag (.callCancel l tag n) [] (.refused .notFound)) := by
  rw [exec_callCancel, execCallCancel]
  apply runRequest_refused running
  simp only [nonzero, State.openRequest_calls, absent, if_false]

variable {c : Call} (standing : s.calls.table.find? (fun c => decide (c.number = n)) = some c)
include standing

theorem callCancel_of_standClear (kind : c.kind = .standClear) :
    exec (.callCancel l tag n) s =
      .next (s.answered l tag (.callCancel l tag n) [] (.refused .state)) := by
  rw [exec_callCancel, execCallCancel]
  apply runRequest_refused running
  simp only [nonzero, State.openRequest_calls, standing, kind, if_false, if_true]

theorem callCancel_of_evacuate_localLink (kind : c.kind = .evacuate) (origin : l = .localLink) :
    exec (.callCancel l tag n) s =
      .next (s.answered l tag (.callCancel l tag n) [] (.refused .noAuthority)) := by
  rw [exec_callCancel, execCallCancel]
  apply runRequest_refused running
  simp [nonzero, standing, kind, origin]

theorem callCancel_of_allowed (kind : c.kind ≠ .standClear)
    (origin : ¬(c.kind = .evacuate ∧ l = .localLink)) :
    exec (.callCancel l tag n) s =
      .next (s.answeredBy l tag (.callCancel l tag n) (.done [byte n])
        (·.sweepCalls (removeIf (fun c => decide (c.number = n)) .cancelled))) := by
  rw [exec_callCancel, execCallCancel]
  apply runRequest_answeredBy running
  simp only [nonzero, State.openRequest_calls, standing, kind, origin, if_false]
  rfl

end

/-! ### The withdrawal of a zone's lanes (R133) -/

/-- A RECALL call addressed to one of the lanes. -/
def meetsTrim (lanes : LaneSet) (c : Call) : Bool := decide (c.kind = .recall ∧ c.lanes &&& lanes ≠ 0)

/-- The call after the withdrawal. -/
def trimmed (lanes : LaneSet) (c : Call) : Call :=
  if meetsTrim lanes c then { c with lanes := c.lanes &&& ~~~lanes, acked := c.acked &&& ~~~lanes } else c

/-- Why the withdrawal removes the call, if it does. -/
def trimEnd (lanes : LaneSet) (c : Call) : Option RemovalReason :=
  if !meetsTrim lanes c then none
  else if (trimmed lanes c).lanes = 0 then some .zoneAlarm
  else if c.ack ∧ (trimmed lanes c).acked = (trimmed lanes c).lanes then some .answered
  else none

theorem trimCall_eq (lanes : LaneSet) : trimCall lanes = fun c => (trimmed lanes c, trimEnd lanes c) := by
  funext c
  by_cases met : c.kind = .recall ∧ c.lanes &&& lanes ≠ 0
  · have picked : meetsTrim lanes c = true := decide_eq_true met
    have addressed : ¬(c.kind ≠ .recall ∨ c.lanes &&& lanes = 0) := by tauto
    rw [trimCall, if_neg addressed]
    simp only [trimEnd, trimmed, picked, if_true, Bool.not_true, Bool.false_eq_true, if_false]
    split_ifs <;> rfl
  · have spared : meetsTrim lanes c = false := decide_eq_false met
    rw [trimCall, if_pos (by tauto)]
    simp [trimEnd, trimmed, spared]

theorem exec_recallTrim {s : State} (running : s.power = .running) (z : Fin 8) :
    exec (.recallTrim z) s =
      .next (s.actedBy (.recallTrim z) (·.sweepCalls (trimCall s.settings.zones[z].lanes))) :=
  calc exec (.recallTrim z) s
    _ = execRecallTrim z s := rfl
    _ = .next (s.actedBy (.recallTrim z) fun u =>
          u.sweepCalls (trimCall u.settings.zones[z].lanes)) := runEvent_actedBy running
    _ = _ := rfl

/-! ### A press (R134) -/

/-- A call that waits for the lane. -/
def meetsPress (n : Fin 16) (c : Call) : Bool :=
  c.ack && c.lanes.getLsbD n.val && !c.acked.getLsbD n.val

/-- The call after the press. -/
def pressed (n : Fin 16) (c : Call) : Call :=
  if meetsPress n c then { c with acked := c.acked ||| BitVec.twoPow 16 n.val } else c

/-- The press completes the acknowledgement. -/
def endsByPress (n : Fin 16) (c : Call) : Bool :=
  meetsPress n c && decide ((pressed n c).acked = c.lanes)

theorem ackCall_eq (n : Fin 16) (c : Call) :
    ackCall n c = (pressed n c, if endsByPress n c then some .answered else none) := by
  have test : (c.ack && laneIn c.lanes n && !laneIn c.acked n) = meetsPress n c := rfl
  rw [ackCall, test]
  by_cases waits : meetsPress n c = true
  · have answers : pressed n c = { c with acked := c.acked ||| laneBit n } := if_pos waits
    simp only [endsByPress, answers, waits, if_true, Bool.true_and, decide_eq_true_eq]
    split_ifs <;> rfl
  · simp [endsByPress, pressed, waits]

theorem exec_laneAcknowledgement {s : State} (running : s.power = .running) (n : Fin 16) :
    exec (.laneAcknowledgement n) s =
      .next (s.actedBy (.laneAcknowledgement n) (·.sweepCalls (ackCall n))) :=
  calc exec (.laneAcknowledgement n) s
    _ = execLaneAcknowledgement n s := rfl
    _ = _ := runEvent_actedBy running

/-- Settles O39: every act but the CHIME timer's is one sweep of the table, and each is told by what its
judgement of one call is. -/
theorem callsAreRemovedTrimmedAndAnswered : Obligations.CallsAreRemovedTrimmedAndAnswered := by
  refine ⟨fun s running => ⟨fun l tag n =>
        ⟨?zero, callCancel_of_absent running, fun nonzero c standing => ?cancel⟩,
      fun a => (exec_standClearRemoval s a).trans (runEvent_removeIf running _ _ _),
      fun n => (exec_durationTimerExpiry s n).trans (runEvent_removeIf running _ _ _),
      chimeTimerExpiry_of_silent running, chimeTimerExpiry_of_ringing running⟩,
    fun s running => ⟨fun z => ?trim, fun n => ?press⟩⟩
  case zero =>
    rintro rfl
    exact callCancel_zero running
  case cancel =>
    refine ⟨callCancel_of_standClear running nonzero standing,
      callCancel_of_evacuate_localLink running nonzero standing, fun notStandClear allowed => ?_⟩
    have origin : ¬(c.kind = .evacuate ∧ l = .localLink) := by
      rintro ⟨evacuate, rfl⟩
      exact allowed.elim (absurd evacuate) nofun
    rw [callCancel_of_allowed running nonzero standing notStandClear origin, answeredBy_sweepCalls,
      removedBy_removeIf, keptBy_removeIf]
  case trim =>
    have swept := exec_recallTrim running z
    rwa [actedBy_sweepCalls, trimCall_eq] at swept
  case press =>
    have swept := exec_laneAcknowledgement running n
    rwa [actedBy_sweepCalls, removedBy_of_test (ackCall_eq n), keptBy_of_test (ackCall_eq n)] at swept

end Sys2Proof.Proofs
end

section
/-! SUPPORT. The general output lines (09, 9.4): what driving one line, and one line after another,
changes and hands on, and the obligation on the source changes and OUTPUT SET. -/

open Sys2Proof Sys2Proof.Machine

namespace Sys2Proof.Proofs

/-! ### Changed lines and what they hand on (R159) -/

/-- The level a source value gives a line. -/
def lineLevel (s : State) (k : Fin 8) (value : Bool) : Bool := value != s.settings.outputs[k].invert

/-- A line comes to a level: what is handed on, if that is a change. -/
def lineNotice (s : State) (k : Fin 8) (level : Bool) : List Instr :=
  if level = s.alarms.lines[k].level then []
  else [.sourceChange (.outputLine k) ⟨if level then 1 else 0, true⟩]

/-- The state with the lines `new`, each change of level handed on. -/
def withLines (s : State) (new : Vector OutLine 8) : State :=
  { s with alarms := { s.alarms with lines := new }, handed := s.handed ++ s.lineNotices new }

/-- The notices of a list of lines, told line by line. -/
theorem filter_map_eq_flatMap_lineNotice (s : State) (new : Vector OutLine 8) (ks : List (Fin 8)) :
    ((ks.filter fun k => decide (new[k].level ≠ s.alarms.lines[k].level)).map fun k =>
      Instr.sourceChange (.outputLine k) ⟨if new[k].level then 1 else 0, true⟩) =
    ks.flatMap fun k => lineNotice s k new[k].level := by
  induction ks with
  | nil => rfl
  | cons k ks ih =>
    rw [List.flatMap_cons, ← ih]
    by_cases same : new[k].level = s.alarms.lines[k].level
    · rw [List.filter_cons_of_neg (by simpa using same), lineNotice, if_pos same, List.nil_append]
    · rw [List.filter_cons_of_pos (by simpa using same), lineNotice, if_neg same]
      rfl

/-- Lines whose level stays hand nothing on: the notices are those of the lines picked. -/
theorem lineNotices_of_unpicked {s : State} {new : Vector OutLine 8} {p : Fin 8 → Bool}
    (unpicked : ∀ k, p k = false → new[k].level = s.alarms.lines[k].level) :
    s.lineNotices new =
      ((List.finRange 8).filter p).flatMap fun k => lineNotice s k new[k].level := by
  rw [← filter_map_eq_flatMap_lineNotice, List.filter_filter]
  refine congrArg (List.map _) (List.filter_congr fun k _ => ?_)
  cases picked : p k
  · rw [Bool.and_false, decide_eq_false (not_not_intro (unpicked k picked))]
  · rw [Bool.and_true]

theorem lineNotices_set (s : State) (k : Fin 8) (x : OutLine) :
    s.lineNotices (s.alarms.lines.set k x) = lineNotice s k x.level := by
  have unpicked (j : Fin 8) (apart : (j == k) = false) :
      (s.alarms.lines.set k x)[j].level = s.alarms.lines[j].level := by
    rw [← upd_const, upd_get_other _ _ _ _ (ne_of_beq_false apart)]
  have only : (List.finRange 8).filter (· == k) = [k] := by
    rw [List.filter_beq, List.count_eq_one_of_mem (List.nodup_finRange 8) (List.mem_finRange k)]
    rfl
  rw [lineNotices_of_unpicked unpicked, only, List.flatMap_singleton, ← upd_const, upd_get_self]

/-! ### Driving lines (R159) -/

theorem driveLine_eq (s : State) (k : Fin 8) (value : Bool) :
    s.driveLine k value =
      { s with
        alarms := { s.alarms with
          lines := upd s.alarms.lines k fun x => { x with level := lineLevel s k value } }
        handed := s.handed ++ lineNotice s k (lineLevel s k value) } := by
  by_cases same : lineLevel s k value = s.alarms.lines[k].level
  · have stays : s.driveLine k value = s := if_pos same
    have kept : (upd s.alarms.lines k fun x => { x with level := lineLevel s k value }) =
        s.alarms.lines := by
      rw [upd, same]
      exact Vector.set_getElem_self k.isLt
    rw [stays, kept, lineNotice, if_pos same, List.append_nil]
  · have code : ((lineLevel s k value).toNat : ℤ) = if lineLevel s k value then 1 else 0 := by
      cases lineLevel s k value <;> rfl
    rw [lineNotice, if_neg same, ← code]
    exact if_neg same

@[simp] theorem lineLevel_driveLine (s : State) (k j : Fin 8) (value v : Bool) :
    lineLevel (s.driveLine k value) j v = lineLevel s j v := by
  rw [driveLine_eq]
  rfl

theorem driveLine_line_self (s : State) (k : Fin 8) (value : Bool) :
    (s.driveLine k value).alarms.lines[k] =
      { s.alarms.lines[k] with level := lineLevel s k value } := by
  rw [driveLine_eq]
  exact upd_get_self _ _ _

theorem driveLine_line_other (s : State) {k j : Fin 8} (value : Bool) (apart : j ≠ k) :
    (s.driveLine k value).alarms.lines[j] = s.alarms.lines[j] := by
  rw [driveLine_eq]
  exact upd_get_other _ _ _ _ apart

/-- The lines with each of `ks` at the level the value gives it. -/
def levelled (s : State) (ks : List (Fin 8)) (value : Bool) : Vector OutLine 8 :=
  Vector.ofFn fun k =>
    if k ∈ ks then { s.alarms.lines[k] with level := lineLevel s k value } else s.alarms.lines[k]

theorem levelled_nil (s : State) (value : Bool) : levelled s [] value = s.alarms.lines := by
  simp [levelled]

theorem levelled_driveLine (s : State) {k : Fin 8} {ks : List (Fin 8)} (fresh : k ∉ ks)
    (value : Bool) : levelled (s.driveLine k value) ks value = levelled s (k :: ks) value := by
  refine congrArg Vector.ofFn (funext fun j => ?_)
  by_cases same : j = k
  · subst same
    rw [if_neg fresh, if_pos List.mem_cons_self, driveLine_line_self]
  · simp only [List.mem_cons, same, false_or, lineLevel_driveLine, driveLine_line_other s value same]

/-- Lines driven one after another: a line driven leaves what the others hand on as it was. -/
theorem foldl_driveLine {ks : List (Fin 8)} (distinct : ks.Nodup) (s : State) (value : Bool) :
    ks.foldl (fun s k => s.driveLine k value) s =
      { s with
        alarms := { s.alarms with lines := levelled s ks value }
        handed := s.handed ++ ks.flatMap fun k => lineNotice s k (lineLevel s k value) } := by
  induction ks generalizing s with
  | nil => rw [levelled_nil, List.flatMap_nil, List.append_nil]; rfl
  | cons k ks ih =>
    obtain ⟨fresh, distinct⟩ := List.nodup_cons.1 distinct
    have told (j : Fin 8) (later : j ∈ ks) :
        lineNotice (s.driveLine k value) j (lineLevel (s.driveLine k value) j value) =
          lineNotice s j (lineLevel s j value) := by
      have apart : j ≠ k := ne_of_mem_of_not_mem later fresh
      rw [lineLevel_driveLine, lineNotice, driveLine_line_other s value apart]
      rfl
    rw [List.foldl_cons, ih distinct, levelled_driveLine s fresh, List.flatMap_congr told,
      driveLine_eq, List.flatMap_cons, ← List.append_assoc]

theorem linesFollowing_get (s : State) (src : OutSource) (value : Bool) (k : Fin 8) :
    (s.linesFollowing src value)[k] =
      if s.settings.outputs[k].source = src then
        { s.alarms.lines[k] with level := lineLevel s k value }
      else s.alarms.lines[k] := Vector.getElem_ofFn k.isLt

/-- The lines that follow a source take its new value, and each change is handed on. -/
theorem driveFollowers_eq_withLines (s : State) (src : OutSource) (value : Bool) :
    s.driveFollowers src value = withLines s (s.linesFollowing src value) := by
  have distinct : (s.followers src).Nodup := (List.nodup_finRange 8).filter _
  have follows (k : Fin 8) : k ∈ s.followers src ↔ s.settings.outputs[k].source = src := by
    simp [State.followers]
  have lines : levelled s (s.followers src) value = s.linesFollowing src value := by
    simp only [levelled, follows]
    rfl
  have unpicked (k : Fin 8) (apart : decide (s.settings.outputs[k].source = src) = false) :
      (s.linesFollowing src value)[k].level = s.alarms.lines[k].level := by
    rw [linesFollowing_get, if_neg (of_decide_eq_false apart)]
  have told (k : Fin 8) (picked : k ∈ s.followers src) :
      lineNotice s k (lineLevel s k value) =
        lineNotice s k (s.linesFollowing src value)[k].level := by
    rw [linesFollowing_get, if_pos ((follows k).1 picked)]
  rw [withLines, lineNotices_of_unpicked unpicked, State.driveFollowers, foldl_driveLine distinct,
    List.flatMap_congr told, lines]
  rfl

/-- The held value of a line written, and its level driven from it (R160). -/
theorem setOutput_eq_withLines (s : State) (k : Fin 8) (v : Bool) :
    s.setOutput k v = withLines s (s.alarms.lines.set k ⟨v, lineLevel s k v⟩) := by
  have held : (s.setHeld k v).alarms.lines = upd s.alarms.lines k fun x => { x with held := v } := rfl
  have level : (s.setHeld k v).alarms.lines[k].level = s.alarms.lines[k].level := by
    rw [held, upd_get_self]
  have lines : (upd (s.setHeld k v).alarms.lines k fun x => { x with level := lineLevel s k v }) =
      s.alarms.lines.set k ⟨v, lineLevel s k v⟩ := by
    rw [held, upd_upd]
    rfl
  have told : lineNotice (s.setHeld k v) k (lineLevel s k v) = lineNotice s k (lineLevel s k v) := by
    rw [lineNotice, level]
    rfl
  rw [withLines, lineNotices_set, ← told, ← lines]
  exact driveLine_eq (s.setHeld k v) k v

/-! ### OUTPUT_LINE_SOURCE_CHANGE and OUTPUT SET (R159, R160) -/

theorem boolOfCode_toNat (v : Bool) : boolOfCode v.toNat = some v := by cases v <;> rfl

theorem boolOfCode_eq_none {n : ℕ} (undefinedCode : 1 < n) : boolOfCode n = none := by
  match n, undefinedCode with
  | _ + 2, _ => rfl

theorem exec_outputLineSourceChange (src : OutSource) (value : Bool) (s : State) :
    exec (.outputLineSourceChange src value) s = execOutputLineSourceChange src value s := rfl

theorem exec_outputSet (l : Link) (tag : Byte) (line value : ℕ) (s : State) :
    exec (.outputSet l tag line value) s = execOutputSet l tag line value s := rfl

section
variable {s : State} (running : s.power = .running)
include running

theorem outputLineSourceChange_fixed (value : Bool) :
    exec (.outputLineSourceChange .fixed value) s =
      .next (s.acted (.outputLineSourceChange .fixed value) []) := by
  rw [exec_outputLineSourceChange, execOutputLineSourceChange, runEvent_of_running running, if_pos rfl]
  rfl

theorem outputLineSourceChange_followed {src : OutSource} (followed : src ≠ .fixed) (value : Bool) :
    let i := Instr.outputLineSourceChange src value
    exec i s = .next (withLines (s.acted i []) (s.linesFollowing src value)) := by
  intro i
  have act : (if src = .fixed then s.taken i else (s.taken i).driveFollowers src value) =
      withLines (s.taken i) (s.linesFollowing src value) := by
    rw [if_neg followed, driveFollowers_eq_withLines]
    rfl
  rw [exec_outputLineSourceChange, execOutputLineSourceChange, runEvent_of_running running, act]
  rfl

variable {l : Link} {tag : Byte}

theorem outputSet_badField {n m : ℕ} (bad : 7 < n ∨ 1 < m) :
    exec (.outputSet l tag n m) s =
      .next (s.answered l tag (.outputSet l tag n m) [] (.refused .badField)) := by
  rw [exec_outputSet, execOutputSet]
  apply runRequest_refused running
  rcases bad with noLine | noValue
  · rw [finOf?_eq_none.2 noLine]
  · rw [boolOfCode_eq_none noValue]
    cases finOf? 8 n <;> rfl

variable {k : Fin 8} (v : Bool)

theorem outputSet_of_following (following : s.settings.outputs[k].source ≠ .fixed) :
    let i := Instr.outputSet l tag k v.toNat
    exec i s = .next (s.answered l tag i [] (.refused .state)) := by
  intro i
  rw [exec_outputSet, execOutputSet]
  apply runRequest_refused running
  rw [finOf?_val, boolOfCode_toNat]
  exact if_pos following

theorem outputSet_of_fixed (fixed : s.settings.outputs[k].source = .fixed) :
    let i := Instr.outputSet l tag k v.toNat
    exec i s = .next (withLines (s.answered l tag i [] (.done [boolByte (lineLevel s k v)]))
      (s.alarms.lines.set k ⟨v, lineLevel s k v⟩)) := by
  intro i
  have written (u : State) : (u.setOutput k v).alarms.lines[k].level = lineLevel u k v := by
    rw [setOutput_eq_withLines]
    exact congrArg OutLine.level (upd_get_self u.alarms.lines k fun _ => ⟨v, lineLevel u k v⟩)
  rw [exec_outputSet, execOutputSet, runRequest_answeredBy running
    (g := (·.setOutput k v)) (d := .done [boolByte (lineLevel s k v)])]
  · rw [State.answeredBy, setOutput_eq_withLines]
    rfl
  · rw [finOf?_val, boolOfCode_toNat]
    exact (if_neg (not_not_intro fixed)).trans (by rw [written]; rfl)

end

/-- Settles O44: driving the followers of a source, or one FIXED line, is writing the lines and handing
on what differs. -/
theorem outputLinesFollow : Obligations.OutputLinesFollow := by
  refine ⟨fun src value s running =>
      ⟨?fixedSource, fun followed => outputLineSourceChange_followed running followed value⟩,
    fun l tag k v s running =>
      ⟨outputSet_of_following running v, outputSet_of_fixed running v,
        fun n m => outputSet_badField running⟩⟩
  case fixedSource =>
    rintro rfl
    exact outputLineSourceChange_fixed running value

end Sys2Proof.Proofs
end

section
/-! SUPPORT. The footprint of the operations and commands: the parts of the state that the laws read, and
which of them each operation can change. What reports, replies, transmitters and notices that join the
others do to a part counts as no change of it. -/

open Sys2Proof Sys2Proof.Machine

namespace Sys2Proof.Proofs

/-! ### The parts the laws read -/

/-- The parts of the state that the laws read, and the queue of waiting commands. -/
inductive Part
  | axisSettings | routing | doorSettings | zoneSettings | inputs | axes | valves | station | doors
  | zones | calls | alarms | links | trims | keyReleases | stopNotices | holderNotices | pending
  deriving DecidableEq

/-- Two axis records agree in what the laws read of one. -/
structure AxisAlike (x y : AxisRecord) : Prop where
  state : y.state = x.state
  c : y.c = x.c
  staged : y.staged = x.staged
  direction : y.direction.isSome = x.direction.isSome
  running : y.running?.isSome = x.running?.isSome
  warning : y.warning.isSome = x.warning.isSome
  motionTimer : y.motionTimer.isSome = x.motionTimer.isSome
  stopOutcome : y.stopOutcome.isSome = x.stopOutcome.isSome
  tripKind : y.tripKind.isSome = x.tripKind.isSome

/-- Two stations agree but for deadlines and the active flags. -/
structure StationAlike (x y : Station) : Prop where
  holder : ∀ a : Fin 4, y.auth[a].holder = x.auth[a].holder
  requester : ∀ a : Fin 4,
    y.auth[a].request.map (·.requester) = x.auth[a].request.map (·.requester)
  claims : y.claims = x.claims
  hold : y.hold = x.hold
  level : y.level = x.level

/-- A link controller has at most queued, placed and transmitted. -/
structure LinkSpeaks (c d : LinkController) : Prop where
  queue : c.queue.length ≤ 32 → d.queue.length ≤ 32
  state : d.state = c.state
  timer : d.timer.isSome = c.timer.isSome
  receiver : d.receiver = c.receiver
  assembly : d.assembly.isNone = c.assembly.isNone
  waiting : c.waiting = none → d.waiting = none

/-- Notices of the withdrawal of a zone's lanes. -/
def isTrim : Instr → Bool
  | .recallTrim _ => true
  | _ => false

/-- Notices of the STOP line. -/
def isStopNotice : Instr → Bool
  | .stopLineChange .. => true
  | _ => false

/-- Notices of a change of holder. -/
def isHolderNotice : Instr → Bool
  | .holderChange .. => true
  | _ => false

/-- The notices that a test picks are still on their way. -/
def KeepsNotices (p : Instr → Bool) (s t : State) : Prop :=
  ∀ n ∈ s.handed, p n = true → n ∈ t.handed

/-- What it is for a part to stand in `t` as the laws read it in `s`. -/
def Part.Kept : Part → State → State → Prop
  | .axisSettings, s, t => t.settings.axes = s.settings.axes
  | .routing, s, t => t.settings.routing = s.settings.routing
  | .doorSettings, s, t => t.settings.doors = s.settings.doors
  | .zoneSettings, s, t => t.settings.zones = s.settings.zones
  | .inputs, s, t => t.inputs = s.inputs
  | .axes, s, t => ∀ a : Fin 4, AxisAlike s.axes[a] t.axes[a]
  | .valves, s, t => ∀ a : Fin 4, t.valves[a].command = s.valves[a].command
  | .station, s, t => StationAlike s.station t.station
  | .doors, s, t => ∀ d : Fin 32, t.doors[d].state = s.doors[d].state
  | .zones, s, t => ∀ z : Fin 8, t.zones[z].alarm = s.zones[z].alarm
  | .calls, s, t => t.calls.table = s.calls.table ∧ t.calls.number = s.calls.number ∧
      t.calls.sequence = s.calls.sequence
  | .alarms, s, t => t.alarms.list = s.alarms.list ∧ t.alarms.flags = s.alarms.flags ∧
      t.alarms.alarm = s.alarms.alarm ∧ t.alarms.stop = s.alarms.stop
  | .links, s, t => ∀ l : Link, LinkSpeaks (s.links.get l) (t.links.get l)
  | .trims, s, t => KeepsNotices isTrim s t
  | .keyReleases, s, t => KeepsNotices keyNotice s t
  | .stopNotices, s, t => KeepsNotices isStopNotice s t
  | .holderNotices, s, t => KeepsNotices isHolderNotice s t
  | .pending, s, t => t.pending = s.pending

theorem AxisAlike.refl (x : AxisRecord) : AxisAlike x x := ⟨rfl, rfl, rfl, rfl, rfl, rfl, rfl, rfl, rfl⟩

theorem AxisAlike.trans {x y z : AxisRecord} (h : AxisAlike x y) (k : AxisAlike y z) :
    AxisAlike x z where
  state := k.state.trans h.state
  c := k.c.trans h.c
  staged := k.staged.trans h.staged
  direction := k.direction.trans h.direction
  running := k.running.trans h.running
  warning := k.warning.trans h.warning
  motionTimer := k.motionTimer.trans h.motionTimer
  stopOutcome := k.stopOutcome.trans h.stopOutcome
  tripKind := k.tripKind.trans h.tripKind

theorem StationAlike.refl (x : Station) : StationAlike x x :=
  ⟨fun _ => rfl, fun _ => rfl, rfl, rfl, rfl⟩

theorem StationAlike.trans {x y z : Station} (h : StationAlike x y) (k : StationAlike y z) :
    StationAlike x z where
  holder a := (k.holder a).trans (h.holder a)
  requester a := (k.requester a).trans (h.requester a)
  claims := k.claims.trans h.claims
  hold := k.hold.trans h.hold
  level := k.level.trans h.level

theorem LinkSpeaks.refl (c : LinkController) : LinkSpeaks c c := ⟨id, rfl, rfl, rfl, rfl, id⟩

theorem LinkSpeaks.trans {b c d : LinkController} (h : LinkSpeaks b c) (k : LinkSpeaks c d) :
    LinkSpeaks b d where
  queue := k.queue ∘ h.queue
  state := k.state.trans h.state
  timer := k.timer.trans h.timer
  receiver := k.receiver.trans h.receiver
  assembly := k.assembly.trans h.assembly
  waiting := k.waiting ∘ h.waiting

theorem KeepsNotices.refl (p : Instr → Bool) (s : State) : KeepsNotices p s s := fun _ h _ => h

theorem KeepsNotices.trans {p : Instr → Bool} {s t u : State} (h : KeepsNotices p s t)
    (k : KeepsNotices p t u) : KeepsNotices p s u := fun n hn picked => k n (h n hn picked) picked

theorem Part.Kept.refl (p : Part) (s : State) : p.Kept s s := by
  cases p with
  | axes => exact fun _ => AxisAlike.refl _
  | station => exact StationAlike.refl _
  | links => exact fun _ => LinkSpeaks.refl _
  | trims | keyReleases | stopNotices | holderNotices => exact KeepsNotices.refl _ s
  | calls => exact ⟨rfl, rfl, rfl⟩
  | alarms => exact ⟨rfl, rfl, rfl, rfl⟩
  | valves | doors | zones => exact fun _ => rfl
  | axisSettings | routing | doorSettings | zoneSettings | inputs | pending => exact rfl

theorem Part.Kept.trans {p : Part} {s t u : State} (h : p.Kept s t) (k : p.Kept t u) :
    p.Kept s u := by
  cases p with
  | axes => exact fun a => (h a).trans (k a)
  | station => exact StationAlike.trans h k
  | links => exact fun l => (h l).trans (k l)
  | trims | keyReleases | stopNotices | holderNotices => exact KeepsNotices.trans h k
  | calls =>
    obtain ⟨h₁, h₂, h₃⟩ := h
    obtain ⟨k₁, k₂, k₃⟩ := k
    exact ⟨k₁.trans h₁, k₂.trans h₂, k₃.trans h₃⟩
  | alarms =>
    obtain ⟨h₁, h₂, h₃, h₄⟩ := h
    obtain ⟨k₁, k₂, k₃, k₄⟩ := k
    exact ⟨k₁.trans h₁, k₂.trans h₂, k₃.trans h₃, k₄.trans h₄⟩
  | valves | doors | zones => exact fun i => (k i).trans (h i)
  | axisSettings | routing | doorSettings | zoneSettings | inputs | pending => exact Eq.trans k h

/-! ### Footprints -/

/-- From `s` to `t` nothing changes but the parts `ps`. -/
def Within (ps : List Part) (s t : State) : Prop := ∀ p, p ∉ ps → p.Kept s t

theorem Within.refl {ps : List Part} {s : State} : Within ps s s := fun p _ => .refl p s

theorem Within.mono {ps qs : List Part} {s t : State} (h : Within qs s t) (sub : qs ⊆ ps) :
    Within ps s t := fun p hp => h p fun hq => hp (sub hq)

/-- One change after another. -/
theorem Within.then {ps qs : List Part} {s t u : State} (h : Within ps s t) (k : Within qs t u) :
    Within (ps ++ qs) s u :=
  fun p hp => (h p fun hps => hp (List.mem_append_left _ hps)).trans
    (k p fun hqs => hp (List.mem_append_right _ hqs))

/-- A change, and then none of what the laws read. -/
theorem Within.quietly {ps : List Part} {s t u : State} (h : Within ps s t) (k : Within [] t u) :
    Within ps s u := fun p hp => (h p hp).trans (k p List.not_mem_nil)

theorem Within.foldl {ps : List Part} {α : Type} {f : State → α → State}
    (h : ∀ s x, Within ps s (f s x)) (s : State) (xs : List α) : Within ps s (xs.foldl f s) := by
  induction xs generalizing s with
  | nil => exact .refl
  | cons x xs ih => exact fun p hp => (h s x p hp).trans (ih _ p hp)

theorem Within.ite {ps : List Part} {s t u : State} {c : Prop} [Decidable c] (h : Within ps s t)
    (k : Within ps s u) : Within ps s (if c then t else u) := by
  split
  · exact h
  · exact k

/-! ### The shared updates -/

theorem within_modChannel {s : State} {k : Fin 12} {f : ChannelRecord → ChannelRecord} :
    Within [] s (s.modChannel k f) := by
  intro p _
  have kept := Part.Kept.refl p s
  cases p <;> exact kept

theorem within_modAxis {s : State} {a : Fin 4} {f : AxisRecord → AxisRecord} :
    Within [.axes] s (s.modAxis a f) := by
  intro p hp
  have kept := Part.Kept.refl p s
  cases p <;> first | exact kept | exact absurd (List.mem_singleton_self _) hp

/-- A change of an axis record that the laws do not see. -/
theorem within_modAxis_alike {s : State} {a : Fin 4} {f : AxisRecord → AxisRecord}
    (alike : AxisAlike s.axes[a] (f s.axes[a])) : Within [] s (s.modAxis a f) := by
  intro p hp
  by_cases at' : p = .axes
  · subst at'
    intro b
    by_cases same : b = a
    · subst same
      rwa [State.modAxis_axes, upd_get_self]
    · simpa [upd_get_other _ _ _ _ same] using AxisAlike.refl _
  · exact within_modAxis p (by simpa using at')

theorem within_modValve {s : State} {a : Fin 4} {f : Generator → Generator} :
    Within [.valves] s (s.modValve a f) := by
  intro p hp
  have kept := Part.Kept.refl p s
  cases p <;> first | exact kept | exact absurd (List.mem_singleton_self _) hp

/-- A change of a generator that leaves its pending command. -/
theorem within_modValve_command {s : State} {a : Fin 4} {f : Generator → Generator}
    (same : (f s.valves[a]).command = s.valves[a].command) : Within [] s (s.modValve a f) := by
  intro p hp
  by_cases at' : p = .valves
  · subst at'
    intro b
    by_cases ab : b = a
    · subst ab
      rwa [State.modValve_valves, upd_get_self]
    · simp [upd_get_other _ _ _ _ ab]
  · exact within_modValve p (by simpa using at')

theorem within_modAuth {s : State} {a : Fin 4} {f : Authority → Authority} :
    Within [.station] s (s.modAuth a f) := by
  intro p hp
  have kept := Part.Kept.refl p s
  cases p <;> first | exact kept | exact absurd (List.mem_singleton_self _) hp

theorem within_modDoor {s : State} {d : Fin 32} {f : DoorRecord → DoorRecord} :
    Within [.doors] s (s.modDoor d f) := by
  intro p hp
  have kept := Part.Kept.refl p s
  cases p <;> first | exact kept | exact absurd (List.mem_singleton_self _) hp

/-- A change of a door record that leaves its state. -/
theorem within_modDoor_state {s : State} {d : Fin 32} {f : DoorRecord → DoorRecord}
    (same : (f s.doors[d]).state = s.doors[d].state) : Within [] s (s.modDoor d f) := by
  intro p hp
  by_cases at' : p = .doors
  · subst at'
    intro b
    by_cases ab : b = d
    · subst ab
      rwa [State.modDoor_doors, upd_get_self]
    · simp [upd_get_other _ _ _ _ ab]
  · exact within_modDoor p (by simpa using at')

theorem within_modZone {s : State} {z : Fin 8} {f : ZoneRecord → ZoneRecord} :
    Within [.zones] s (s.modZone z f) := by
  intro p hp
  have kept := Part.Kept.refl p s
  cases p <;> first | exact kept | exact absurd (List.mem_singleton_self _) hp

/-- A change of a zone record that leaves its state. -/
theorem within_modZone_alarm {s : State} {z : Fin 8} {f : ZoneRecord → ZoneRecord}
    (same : (f s.zones[z]).alarm = s.zones[z].alarm) : Within [] s (s.modZone z f) := by
  intro p hp
  by_cases at' : p = .zones
  · subst at'
    intro b
    by_cases ab : b = z
    · subst ab
      rwa [State.modZone_zones, upd_get_self]
    · simp [upd_get_other _ _ _ _ ab]
  · exact within_modZone p (by simpa using at')

theorem within_modLink {s : State} {l : Link} {f : LinkController → LinkController} :
    Within [.links] s (s.modLink l f) := by
  intro p hp
  have kept := Part.Kept.refl p s
  cases p <;> first | exact kept | exact absurd (List.mem_singleton_self _) hp

/-- A link controller that at most queues, places and transmits. -/
theorem within_modLink_speaks {s : State} {l : Link} {f : LinkController → LinkController}
    (speaks : LinkSpeaks (s.links.get l) (f (s.links.get l))) : Within [] s (s.modLink l f) := by
  intro p hp
  by_cases at' : p = .links
  · subst at'
    intro m
    by_cases same : m = l
    · subst same
      simpa using speaks
    · simpa [pair_get_set_other _ _ _ _ same] using LinkSpeaks.refl _
  · exact within_modLink p (by simpa using at')

theorem within_countAxis {s : State} {a : Fin 4} {f : AxisCounters → AxisCounters} :
    Within [] s (s.countAxis a f) := by
  intro p _
  have kept := Part.Kept.refl p s
  cases p <;> exact kept

theorem within_countDoor {s : State} {d : Fin 32} {f : DoorCounters → DoorCounters} :
    Within [] s (s.countDoor d f) := by
  intro p _
  have kept := Part.Kept.refl p s
  cases p <;> exact kept

theorem within_countLink {s : State} {l : Link} {f : LinkCounters → LinkCounters} :
    Within [] s (s.countLink l f) := by
  intro p _
  have kept := Part.Kept.refl p s
  cases p <;> exact kept

theorem keepsNotices_hand (p : Instr → Bool) (s : State) (ns : List Instr) :
    KeepsNotices p s (s.hand ns) := fun _ h _ => List.mem_append_left _ h

theorem within_hand {s : State} {ns : List Instr} : Within [] s (s.hand ns) := by
  intro p _
  have kept := Part.Kept.refl p s
  cases p with
  | trims | keyReleases | stopNotices | holderNotices => exact keepsNotices_hand _ s ns
  | _ => exact kept

/-- Notices taken as earlier leave the notices of other kinds on their way. -/
theorem keepsNotices_takenFirst {p q : Instr → Bool} (s : State)
    (apart : ∀ n, p n = true → q n = false) : KeepsNotices p s (s.takenFirst q) :=
  fun n h picked => mem_takenFirst.2 ⟨h, apart n picked⟩

theorem within_takenFirst {s : State} {q : Instr → Bool} :
    Within [.trims, .keyReleases, .stopNotices, .holderNotices] s (s.takenFirst q) := by
  intro p hp
  have kept := Part.Kept.refl p s
  cases p <;> first | exact kept | exact absurd (by decide) hp

/-- The reports of one link leave its queue within its limit, and nothing else but its counters. -/
theorem linkSpeaks_enqueue (c : LinkController) (r : Report) : LinkSpeaks c (c.enqueue r) :=
  ⟨enqueue_length, rfl, rfl, rfl, rfl, id⟩

theorem within_reportOn {s : State} {l : Link} {b : ReportBody} : Within [] s (s.reportOn l b) := by
  unfold State.reportOn
  refine .quietly ?_ within_countLink
  exact within_modLink_speaks (linkSpeaks_enqueue _ _)

theorem within_report {s : State} {b : ReportBody} : Within [] s (s.report b) :=
  within_reportOn.quietly within_reportOn

theorem linkSpeaks_transmit (c : LinkController) : LinkSpeaks c c.transmit := by
  unfold LinkController.transmit
  split
  · exact .refl c
  · exact ⟨id, rfl, rfl, rfl, rfl, id⟩
  · split
    · exact .refl c
    · rename_i r rest queue
      split
      · refine ⟨fun h => ?_, rfl, rfl, rfl, rfl, id⟩
        rw [queue, List.length_cons] at h
        exact Nat.le_of_succ_le h
      · exact .refl c

theorem within_pump {s : State} : Within [] s s.pump := by
  intro p _
  have kept := Part.Kept.refl p s
  cases p with
  | links => exact fun l => by cases l <;> exact linkSpeaks_transmit _
  | _ => exact kept

theorem within_placeReply {s : State} {l : Link} {r : Reply} : Within [] s (s.placeReply l r) :=
  within_modLink_speaks ⟨id, rfl, rfl, rfl, rfl, id⟩

theorem linkSpeaks_release (c : LinkController) (l : Link) (i : Instr) :
    LinkSpeaks c (c.release l i) :=
  ⟨id, rfl, rfl, rfl, rfl, fun none => by rw [LinkController.release, none]⟩

theorem linkSpeaks_freeSlot (c : LinkController) : LinkSpeaks c c.freeSlot := by
  unfold LinkController.freeSlot
  split
  · exact ⟨id, rfl, rfl, rfl, rfl, id⟩
  · exact .refl c

theorem within_openRequest {s : State} {l : Link} {i : Instr} : Within [] s (s.openRequest l i) :=
  within_modLink_speaks
    (.trans (linkSpeaks_release _ l i) (linkSpeaks_freeSlot _))

/-- A notice taken: every part but those of the notices stands. -/
theorem within_taken {s : State} {i : Instr} :
    Within [.trims, .keyReleases, .stopNotices, .holderNotices] s (s.taken i) := by
  intro p hp
  have kept := Part.Kept.refl p s
  cases p <;> first | exact kept | exact absurd (by decide) hp

/-- A notice of another kind taken. -/
theorem keepsNotices_taken {p : Instr → Bool} (s : State) {i : Instr} (apart : p i = false) :
    KeepsNotices p s (s.taken i) := by
  intro n h picked
  refine (List.mem_erase_of_ne ?_).2 h
  rintro rfl
  exact Bool.noConfusion (picked.symm.trans apart)

/-! ### The frame of a command -/

/-- An event stands still, or acts once its notice is taken. -/
theorem runEvent_within {ps : List Part} {i : Instr} {s t : State} {f : State → State}
    (h : runEvent i s f = .next t) (k : ∀ u, Within ps u (f u)) : t = s ∨ Within ps (s.taken i) t := by
  rcases runEvent_cases h with ⟨-, rfl⟩ | ⟨-, rfl⟩
  · exact .inr ((k _).quietly within_pump)
  · exact .inl rfl

theorem within_of_taken {ps : List Part} {s t : State} (i : Instr) (h : Within ps s t) :
    Within ps (s.taken i) t := by
  intro p hp
  have kept := h p hp
  cases p with
  | trims | keyReleases | stopNotices | holderNotices =>
    exact fun n hn picked => kept n (List.mem_of_mem_erase hn) picked
  | _ => exact kept

/-- A request stands still, or acts by its rule. -/
theorem runRequest_within {ps : List Part} {i : Instr} {l : Link} {tag : Byte} {s t : State}
    {f : State → State × ReplyData} (h : runRequest i l tag s f = .next t)
    (k : ∀ u, Within ps u (f u).1) : t = s ∨ Within ps (s.taken i) t := by
  rcases runRequest_cases h with ⟨-, rfl⟩ | ⟨-, rfl⟩
  · have acted : Within ps s (f (s.openRequest l i)).1 :=
      fun p hp => (within_openRequest p List.not_mem_nil).trans (k _ p hp)
    exact .inr (within_of_taken i ((acted.quietly within_placeReply).quietly within_pump))
  · exact .inl rfl

end Sys2Proof.Proofs
end

section
/-! SUPPORT. The footprint of each operation, block by block. -/

open Sys2Proof Sys2Proof.Machine

namespace Sys2Proof.Proofs

/-! ### What no law reads -/

/-- Changes of the blocks and counters that no law reads. -/
theorem within_unread {s : State} {power : Power} {store : Store} {clock : DeckTime} {uptime : ℕ}
    {counters : Counters} {channels : Vector ChannelRecord 12} {chain : DoorChain}
    {openCounts : OpenCounts} {evaluator : Evaluator} {scanner : Scanner} :
    Within [] s { s with
      power, store, clock, uptime, counters, channels, chain, openCounts, evaluator, scanner } := by
  intro p _
  have kept := Part.Kept.refl p s
  cases p <;> exact kept

/-- Changes of the output lines. -/
theorem within_lines {s : State} {lines : Vector OutLine 8} :
    Within [] s { s with alarms := { s.alarms with lines } } := by
  intro p _
  have kept := Part.Kept.refl p s
  cases p <;> exact kept

/-- Changes of the trip lines, the list and the flags. -/
theorem within_alarms {s : State} {alarms : AlarmUnit} :
    Within [.alarms] s { s with alarms } := by
  intro p hp
  have kept := Part.Kept.refl p s
  cases p <;> first | exact kept | exact absurd (List.mem_singleton_self _) hp

/-- Changes of the station controller. -/
theorem within_station {s : State} {station : Station} : Within [.station] s { s with station } := by
  intro p hp
  have kept := Part.Kept.refl p s
  cases p <;> first | exact kept | exact absurd (List.mem_singleton_self _) hp

/-- Changes of the active flags alone. -/
theorem within_active {s : State} {active : Vector Bool 4} :
    Within [] s { s with station := { s.station with active } } := by
  intro p _
  have kept := Part.Kept.refl p s
  cases p with
  | station => exact ⟨fun _ => rfl, fun _ => rfl, rfl, rfl, rfl⟩
  | _ => exact kept

/-- Changes of the call table. -/
theorem within_calls {s : State} {calls : CallTable} : Within [.calls] s { s with calls } := by
  intro p hp
  have kept := Part.Kept.refl p s
  cases p <;> first | exact kept | exact absurd (List.mem_singleton_self _) hp

/-- Changes of the CHIME line and of the removed-call list. -/
theorem within_chime {s : State} {chime : Bool} {chimeTimer : Option ℕ} {removed : List RemovedCall} :
    Within [] s { s with calls := { s.calls with chime, chimeTimer, removed } } := by
  intro p _
  have kept := Part.Kept.refl p s
  cases p <;> exact kept

/-- Changes of the inputs. -/
theorem within_inputs {s : State} {inputs : InputUnit} : Within [.inputs] s { s with inputs } := by
  intro p hp
  have kept := Part.Kept.refl p s
  cases p <;> first | exact kept | exact absurd (List.mem_singleton_self _) hp

/-- Changes of settings that no law reads. -/
theorem within_settings {s : State} {oil : Fin 12} {channels : Vector ChannelSettings 12}
    {boards blanking : ℕ} {patterns : Vector Segments 64} {terms : Vector TermSettings 64}
    {permissives : Vector (List PermEntry) 16} {outputs : Vector OutputSettings 8}
    {supervision : Pair ℕ} :
    Within [] s { s with settings := { s.settings with
      oil, channels, boards, blanking, patterns, terms, permissives, outputs, supervision } } := by
  intro p _
  have kept := Part.Kept.refl p s
  cases p <;> exact kept

theorem within_axisSettings {s : State} {axes : Vector AxisSettings 4} :
    Within [.axisSettings] s { s with settings := { s.settings with axes } } := by
  intro p hp
  have kept := Part.Kept.refl p s
  cases p <;> first | exact kept | exact absurd (List.mem_singleton_self _) hp

theorem within_doorSettings {s : State} {doors : Vector DoorSettings 32} :
    Within [.doorSettings] s { s with settings := { s.settings with doors } } := by
  intro p hp
  have kept := Part.Kept.refl p s
  cases p <;> first | exact kept | exact absurd (List.mem_singleton_self _) hp

theorem within_zoneSettings {s : State} {zones : Vector ZoneSettings 8} :
    Within [.zoneSettings] s { s with settings := { s.settings with zones } } := by
  intro p hp
  have kept := Part.Kept.refl p s
  cases p <;> first | exact kept | exact absurd (List.mem_singleton_self _) hp

theorem within_routing {s : State} {routing : Routing} :
    Within [.routing] s { s with settings := { s.settings with routing } } := by
  intro p hp
  have kept := Part.Kept.refl p s
  cases p <;> first | exact kept | exact absurd (List.mem_singleton_self _) hp

/-- A notice taken that no law reads. -/
theorem within_taken_unread {s : State} {i : Instr} (trim : isTrim i = false)
    (key : keyNotice i = false) (stop : isStopNotice i = false) (holder : isHolderNotice i = false) :
    Within [] s (s.taken i) := by
  intro p _
  have kept := Part.Kept.refl p s
  cases p with
  | trims => exact keepsNotices_taken s trim
  | keyReleases => exact keepsNotices_taken s key
  | stopNotices => exact keepsNotices_taken s stop
  | holderNotices => exact keepsNotices_taken s holder
  | _ => exact kept

/-! ### Permissive evaluator and board scanner -/

theorem within_announceSlot {s : State} {src : Option Source} {p : Fin 16} :
    Within [] s (s.announceSlot src p) := (within_hand.then within_report).mono (by decide)

theorem within_reslot {s : State} {values : Vector Bool 64} {touched : Fin 16 → Bool}
    {src : Option Source} : Within [] s (s.reslot values touched src) :=
  (within_unread.then (Within.foldl (fun _ _ => within_announceSlot) _ _)).mono (by decide)

theorem within_writeTerm {s : State} {t : Fin 64} {x : TermSettings} :
    Within [] s (s.writeTerm t x) :=
  (within_settings.then within_unread |>.then within_reslot).mono (by decide)

theorem within_writeList {s : State} {p : Fin 16} {es : List PermEntry} :
    Within [] s (s.writeList p es) :=
  (within_settings.then within_unread |>.then within_reslot).mono (by decide)

theorem within_changeButton {s : State} {n : Fin 16} {pressed : Bool} :
    Within [] s (s.changeButton n pressed) :=
  (within_unread.then within_hand |>.then within_report).mono (by decide)

theorem within_sampleButton {s : State} {n : Fin 16} {level : Bool} :
    Within [] s (s.sampleButton n level) :=
  .ite within_unread (.ite within_unread within_changeButton)

theorem within_clearBoard {s : State} {b : Fin 16} : Within [] s (s.clearBoard b) :=
  .ite ((within_unread.then within_changeButton).mono (by decide))
    ((within_unread.then within_unread).mono (by decide))

theorem within_clearBoardsFrom {s : State} {n : ℕ} : Within [] s (s.clearBoardsFrom n) :=
  Within.foldl (fun _ _ => within_clearBoard) _ _

theorem within_writePattern {s : State} {p : Fin 64} {x : Segments} :
    Within [] s (s.writePattern p x) := (within_settings.then within_unread).mono (by decide)

/-! ### Station controller -/

theorem within_passHolder {s : State} {a : Fin 4} {new : Option Link} {cause : StationCause}
    {reason : HolderReason} : Within [.station] s (s.passHolder a new cause reason) :=
  (within_modAuth.then within_report |>.then within_hand).mono (by decide)

theorem within_answerRequest {s : State} {a : Fin 4} {l : Link} {answer : StationAnswer} :
    Within [.station] s (s.answerRequest a l answer) :=
  (within_modAuth.then within_reportOn).mono (by decide)

theorem within_requestStation {s : State} {l h : Link} {a : Fin 4} :
    Within [.station] s (s.requestStation l h a) :=
  (within_modAuth.then within_reportOn).mono (by decide)

theorem within_lossAtAxis {s : State} {l : Link} {a : Fin 4} :
    Within [.station] s (s.lossAtAxis l a) := by
  unfold State.lossAtAxis
  split
  · exact .refl
  · exact .ite within_passHolder .refl
  · exact .ite within_passHolder (.ite within_answerRequest .refl)

theorem within_loseLink {s : State} {l : Link} : Within [.station] s (s.loseLink l) :=
  Within.foldl (fun _ _ => within_lossAtAxis) _ _

theorem within_endLoss {s : State} {l : Link} : Within [.station] s (s.endLoss l) :=
  .ite (((within_taken_unread rfl rfl rfl rfl).then within_loseLink).mono (by decide)) .refl

theorem within_setHold {s : State} {h : HoldStatus} : Within [.station] s (s.setHold h) :=
  (within_station.then within_hand).mono (by decide)

theorem within_reportClaims {s : State} : Within [] s s.reportClaims := within_report

theorem within_reportEstablished {s : State} : Within [] s s.reportEstablished := within_report

theorem within_setClaims {s : State} {c : Pair Bool} : Within [.station] s (s.setClaims c) :=
  within_station

theorem seenNotice_apart {n : Instr} (h : seenNotice n = true) :
    isTrim n = false ∧ keyNotice n = false ∧ isStopNotice n = false ∧ isHolderNotice n = false := by
  cases n <;> simp_all [seenNotice, isTrim, keyNotice, isStopNotice, isHolderNotice]

/-- Notices of changes of axis state are of no kind the laws read. -/
theorem within_takenFirst_seen {s : State} : Within [] s (s.takenFirst seenNotice) := by
  intro p _
  have kept := Part.Kept.refl p s
  have apart (q : Instr → Bool) (h : ∀ n, seenNotice n = true → q n = false) :
      KeepsNotices q s (s.takenFirst seenNotice) :=
    keepsNotices_takenFirst s fun n hn => by
      by_contra seen
      exact absurd (hn.symm.trans (h n (by simpa using seen))) (by decide)
  cases p with
  | trims => exact apart _ fun n h => (seenNotice_apart h).1
  | keyReleases => exact apart _ fun n h => (seenNotice_apart h).2.1
  | stopNotices => exact apart _ fun n h => (seenNotice_apart h).2.2.1
  | holderNotices => exact apart _ fun n h => (seenNotice_apart h).2.2.2
  | _ => exact kept

theorem within_hearAxes {s : State} : Within [] s s.hearAxes := by
  unfold State.hearAxes
  rw [hear_frame]
  exact (within_takenFirst_seen.then within_active).mono (by decide)

theorem within_claim {s : State} {l : Link} : Within [.station] s (s.claim l) := by
  have told := within_setClaims (s := s) (c := s.station.claims.set l true)
  refine .ite ((told.then within_reportClaims).mono (by decide)) ?_
  have heard := told.then within_hearAxes
    |>.then (within_hand (ns := (List.finRange 4).map Instr.deckHoldNotice))
  exact .ite ((heard.then within_setHold |>.then within_reportClaims).mono (by decide))
    ((heard.then within_setHold |>.then within_reportClaims |>.then within_reportEstablished).mono
      (by decide))

theorem within_resume {s : State} {l : Link} {both : Bool} :
    Within [.station] s (s.resume l both) := by
  refine .ite .refl ?_
  refine .quietly ?_ within_reportClaims
  have told := within_setClaims (s := s) (c := resumed s.station.claims l both)
  exact .ite told ((told.then within_setHold).mono (by decide))

theorem within_raiseLevel {s : State} {l : Link} :
    Within [.station, .keyReleases] s (s.raiseLevel l) := by
  refine .quietly ?_ within_report
  refine (Within.then (ps := [.keyReleases]) ?_ within_station).mono (by decide)
  intro p hp
  have kept := Part.Kept.refl p s
  have apart (q : Instr → Bool) (h : ∀ n, q n = true → keyNotice n = false) :
      KeepsNotices q s (s.takenFirst keyNotice) := keepsNotices_takenFirst s h
  cases p with
  | trims => exact apart _ fun n => by cases n <;> simp [isTrim, keyNotice]
  | keyReleases => exact absurd (by decide) hp
  | stopNotices => exact apart _ fun n => by cases n <;> simp [isStopNotice, keyNotice]
  | holderNotices => exact apart _ fun n => by cases n <;> simp [isHolderNotice, keyNotice]
  | _ => exact kept

theorem within_fallLevel {s : State} {l : Link} {cause : LevelCause} :
    Within [.station] s (s.fallLevel l cause) :=
  (within_station.then within_report |>.then within_hand).mono (by decide)

theorem within_dropLevel {s : State} {l : Link} {cause : LevelCause} :
    Within [.station] s (s.dropLevel l cause) := .ite within_fallLevel .refl

/-! ### Link controllers -/

theorem within_countCrc {s : State} {l : Link} : Within [] s (s.countCrc l) := within_countLink

theorem within_discardFrame {s : State} {l : Link} : Within [.links] s (s.discardFrame l) :=
  (within_modLink.then within_countCrc).mono (by decide)

theorem within_supervise {s : State} {l : Link} : Within [.station, .links] s (s.supervise l) :=
  have fed := within_endLoss (s := s) (l := l) |>.then within_modLink
  .ite (fed.quietly within_hand) fed

theorem within_acceptFrame {s : State} {l : Link} {f : Frame} :
    Within [.links] s (s.acceptFrame l f) := .ite within_modLink (within_countLink.mono (by decide))

theorem within_completeFrame {s : State} {l : Link} {f : Frame} {crc : BitVec 16} :
    Within [.station, .links] s (s.completeFrame l f crc) :=
  .ite ((within_modLink.then within_countLink |>.then within_supervise
    |>.then within_acceptFrame).mono (by decide)) ((within_modLink.then within_countCrc).mono (by decide))

theorem within_bodyByte {s : State} {l : Link} {bs : List Byte} :
    Within [.station, .links] s (s.bodyByte l bs) :=
  .ite (within_modLink.mono (by decide)) within_completeFrame

theorem within_restartLink {s : State} {l : Link} : Within [.links, .station] s (s.restartLink l) := by
  refine Within.then (ps := [.links]) ?_ within_dropLevel
  exact .ite ((within_modLink.then within_hand).mono (by decide)) within_modLink

/-! ### Alarm unit -/

theorem within_driveLine {s : State} {k : Fin 8} {value : Bool} : Within [] s (s.driveLine k value) :=
  .ite .refl ((within_lines.then within_hand).mono (by decide))

theorem within_driveFollowers {s : State} {src : OutSource} {value : Bool} :
    Within [] s (s.driveFollowers src value) := Within.foldl (fun _ _ => within_driveLine) _ _

theorem within_setAlarmLine {s : State} {level : Bool} : Within [.alarms] s (s.setAlarmLine level) :=
  .ite .refl ((within_alarms.then within_report).mono (by decide))

theorem within_setStopLine {s : State} {level : Bool} : Within [.alarms] s (s.setStopLine level) :=
  .ite .refl ((within_alarms.then within_report).mono (by decide))

theorem within_evalLines {s : State} : Within [.alarms] s s.evalLines := by
  have set : Within [.alarms] s ((s.setAlarmLine s.alarmNow).setStopLine
      (s.setAlarmLine s.alarmNow).stopNow) := (within_setAlarmLine.then within_setStopLine).mono (by decide)
  unfold State.evalLines
  dsimp only
  split_ifs
  · exact set
  · exact set.quietly within_hand
  · exact set.quietly within_driveFollowers
  · exact (set.quietly within_hand).quietly within_driveFollowers

theorem within_changeEntry {s : State} {code : Fin 60} {new : Option AlarmEntry} {cause : AlarmCause} :
    Within [.alarms] s (s.changeEntry code new cause) :=
  .ite .refl ((within_alarms.then within_report).mono (by decide))

theorem within_setFlag {s : State} {src : CondSource} {active : Bool} :
    Within [.alarms] s (s.setFlag src active) :=
  .ite .refl ((within_alarms.then within_changeEntry |>.then within_evalLines).mono (by decide))

theorem within_raiseMomentary {s : State} {src : MomentarySource} :
    Within [.alarms] s (s.raiseMomentary src) := (within_changeEntry.then within_evalLines).mono (by decide)

theorem within_ackEntries {s : State} {codes : List (Fin 60)} :
    Within [.alarms] s (s.ackEntries codes) :=
  ((Within.foldl (fun _ _ => within_changeEntry) _ _).then within_evalLines).mono (by decide)

theorem within_setOutput {s : State} {k : Fin 8} {v : Bool} : Within [] s (s.setOutput k v) :=
  (within_lines.then within_driveLine).mono (by decide)

theorem within_applyOutput {s : State} {k : Fin 8} {old : OutputSettings} :
    Within [] s (s.applyOutput k old) := by
  have held : Within [] s (if s.settings.outputs[k].source = .fixed ∧ old.source ≠ .fixed then
      s.setHeld k s.settings.outputs[k].powerOn else s) := .ite within_lines .refl
  exact .ite held ((held.then within_driveLine).mono (by decide))

theorem within_rewriteOutput {s : State} {k : Fin 8} {x : OutputSettings} :
    Within [] s (s.rewriteOutput k x) := (within_settings.then within_applyOutput).mono (by decide)

theorem within_rebuildAlarms {s : State} : Within [.alarms] s s.rebuildAlarms :=
  (within_alarms.then within_evalLines).mono (by decide)

/-! ### Axis controllers -/

theorem within_setC {s : State} {a : Fin 4} {v : ℤ} : Within [.axes, .valves] s (s.setC a v) :=
  (within_modAxis.then within_modValve).mono (by decide)

theorem within_cut {s : State} {a : Fin 4} : Within [] s (s.cut a) := within_modValve_command rfl

theorem within_changeAxis {s : State} {a : Fin 4} {new : AxisState} {cause : Option MotionOutcome} :
    Within [.axes] s (s.changeAxis a new cause) :=
  (within_modAxis.then within_report |>.then within_hand).mono (by decide)

theorem within_openMotion {s : State} {a : Fin 4} {l : Link} {k : MotionKind} {target : Option ℤ} :
    Within [.axes] s (s.openMotion a l k target) := within_modAxis

theorem within_endMotion {s : State} {a : Fin 4} {o : MotionOutcome} :
    Within [.axes] s (s.endMotion a o) := by
  unfold State.endMotion
  split
  · exact (within_modAxis.then within_countAxis).mono (by decide)
  · exact .refl

theorem within_enterRest {s : State} {a : Fin 4} {rest : AxisState} {o : MotionOutcome} :
    Within [.axes, .valves] s (s.enterRest a rest o) := by
  have rested := (within_setC (s := s) (a := a) (v := 0)
    |>.then (within_modAxis (a := a) (f := AxisRecord.settled))
    |>.then (within_endMotion (a := a) (o := o))
    |>.then (within_changeAxis (a := a) (new := rest) (cause := some o))).mono
      (ps := [.axes, .valves]) (by decide)
  unfold State.enterRest
  dsimp only
  split
  · exact rested.quietly within_report
  · exact rested

theorem within_enterStopping {s : State} {a : Fin 4} {o : MotionOutcome} :
    Within [.axes, .valves] s (s.enterStopping a o) :=
  have stopping := within_modAxis (s := s) (a := a) (f := fun x =>
    { x with motionTimer := none, refresh := none, stopOutcome := some o })
    |>.then (within_changeAxis (a := a) (new := .stopping) (cause := some o))
  .ite ((stopping.then within_enterRest).mono (by decide)) (stopping.mono (by decide))

theorem within_endSession {s : State} {a : Fin 4} {o : MotionOutcome} :
    Within [.axes, .valves] s (s.endSession a o) :=
  (within_modAxis.then within_enterRest).mono (by decide)

theorem within_endTravel {s : State} {a : Fin 4} {o : MotionOutcome} :
    Within [.axes, .valves] s (s.endTravel a o) := by
  unfold State.endTravel
  split
  case h_1 => exact within_enterRest
  case h_2 | h_3 | h_4 => exact within_enterStopping
  all_goals exact .refl

theorem within_limitMet {s : State} {a : Fin 4} : Within [.axes, .valves] s (s.limitMet a) := by
  have cut := within_setC (s := s) (a := a) (v := 0) |>.quietly (within_cut (a := a))
  unfold State.limitMet
  dsimp only
  split
  case h_1 | h_2 | h_3 | h_4 => exact (cut.then within_enterRest).mono (by decide)
  all_goals exact cut

theorem within_drive {s : State} {a : Fin 4} {e : Option ℤ} :
    Within [.axes, .valves] s (s.drive a e) := (within_setC.then within_modAxis).mono (by decide)

theorem within_stoppingUpdate {s : State} {a : Fin 4} :
    Within [.axes, .valves] s (s.stoppingUpdate a) :=
  .ite within_limitMet (.ite ((within_drive.then within_enterRest).mono (by decide)) within_drive)

theorem within_stopUpdate {s : State} {a : Fin 4} {o : MotionOutcome} :
    Within [.axes, .valves] s (s.stopUpdate a o) :=
  .ite ((within_enterStopping.then within_stoppingUpdate).mono (by decide)) within_enterStopping

theorem within_settleStep {s : State} {a : Fin 4} {e : ℤ} :
    Within [.axes, .valves] s (s.settleStep a e) :=
  have driven := within_modAxis (s := s) (a := a) (f := fun x =>
    { x with settle := min (x.settle + 1) s.settings.axes[a].settleCount })
    |>.then (within_drive (a := a) (e := some e))
  .ite ((driven.then within_enterRest).mono (by decide)) (driven.mono (by decide))

theorem within_travel {s : State} {a : Fin 4} {new : AxisState} : Within [.axes] s (s.travel a new) :=
  (within_modAxis.then within_changeAxis).mono (by decide)

theorem within_settlingUpdate {s : State} {a : Fin 4} {angle : ℤ} :
    Within [.axes, .valves] s (s.settlingUpdate a angle) :=
  .ite within_settleStep
    (.ite ((within_travel.then within_drive).mono (by decide)) within_stopUpdate)

theorem within_movingUpdate {s : State} {a : Fin 4} {angle : ℤ} :
    Within [.axes, .valves] s (s.movingUpdate a angle) :=
  .ite ((within_travel.then within_settleStep).mono (by decide)) within_drive

theorem within_joggingUpdate {s : State} {a : Fin 4} {angle : Reading} :
    Within [.axes, .valves] s (s.joggingUpdate a angle) := .ite within_stopUpdate within_drive

theorem within_updateAxis {s : State} {a : Fin 4} {angle : Reading} :
    Within [.axes, .valves] s (s.updateAxis a angle) := by
  unfold State.updateAxis
  split
  case h_1 => exact .ite .refl (.ite within_limitMet within_movingUpdate)
  case h_2 => exact .ite .refl (.ite within_limitMet within_settlingUpdate)
  case h_3 => exact .ite within_limitMet within_joggingUpdate
  case h_4 => exact within_stoppingUpdate
  all_goals exact .refl

theorem within_trip {s : State} {a : Fin 4} {k : TripKind} :
    Within [.axes, .valves] s (s.trip a k) :=
  (within_cut.then within_modAxis |>.then within_countAxis |>.then within_enterRest
    |>.then within_hand).mono (by decide)

theorem within_checkPressure {s : State} {a : Fin 4} {p : ℤ} :
    Within [.axes, .valves] s (s.checkPressure a p) := by
  have checked := fun k c => within_modAxis (s := s) (a := a) (f := fun x =>
    { x with check := some k, confirm := c })
  unfold State.checkPressure
  dsimp only
  split
  · exact .ite (((checked _ _).then within_trip).mono (by decide)) ((checked _ _).mono (by decide))
  · exact (checked _ _).mono (by decide)

theorem within_pressureNotice {s : State} {a : Fin 4} {p : Reading} :
    Within [.axes, .valves] s (s.pressureNotice a p) :=
  .ite within_checkPressure (within_modAxis.mono (by decide))

theorem within_evalSensor {s : State} {a : Fin 4} : Within [] s (s.evalSensor a) :=
  .ite .refl
    ((within_modAxis_alike ⟨rfl, rfl, rfl, rfl, rfl, rfl, rfl, rfl, rfl⟩).quietly within_hand)

theorem within_angleLost {s : State} {a : Fin 4} : Within [.axes, .valves] s (s.angleLost a) := by
  unfold State.angleLost
  split
  case h_1 => exact within_enterRest
  case h_2 | h_3 => exact within_enterStopping
  all_goals exact .refl

theorem within_ifFitted {ps : List Part} {s : State} {a : Fin 4} {f : State → State}
    (h : Within ps s (f s)) : Within ps s (s.ifFitted a f) := .ite h .refl

theorem within_leaveIdle {s : State} {a : Fin 4} :
    Within [.stopNotices, .holderNotices] s (s.leaveIdle a) := by
  intro p hp
  have kept := Part.Kept.refl p s
  have apart (q : Instr → Bool) (h : ∀ n, q n = true → idleNotice a n = false) :
      KeepsNotices q s (s.leaveIdle a) := keepsNotices_takenFirst s h
  cases p with
  | trims => exact apart _ fun n => by cases n <;> simp [isTrim, idleNotice]
  | keyReleases => exact apart _ fun n => by cases n <;> simp [keyNotice, idleNotice]
  | stopNotices => exact absurd (by decide) hp
  | holderNotices => exact absurd (by decide) hp
  | _ => exact kept

theorem within_stopAxis {s : State} {a : Fin 4} : Within [.axes, .valves] s (s.stopAxis a) :=
  .ite ((within_modAxis.then within_setC).mono (by decide)) within_endTravel

theorem within_stopAll {s : State} : Within [.axes, .valves] s s.stopAll :=
  Within.foldl (fun _ _ => .ite within_stopAxis .refl) _ _

theorem within_startJog {s : State} {l : Link} {a : Fin 4} {d : Direction} :
    Within [.axes, .stopNotices, .holderNotices] s (s.startJog l a d) :=
  (within_leaveIdle.then within_modAxis |>.then within_openMotion |>.then within_changeAxis).mono (by decide)

theorem within_clearTrip {s : State} {a : Fin 4} : Within [.axes] s (s.clearTrip a) :=
  (within_modAxis.then within_changeAxis |>.then within_hand).mono (by decide)

theorem within_startSession {s : State} {a : Fin 4} :
    Within [.axes, .valves, .stopNotices, .holderNotices] s (s.startSession a) :=
  (within_leaveIdle.then within_setC |>.then within_modAxis |>.then within_changeAxis).mono (by decide)

/-! ### Measurement unit and door scan chain -/

theorem within_completion {s : State} {k : Fin 12} {raw : ℕ} : Within [] s (s.completion k raw) :=
  (within_modChannel.then within_hand).mono (by decide)

theorem within_rewriteChannel {s : State} {k : Fin 12} {x : ChannelSettings} :
    Within [] s (s.rewriteChannel k x) :=
  (within_settings.then within_modChannel |>.then within_hand).mono (by decide)

theorem within_sampleInput {s : State} {i : Input} {b : Bool} :
    Within [.inputs] s (s.sampleInput i b) :=
  .ite within_inputs ((within_inputs.then within_hand).mono (by decide))

/-! ### Doors and zones -/

theorem within_writeOutputs {s : State} {d : Fin 32} {o : DoorOutputs} :
    Within [] s (s.writeOutputs d o) := within_unread

theorem within_recount {s : State} : Within [] s s.recount :=
  (within_unread.then within_hand).mono (by decide)

theorem within_enterDoor {s : State} {d : Fin 32} {new : DoorState} {cause : DoorCause} :
    Within [.doors] s (s.enterDoor d new cause) := by
  refine .quietly (.quietly ?_ within_recount) within_hand
  have entered := within_modDoor (s := s) (d := d) (f := fun x => { x with state := new })
    |>.quietly (within_writeOutputs (d := d) (o := doorOutputs s.settings.doors[d].kind new))
  exact .ite entered ((entered.quietly within_report).quietly within_hand)

theorem within_obstruct {s : State} {d : Fin 32} : Within [.doors] s (s.obstruct d) :=
  (within_modDoor.then within_countDoor |>.then within_enterDoor).mono (by decide)

theorem within_startClosing {s : State} {d : Fin 32} {cause : DoorCause} {edge : Bool} :
    Within [.doors] s (s.startClosing d cause edge) :=
  .ite ((within_modDoor.then within_enterDoor |>.then within_obstruct).mono (by decide))
    ((within_modDoor.then within_enterDoor).mono (by decide))

theorem within_closeTimed {s : State} {d : Fin 32} : Within [.doors] s (s.closeTimed d) :=
  (within_modDoor.then within_countDoor |>.then within_enterDoor).mono (by decide)

theorem within_shutByHand {s : State} {d : Fin 32} : Within [.doors] s (s.shutByHand d) :=
  (within_modDoor.then within_countDoor |>.then within_enterDoor).mono (by decide)

theorem within_closeFault {s : State} {d : Fin 32} : Within [.doors] s (s.closeFault d) :=
  (within_modDoor.then within_countDoor |>.then within_enterDoor).mono (by decide)

theorem within_faultDoor {s : State} {d : Fin 32} {c : FaultCause} :
    Within [.doors] s (s.faultDoor d c) := (within_modDoor.then within_enterDoor).mono (by decide)

theorem within_deriveDoor {s : State} {d : Fin 32} {cause : DoorCause} {i : DoorInputs} :
    Within [.doors] s (s.deriveDoor d cause i) :=
  .ite ((within_modDoor.then within_enterDoor).mono (by decide))
    ((within_modDoor.then within_startClosing).mono (by decide))

theorem within_holdDoor {s : State} {d : Fin 32} : Within [.doors] s (s.holdDoor d) :=
  .ite ((within_modDoor.then within_enterDoor).mono (by decide)) within_enterDoor

theorem within_releaseDoor {s : State} {d : Fin 32} {cause : DoorCause} :
    Within [.doors] s (s.releaseDoor d cause) := by
  have counted := within_modDoor (s := s) (d := d)
    (f := fun x => { x with lastRelease := s.clock, retry := 0 })
    |>.then (within_countDoor (d := d) (f := fun n => { n with releases := saturate n.releases }))
  exact .ite .refl (.ite ((counted.then within_enterDoor).mono (by decide))
    ((counted.then within_startClosing).mono (by decide)))

theorem within_releaseDoors {s : State} {ds : List (Fin 32)} {cause : DoorCause} :
    Within [.doors] s (s.releaseDoors ds cause) := Within.foldl (fun _ _ => within_releaseDoor) _ _

theorem within_enterAlarm {s : State} {z : Fin 8} : Within [.doors, .zones] s (s.enterAlarm z) :=
  (within_modZone.then within_report |>.then within_releaseDoors |>.then within_hand).mono (by decide)

theorem within_exitAlarm {s : State} {z : Fin 8} {cause : ZoneCause} :
    Within [.doors, .zones] s (s.exitAlarm z cause) :=
  (within_modZone.then within_report |>.then within_hand).mono (by decide)

theorem within_evalZone {s : State} {z : Fin 8} {cause : ZoneCause} :
    Within [.doors, .zones] s (s.evalZone z cause) :=
  .ite .refl (.ite within_enterAlarm within_exitAlarm)

theorem within_doorEvent {s : State} {d : Fin 32} {was i : DoorInputs} :
    Within [.doors] s (s.doorEvent d was i) := by
  unfold State.doorEvent
  split
  case h_1 => exact .ite ((within_modDoor.then within_startClosing).mono (by decide)) .refl
  case h_2 => exact .ite within_enterDoor .refl
  case h_3 => exact .ite ((within_modDoor.then within_enterDoor).mono (by decide)) .refl
  case h_4 => exact .ite within_shutByHand (.ite within_startClosing .refl)
  case h_5 => exact .ite within_closeTimed (.ite within_obstruct .refl)
  case h_6 => exact .ite within_closeTimed .refl
  case h_7 => exact .ite within_closeFault .refl
  case h_8 => exact .refl

theorem within_isolateDoor {s : State} {d : Fin 32} : Within [.doors] s (s.isolateDoor d) :=
  (within_modDoor.then within_enterDoor).mono (by decide)

theorem within_unfitDoor {s : State} {d : Fin 32} : Within [.doors] s (s.unfitDoor d) :=
  (within_modDoor.then within_enterDoor).mono (by decide)

theorem within_rekindDoor {s : State} {d : Fin 32} {old : DoorKind} :
    Within [.doors] s (s.rekindDoor d old) :=
  .ite .refl (.ite within_unfitDoor (.ite .refl within_deriveDoor))

theorem within_rewriteDoor {s : State} {d : Fin 32} {x : DoorSettings} :
    Within [.doorSettings, .doors] s (s.rewriteDoor d x) :=
  (within_doorSettings.then within_rekindDoor |>.then within_recount).mono (by decide)

theorem within_rewriteZone {s : State} {z : Fin 8} {x : ZoneSettings} :
    Within [.zoneSettings, .doors, .zones] s (s.rewriteZone z x) :=
  .ite (within_zoneSettings.mono (by decide))
    ((within_zoneSettings.then within_evalZone).mono (by decide))

/-! ### Settings store -/

theorem within_unfitAxis {s : State} {a : Fin 4} : Within [.axes] s (s.unfitAxis a) :=
  .ite within_clearTrip .refl

theorem within_rewriteAxis {s : State} {a : Fin 4} {x : AxisSettings} :
    Within [.axisSettings, .axes] s (s.rewriteAxis a x) := by
  have set := within_axisSettings (s := s) (axes := s.settings.axes.set a x)
  have fitted := Within.ite (ps := [.axisSettings, .axes])
    (c := (s.settings.axes[a].fitted && !x.fitted) = true)
    ((set.then (within_unfitAxis (a := a))).mono (by decide)) (set.mono (by decide))
  exact .ite fitted (fitted.quietly within_evalSensor)

theorem within_rewriteScanner {s : State} {n b : ℕ} : Within [] s (s.rewriteScanner n b) :=
  (within_settings.then within_hand).mono (by decide)

theorem within_endStore {s : State} {copy img : Image} : Within [] s (s.endStore copy img) :=
  .ite ((within_unread.then within_report).mono (by decide))
    ((within_unread.then within_report).mono (by decide))

/-! ### Call controller -/

theorem within_admitCall {s : State} {c : Call} : Within [.calls] s (s.admitCall c) :=
  (within_calls.then within_report).mono (by decide)

theorem within_noteRemoval {s : State} {g : Call × RemovalReason} : Within [] s (s.noteRemoval g) :=
  (within_chime.then within_report).mono (by decide)

theorem within_sweepCalls {s : State} {judge : Call → Verdict} :
    Within [.calls] s (s.sweepCalls judge) :=
  (within_calls.then (Within.foldl (fun _ _ => within_noteRemoval) _ _)).mono (by decide)

theorem within_postAutomatic {s : State} {c : Call} : Within [.calls] s (s.postAutomatic c) :=
  .ite .refl within_admitCall

end Sys2Proof.Proofs
end

section
/-! SUPPORT. The footprint of each command: what an event or a request can change of what the laws read,
and that a request refused changes nothing. -/

open Sys2Proof Sys2Proof.Machine

namespace Sys2Proof.Proofs

/-! ### Rules of requests -/

/-- What a request's rule makes of a state: changes within `ps`, and none where it refuses. -/
structure ActsWithin (ps : List Part) (s : State) (r : State × ReplyData) : Prop where
  within : Within ps s r.1
  refusal : ∀ c, r.2 = .refused c → r.1 = s

theorem actsWithin_deny {ps : List Part} {s : State} {c : RefusalCode} :
    ActsWithin ps s (deny s c) := ⟨.refl, fun _ _ => rfl⟩

theorem actsWithin_done {ps : List Part} {s t : State} {bs : List Byte} (h : Within ps s t) :
    ActsWithin ps s (done t bs) := ⟨h, nofun⟩

theorem actsWithin_accepted {ps : List Part} {s t : State} {bs : List Byte} (h : Within ps s t) :
    ActsWithin ps s (t, .accepted bs) := ⟨h, nofun⟩

theorem ActsWithin.mono {ps qs : List Part} {s : State} {r : State × ReplyData}
    (h : ActsWithin qs s r) (sub : qs ⊆ ps) : ActsWithin ps s r :=
  ⟨h.within.mono sub, h.refusal⟩

theorem ActsWithin.ite {ps : List Part} {s : State} {r q : State × ReplyData} {c : Prop}
    [Decidable c] (h : ActsWithin ps s r) (k : ActsWithin ps s q) :
    ActsWithin ps s (if c then r else q) := by
  split
  · exact h
  · exact k

/-- A check that refuses, and what follows it. -/
theorem ActsWithin.guard {ps : List Part} {s : State} {code : RefusalCode} {q : State × ReplyData}
    {c : Prop} [Decidable c] (k : ActsWithin ps s q) :
    ActsWithin ps s (if c then deny s code else q) := .ite actsWithin_deny k

theorem actsWithin_settingsWrite {ps : List Part} {α : Type} {s : State} {l : Link}
    {taken : Option α} {inUse : α → Bool} {write : α → State} {data : α → List Byte}
    (h : ∀ x, Within ps s (write x)) : ActsWithin ps s (s.settingsWrite l taken inUse write data) := by
  refine .guard ?_
  split
  · exact actsWithin_deny
  · exact .guard (.guard (actsWithin_done ((h _).quietly within_unread)))

theorem actsWithin_statusReply {ps : List Part} {s : State} {n start : ℕ} {summary : List Byte}
    {records : List (List Byte)} : ActsWithin ps s (s.statusReply n start summary records) := by
  refine .ite (.guard (actsWithin_done .refl)) ?_
  split
  · exact actsWithin_done .refl
  · exact actsWithin_deny

theorem actsWithin_answering {ps : List Part} {s : State} {l : Link} {axis : ℕ}
    {f : Fin 4 → AuthorityRequest → State × ReplyData} (h : ∀ a r, ActsWithin ps s (f a r)) :
    ActsWithin ps s (s.answering l axis f) := by
  unfold State.answering
  split
  · exact actsWithin_deny
  · refine .guard ?_
    split
    · exact actsWithin_deny
    · exact h _ _

theorem actsWithin_inSession {ps : List Part} {s : State} {l : Link} {axis : ℕ}
    {f : Fin 4 → State × ReplyData} (h : ∀ a, ActsWithin ps s (f a)) :
    ActsWithin ps s (s.inSession l axis f) := by
  unfold State.inSession
  split
  · exact actsWithin_deny
  · exact .guard (.guard (.guard (h _)))

/-- A request of a fitted axis. -/
theorem actsWithin_fittedAxis {ps : List Part} {s : State} {n : ℕ} {f : Fin 4 → State × ReplyData}
    (h : ∀ a, ActsWithin ps s (f a)) :
    ActsWithin ps s (match s.fittedAxis? n with
      | none => deny s .badField
      | some a => f a) := by
  split
  · exact actsWithin_deny
  · exact h _

/-- A request of a fitted door. -/
theorem actsWithin_fittedDoor {ps : List Part} {s : State} {n : ℕ} {f : Fin 32 → State × ReplyData}
    (h : ∀ d, ActsWithin ps s (f d)) :
    ActsWithin ps s (match s.fittedDoor? n with
      | none => deny s .badField
      | some d => f d) := by
  split
  · exact actsWithin_deny
  · exact h _

/-! ### Axes -/

theorem actsWithin_moveFromIdle {s : State} {l : Link} {a : Fin 4} {target : ℤ} :
    ActsWithin [.axes, .stopNotices, .holderNotices] s (s.moveFromIdle l a target) :=
  .ite (actsWithin_done .refl) (.guard (actsWithin_accepted
    ((within_leaveIdle.then within_modAxis |>.then within_openMotion |>.then within_changeAxis).mono (by decide))))

theorem actsWithin_retarget {s : State} {a : Fin 4} {target : ℤ} :
    ActsWithin [.axes] s (s.retarget a target) := by
  refine .guard (.guard (actsWithin_accepted (.ite ?_ ?_)))
  · exact (within_modAxis.then within_travel).mono (by decide)
  · exact within_modAxis

theorem actsWithin_move {s : State} {l : Link} {a : Fin 4} {target : ℤ} :
    ActsWithin [.axes, .stopNotices, .holderNotices] s (s.move l a target) :=
  .ite actsWithin_moveFromIdle (actsWithin_retarget.mono (by decide))

theorem actsWithin_jog {s : State} {l : Link} {a : Fin 4} {d : Direction} :
    ActsWithin [.axes, .stopNotices, .holderNotices] s (s.jog l a d) :=
  .ite (.ite (actsWithin_done (within_modAxis.mono (by decide))) actsWithin_deny)
    (.guard (.guard (actsWithin_done within_startJog)))

theorem actsWithin_takeAxis {s : State} {l : Link} {a : Fin 4} :
    ActsWithin [.station] s (s.takeAxis l a) := by
  refine .ite (actsWithin_done within_passHolder) ?_
  split
  · exact actsWithin_done within_passHolder
  · exact .ite (actsWithin_done .refl) (.guard (.guard (actsWithin_accepted within_requestStation)))

/-! ### The footprint of each command -/

/-- The parts that a command can change. -/
def touched : Instr → List Part
  | .powerOn | .settingsLoadEnd .. | .powerLoss | .controllerReset .. =>
    [.axisSettings, .routing, .doorSettings, .zoneSettings, .inputs, .axes, .valves, .station, .doors,
     .zones, .calls, .alarms, .links, .trims, .keyReleases, .stopNotices, .holderNotices]
  | .discreteInputChange .. => [.inputs]
  | .doorInputChange .. | .travelTimerExpiry _ | .pauseTimerExpiry _ | .conflictTimerExpiry _
  | .doorHold .. | .doorHoldZone .. | .doorRelease .. | .doorReleaseZone .. | .doorIsolate ..
  | .doorRestore .. => [.doors]
  | .fireInputChange .. | .zoneAlarm .. => [.doors, .zones]
  | .axisUpdate .. | .pressureCheck .. | .angleValidityChange .. | .disablingNotice _
  | .limitSwitchChange .. | .permissiveSlotChange .. | .holderChange .. | .deckHoldNotice _
  | .lossOfServiceLevel .. | .stopLineChange .. | .warningTimerExpiry _ | .motionTimerExpiry _
  | .jogRefreshExpiry _ | .manualRefreshExpiry _ | .axisStop .. | .manualSet .. | .manualApply ..
  | .manualLeave .. => [.axes, .valves]
  | .axisMove .. | .axisJog .. => [.axes, .stopNotices, .holderNotices]
  | .tripReset .. => [.axes]
  | .manualEnter .. => [.axes, .valves, .stopNotices, .holderNotices]
  | .axisStateChangeSeen .. | .deadlineExpiry _ | .stationLinkLoss _ | .serviceKeyRelease
  | .takeStation .. | .yieldStation .. | .refuseStation .. | .deckHold .. | .deckResume ..
  | .serviceLeave .. => [.station]
  | .serviceEnter .. => [.station, .keyReleases]
  | .alarmSourceChange .. | .momentaryRaise _ | .alarmAck .. => [.alarms]
  | .standClearPost _ | .evacuatePost _ | .standClearRemoval _ | .recallTrim _
  | .laneAcknowledgement _ | .durationTimerExpiry _ | .callPost .. | .callCancel .. => [.calls]
  | .byteReceived .. | .frameComplete .. | .receiveBreak _ | .linkRestart .. => [.station, .links]
  | .frameDiscard .. | .gapAbort _ | .linkLost _ => [.links]
  | .settingsWriteAxis .. => [.axisSettings, .axes]
  | .settingsWriteDoor .. => [.doorSettings, .doors]
  | .settingsWriteZone .. => [.zoneSettings, .doors, .zones]
  | .settingsWriteRouting .. => [.routing, .alarms]
  | _ => []

/-- The commands that begin, end or reload everything. -/
def renews : Instr → Bool
  | .powerOn | .settingsLoadEnd .. | .powerLoss | .controllerReset .. => true
  | _ => false

/-- The event `i`, meant by `e`, is one act within `ps` of a state its notice has been taken from. -/
def EventWithin (ps : List Part) (i : Instr) (e : State → Result) : Prop :=
  ∃ f : State → State, (∀ s, e s = runEvent i s f) ∧ ∀ u, Within ps u (f u)

theorem eventWithin_of {ps : List Part} {i : Instr} {f : State → State} (h : ∀ u, Within ps u (f u)) :
    EventWithin ps i fun s => runEvent i s f := ⟨f, fun _ => rfl, h⟩

/-- The request `i`, meant by `e`, is one act within `ps`, which changes nothing where it is refused. -/
def RequestWithin (ps : List Part) (i : Instr) (l : Link) (tag : Byte) (e : State → Result) : Prop :=
  ∃ f : State → State × ReplyData, (∀ s, e s = runRequest i l tag s f) ∧ ∀ u, ActsWithin ps u (f u)

theorem requestWithin_of {ps : List Part} {i : Instr} {l : Link} {tag : Byte}
    {f : State → State × ReplyData} (h : ∀ u, ActsWithin ps u (f u)) :
    RequestWithin ps i l tag fun s => runRequest i l tag s f := ⟨f, fun _ => rfl, h⟩

/-! ### Events -/

theorem eventWithin_channelCompletion {k raw} :
    EventWithin [] (.channelCompletion k raw) (execChannelCompletion k raw) :=
  eventWithin_of fun _ => .ite within_completion .refl

theorem eventWithin_discreteInputChange {x samples} :
    EventWithin [.inputs] (.discreteInputChange x samples) (execDiscreteInputChange x samples) :=
  eventWithin_of fun _ => .foldl (fun _ _ => within_sampleInput) _ _

theorem eventWithin_doorScan {levels} :
    EventWithin [] (.doorScan levels) (execDoorScan levels) :=
  eventWithin_of fun _ => (within_unread.then within_hand).mono (by decide)

theorem eventWithin_doorInputChange {d inputs} :
    EventWithin [.doors] (.doorInputChange d inputs) (execDoorInputChange d inputs) :=
  eventWithin_of fun _ =>
    .ite within_modDoor
    ((within_modDoor.then within_modDoor |>.then within_doorEvent).mono (by decide))

theorem eventWithin_travelTimerExpiry {d} :
    EventWithin [.doors] (.travelTimerExpiry d) (execTravelTimerExpiry d) := by
  refine eventWithin_of fun _ => .ite .refl ?_
  split
  · exact (within_modDoor.then within_faultDoor).mono (by decide)
  · exact (within_modDoor.then within_faultDoor).mono (by decide)
  · exact within_modDoor

theorem eventWithin_pauseTimerExpiry {d} :
    EventWithin [.doors] (.pauseTimerExpiry d) (execPauseTimerExpiry d) :=
  eventWithin_of fun _ =>
    .ite .refl (.ite within_modDoor
    (.ite ((within_modDoor.then within_modDoor |>.then within_startClosing).mono (by decide))
      ((within_modDoor.then within_faultDoor).mono (by decide))))

theorem eventWithin_conflictTimerExpiry {d} :
    EventWithin [.doors] (.conflictTimerExpiry d) (execConflictTimerExpiry d) := by
  refine eventWithin_of fun _ => .ite .refl ?_
  split
  · exact within_modDoor
  · exact within_modDoor
  · exact (within_modDoor.then within_faultDoor).mono (by decide)

theorem eventWithin_fireInputChange {z asserted} :
    EventWithin [.doors, .zones] (.fireInputChange z asserted) (execFireInputChange z asserted) :=
  eventWithin_of fun _ => (within_modZone.then within_evalZone).mono (by decide)

theorem eventWithin_axisUpdate {a angle} :
    EventWithin [.axes, .valves] (.axisUpdate a angle) (execAxisUpdate a angle) :=
  eventWithin_of fun _ => within_ifFitted within_updateAxis

theorem eventWithin_pressureCheck {a pressure} :
    EventWithin [.axes, .valves] (.pressureCheck a pressure) (execPressureCheck a pressure) :=
  eventWithin_of fun _ => within_pressureNotice

theorem eventWithin_angleValidityChange {a valid} :
    EventWithin [.axes, .valves] (.angleValidityChange a valid) (execAngleValidityChange a valid) :=
  eventWithin_of fun _ =>
    within_ifFitted
    (((Within.ite .refl within_angleLost).then within_evalSensor).mono (by decide))

theorem eventWithin_pressureValidityChange {a valid} :
    EventWithin [] (.pressureValidityChange a valid) (execPressureValidityChange a valid) :=
  eventWithin_of fun _ => within_ifFitted within_evalSensor

theorem eventWithin_disablingNotice {a} :
    EventWithin [.axes, .valves] (.disablingNotice a) (execDisablingNotice a) :=
  eventWithin_of fun _ => within_ifFitted (.ite within_enterRest .refl)

theorem eventWithin_limitSwitchChange {a side asserted} :
    EventWithin [.axes, .valves] (.limitSwitchChange a side asserted) (execLimitSwitchChange a side asserted) :=
  eventWithin_of fun _ => within_ifFitted (.ite within_limitMet .refl)

theorem eventWithin_permissiveSlotChange {a dir result} :
    EventWithin [.axes, .valves] (.permissiveSlotChange a dir result) (execPermissiveSlotChange a dir result) :=
  eventWithin_of fun _ => within_ifFitted (.ite within_enterStopping .refl)

theorem eventWithin_holderChange {a reason} :
    EventWithin [.axes, .valves] (.holderChange a reason) (execHolderChange a reason) :=
  eventWithin_of fun _ => within_ifFitted (.ite within_endSession within_endTravel)

theorem eventWithin_deckHoldNotice {a} :
    EventWithin [.axes, .valves] (.deckHoldNotice a) (execDeckHoldNotice a) := by
  refine eventWithin_of fun _ => within_ifFitted ?_
  split
  · exact within_endSession
  · exact within_modAxis.mono (by decide)
  · exact within_endTravel

theorem eventWithin_lossOfServiceLevel {a l} :
    EventWithin [.axes, .valves] (.lossOfServiceLevel a l) (execLossOfServiceLevel a l) :=
  eventWithin_of fun _ => within_ifFitted (.ite within_endSession .refl)

theorem eventWithin_stopLineChange {a asserted} :
    EventWithin [.axes, .valves] (.stopLineChange a asserted) (execStopLineChange a asserted) :=
  eventWithin_of fun _ =>
    within_ifFitted
    (.ite ((within_cut.then within_endSession).mono (by decide)) .refl)

theorem eventWithin_warningTimerExpiry {a} :
    EventWithin [.axes, .valves] (.warningTimerExpiry a) (execWarningTimerExpiry a) :=
  eventWithin_of fun _ =>
    .ite .refl (.ite (within_modAxis.mono (by decide))
    (.ite ((within_modAxis.then within_enterRest).mono (by decide))
      (.ite ((within_modAxis.then within_enterRest).mono (by decide))
        ((within_modAxis.then within_modAxis |>.then within_travel).mono (by decide)))))

theorem eventWithin_motionTimerExpiry {a} :
    EventWithin [.axes, .valves] (.motionTimerExpiry a) (execMotionTimerExpiry a) := by
  refine eventWithin_of fun _ => .ite .refl ?_
  split
  case h_4 => exact within_modAxis.mono (by decide)
  all_goals exact (within_modAxis.then within_hand |>.then within_enterStopping).mono (by decide)

theorem eventWithin_jogRefreshExpiry {a} :
    EventWithin [.axes, .valves] (.jogRefreshExpiry a) (execJogRefreshExpiry a) :=
  eventWithin_of fun _ =>
    .ite .refl
    (.ite ((within_modAxis.then within_enterStopping).mono (by decide)) (within_modAxis.mono (by decide)))

theorem eventWithin_manualRefreshExpiry {a} :
    EventWithin [.axes, .valves] (.manualRefreshExpiry a) (execManualRefreshExpiry a) :=
  eventWithin_of fun _ => .ite ((within_modAxis.then within_setC).mono (by decide)) .refl

theorem eventWithin_valveFrameStart {a} :
    EventWithin [] (.valveFrameStart a) (execValveFrameStart a) := by
  refine eventWithin_of fun _ => within_modValve_command ?_
  unfold Generator.frameStart
  dsimp only
  split <;> rfl

theorem eventWithin_axisStateChangeSeen {a new} :
    EventWithin [.station] (.axisStateChangeSeen a new) (execAxisStateChangeSeen a new) :=
  eventWithin_of fun _ =>
    .ite
    ((within_station.then within_setHold |>.then within_reportEstablished).mono (by decide))
    within_station

theorem eventWithin_deadlineExpiry {a} :
    EventWithin [.station] (.deadlineExpiry a) (execDeadlineExpiry a) := by
  refine eventWithin_of fun _ => ?_
  split
  · exact .refl
  · exact within_answerRequest

theorem eventWithin_stationLinkLoss {l} :
    EventWithin [.station] (.stationLinkLoss l) (execStationLinkLoss l) :=
  eventWithin_of fun _ => within_loseLink

theorem eventWithin_serviceKeyRelease :
    EventWithin [.station] .serviceKeyRelease execServiceKeyRelease :=
  eventWithin_of fun _ => (within_dropLevel.then within_dropLevel).mono (by decide)

theorem eventWithin_sourceChange {src v} :
    EventWithin [] (.sourceChange src v) (execSourceChange src v) :=
  eventWithin_of fun _ => within_reslot

theorem eventWithin_alarmSourceChange {src active} :
    EventWithin [.alarms] (.alarmSourceChange src active) (execAlarmSourceChange src active) :=
  eventWithin_of fun _ => within_setFlag

theorem eventWithin_momentaryRaise {src} :
    EventWithin [.alarms] (.momentaryRaise src) (execMomentaryRaise src) :=
  eventWithin_of fun _ => within_raiseMomentary

theorem eventWithin_outputLineSourceChange {src value} :
    EventWithin [] (.outputLineSourceChange src value) (execOutputLineSourceChange src value) :=
  eventWithin_of fun _ => .ite .refl within_driveFollowers

theorem eventWithin_standClearPost {a} :
    EventWithin [.calls] (.standClearPost a) (execStandClearPost a) :=
  eventWithin_of fun _ => within_postAutomatic

theorem eventWithin_evacuatePost {z} :
    EventWithin [.calls] (.evacuatePost z) (execEvacuatePost z) :=
  eventWithin_of fun _ => within_postAutomatic

theorem eventWithin_standClearRemoval {a} :
    EventWithin [.calls] (.standClearRemoval a) (execStandClearRemoval a) :=
  eventWithin_of fun _ => within_sweepCalls

theorem eventWithin_recallTrim {z} : EventWithin [.calls] (.recallTrim z) (execRecallTrim z) :=
  eventWithin_of fun _ => within_sweepCalls

theorem eventWithin_laneAcknowledgement {n} :
    EventWithin [.calls] (.laneAcknowledgement n) (execLaneAcknowledgement n) :=
  eventWithin_of fun _ => within_sweepCalls

theorem eventWithin_durationTimerExpiry {number} :
    EventWithin [.calls] (.durationTimerExpiry number) (execDurationTimerExpiry number) :=
  eventWithin_of fun _ => within_sweepCalls

theorem eventWithin_chimeTimerExpiry : EventWithin [] .chimeTimerExpiry execChimeTimerExpiry :=
  eventWithin_of fun _ => .ite .refl within_chime

theorem eventWithin_boardFrameStart : EventWithin [] .boardFrameStart execBoardFrameStart :=
  eventWithin_of fun _ => .ite .refl ((within_clearBoardsFrom.then within_unread).mono (by decide))

theorem eventWithin_laneButtonChange {n pressed} :
    EventWithin [] (.laneButtonChange n pressed) (execLaneButtonChange n pressed) :=
  eventWithin_of fun _ => .ite within_changeButton .refl

theorem eventWithin_buttonSample {levels} :
    EventWithin [] (.buttonSample levels) (execButtonSample levels) :=
  eventWithin_of fun _ => .foldl (fun _ _ => within_sampleButton) _ _

theorem eventWithin_lastScanFrameEnd : EventWithin [] .lastScanFrameEnd execLastScanFrameEnd :=
  eventWithin_of fun _ => .ite .refl ((within_clearBoardsFrom.then within_unread).mono (by decide))

theorem eventWithin_byteReceived {l b} :
    EventWithin [.station, .links] (.byteReceived l b) (execByteReceived l b) := by
  refine eventWithin_of fun _ => ?_
  split
  · exact .ite (within_modLink.mono (by decide)) .refl
  · exact .ite (within_modLink.mono (by decide)) (within_discardFrame.mono (by decide))
  · exact within_bodyByte

theorem eventWithin_frameComplete {l kind tag payload crc} :
    EventWithin [.station, .links] (.frameComplete l kind tag payload crc) (execFrameComplete l kind tag payload crc) :=
  eventWithin_of fun _ => within_completeFrame

theorem eventWithin_frameDiscard {l cause} :
    EventWithin [.links] (.frameDiscard l cause) (execFrameDiscard l cause) := by
  refine eventWithin_of fun _ => ?_
  split
  · exact within_discardFrame
  · exact within_discardFrame
  · exact .refl
  · exact .refl

theorem eventWithin_gapAbort {l} : EventWithin [.links] (.gapAbort l) (execGapAbort l) :=
  eventWithin_of fun _ => .ite .refl ((within_modLink.then within_countLink).mono (by decide))

theorem eventWithin_receiveBreak {l} :
    EventWithin [.station, .links] (.receiveBreak l) (execReceiveBreak l) :=
  eventWithin_of fun _ => within_restartLink.mono (by decide)

theorem eventWithin_linkLost {l} : EventWithin [.links] (.linkLost l) (execLinkLost l) :=
  eventWithin_of fun _ => .ite .refl
    (.ite ((within_modLink.then within_hand).mono (by decide)) within_modLink)

theorem eventWithin_transmitEnd {l} : EventWithin [] (.transmitEnd l) (execTransmitEnd l) :=
  eventWithin_of fun _ => within_modLink_speaks ⟨id, rfl, rfl, rfl, rfl, id⟩

theorem eventWithin_storeCompletion {readBack} :
    EventWithin [] (.storeCompletion readBack) (execStoreCompletion readBack) := by
  refine eventWithin_of fun _ => ?_
  split
  · exact .refl
  · exact within_endStore

/-- Every event but those of power is one act within its footprint. -/
theorem eventWithin_exec {i : Instr} (event : i.sender = none) (renew : renews i = false) :
    EventWithin (touched i) i (exec i) := by
  cases i with
  | powerOn | settingsLoadEnd | powerLoss => exact Bool.noConfusion renew
  | channelCompletion => exact eventWithin_channelCompletion
  | discreteInputChange => exact eventWithin_discreteInputChange
  | doorScan => exact eventWithin_doorScan
  | doorInputChange => exact eventWithin_doorInputChange
  | travelTimerExpiry => exact eventWithin_travelTimerExpiry
  | pauseTimerExpiry => exact eventWithin_pauseTimerExpiry
  | conflictTimerExpiry => exact eventWithin_conflictTimerExpiry
  | fireInputChange => exact eventWithin_fireInputChange
  | axisUpdate => exact eventWithin_axisUpdate
  | pressureCheck => exact eventWithin_pressureCheck
  | angleValidityChange => exact eventWithin_angleValidityChange
  | pressureValidityChange => exact eventWithin_pressureValidityChange
  | disablingNotice => exact eventWithin_disablingNotice
  | limitSwitchChange => exact eventWithin_limitSwitchChange
  | permissiveSlotChange => exact eventWithin_permissiveSlotChange
  | holderChange => exact eventWithin_holderChange
  | deckHoldNotice => exact eventWithin_deckHoldNotice
  | lossOfServiceLevel => exact eventWithin_lossOfServiceLevel
  | stopLineChange => exact eventWithin_stopLineChange
  | warningTimerExpiry => exact eventWithin_warningTimerExpiry
  | motionTimerExpiry => exact eventWithin_motionTimerExpiry
  | jogRefreshExpiry => exact eventWithin_jogRefreshExpiry
  | manualRefreshExpiry => exact eventWithin_manualRefreshExpiry
  | valveFrameStart => exact eventWithin_valveFrameStart
  | axisStateChangeSeen => exact eventWithin_axisStateChangeSeen
  | deadlineExpiry => exact eventWithin_deadlineExpiry
  | stationLinkLoss => exact eventWithin_stationLinkLoss
  | serviceKeyRelease => exact eventWithin_serviceKeyRelease
  | sourceChange => exact eventWithin_sourceChange
  | alarmSourceChange => exact eventWithin_alarmSourceChange
  | momentaryRaise => exact eventWithin_momentaryRaise
  | outputLineSourceChange => exact eventWithin_outputLineSourceChange
  | standClearPost => exact eventWithin_standClearPost
  | evacuatePost => exact eventWithin_evacuatePost
  | standClearRemoval => exact eventWithin_standClearRemoval
  | recallTrim => exact eventWithin_recallTrim
  | laneAcknowledgement => exact eventWithin_laneAcknowledgement
  | durationTimerExpiry => exact eventWithin_durationTimerExpiry
  | chimeTimerExpiry => exact eventWithin_chimeTimerExpiry
  | boardFrameStart => exact eventWithin_boardFrameStart
  | laneButtonChange => exact eventWithin_laneButtonChange
  | buttonSample => exact eventWithin_buttonSample
  | lastScanFrameEnd => exact eventWithin_lastScanFrameEnd
  | byteReceived => exact eventWithin_byteReceived
  | frameComplete => exact eventWithin_frameComplete
  | frameDiscard => exact eventWithin_frameDiscard
  | gapAbort => exact eventWithin_gapAbort
  | receiveBreak => exact eventWithin_receiveBreak
  | linkLost => exact eventWithin_linkLost
  | transmitEnd => exact eventWithin_transmitEnd
  | storeCompletion => exact eventWithin_storeCompletion
  | _ => exact absurd event nofun

/-! ### Requests -/

theorem requestWithin_unknownRequest {l tag kind} :
    RequestWithin [] (.unknownRequest l tag kind) l tag (execUnknownRequest l tag kind) :=
  requestWithin_of fun _ => actsWithin_deny

theorem requestWithin_channelStatus {l tag channel start} :
    RequestWithin [] (.channelStatus l tag channel start) l tag (execChannelStatus l tag channel start) :=
  requestWithin_of fun _ => actsWithin_statusReply

theorem requestWithin_inputStatus {l tag} :
    RequestWithin [] (.inputStatus l tag) l tag (execInputStatus l tag) :=
  requestWithin_of fun _ => actsWithin_done .refl

theorem requestWithin_axisMove {l tag axis target} :
    RequestWithin [.axes, .stopNotices, .holderNotices] (.axisMove l tag axis target) l tag (execAxisMove l tag axis target) := by
  refine requestWithin_of fun _ => actsWithin_fittedAxis fun _ => ?_
  split
  · exact actsWithin_deny
  · exact actsWithin_move

theorem requestWithin_axisStop {l tag axis} :
    RequestWithin [.axes, .valves] (.axisStop l tag axis) l tag (execAxisStop l tag axis) :=
  requestWithin_of fun _ => .ite (actsWithin_done within_stopAll) (actsWithin_fittedAxis fun _ =>
    actsWithin_done within_stopAxis)

theorem requestWithin_axisJog {l tag axis direction} :
    RequestWithin [.axes, .stopNotices, .holderNotices] (.axisJog l tag axis direction) l tag (execAxisJog l tag axis direction) := by
  refine requestWithin_of fun _ => ?_
  split
  · split
    · exact actsWithin_deny
    · exact actsWithin_jog
  · exact actsWithin_deny

theorem requestWithin_tripReset {l tag axis} :
    RequestWithin [.axes] (.tripReset l tag axis) l tag (execTripReset l tag axis) :=
  requestWithin_of fun _ => actsWithin_fittedAxis fun _ =>
    .guard (.guard (actsWithin_done within_clearTrip))

theorem requestWithin_manualEnter {l tag axis} :
    RequestWithin [.axes, .valves, .stopNotices, .holderNotices] (.manualEnter l tag axis) l tag (execManualEnter l tag axis) := by
  refine requestWithin_of fun _ => actsWithin_fittedAxis fun _ => ?_
  split
  · exact actsWithin_deny
  · split
    · exact actsWithin_done .refl
    · exact actsWithin_done within_startSession
    · exact actsWithin_deny

theorem requestWithin_manualSet {l tag axis value} :
    RequestWithin [.axes, .valves] (.manualSet l tag axis value) l tag (execManualSet l tag axis value) :=
  requestWithin_of fun _ => actsWithin_inSession fun _ => actsWithin_done (within_modAxis.mono (by decide))

theorem requestWithin_manualApply {l tag axis} :
    RequestWithin [.axes, .valves] (.manualApply l tag axis) l tag (execManualApply l tag axis) :=
  requestWithin_of fun _ => actsWithin_inSession fun _ =>
    actsWithin_done ((within_modAxis.then within_setC).mono (by decide))

theorem requestWithin_manualLeave {l tag axis} :
    RequestWithin [.axes, .valves] (.manualLeave l tag axis) l tag (execManualLeave l tag axis) :=
  requestWithin_of fun _ => actsWithin_inSession fun _ => actsWithin_done within_endSession

theorem requestWithin_axisStatus {l tag axis start} :
    RequestWithin [] (.axisStatus l tag axis start) l tag (execAxisStatus l tag axis start) :=
  requestWithin_of fun _ => actsWithin_statusReply

theorem requestWithin_driveStatus {l tag axis} :
    RequestWithin [] (.driveStatus l tag axis) l tag (execDriveStatus l tag axis) :=
  requestWithin_of fun _ => actsWithin_fittedAxis fun _ => actsWithin_done .refl

theorem requestWithin_takeStation {l tag axis} :
    RequestWithin [.station] (.takeStation l tag axis) l tag (execTakeStation l tag axis) :=
  requestWithin_of fun _ => actsWithin_fittedAxis fun _ => actsWithin_takeAxis

theorem requestWithin_yieldStation {l tag axis} :
    RequestWithin [.station] (.yieldStation l tag axis) l tag (execYieldStation l tag axis) :=
  requestWithin_of fun _ => actsWithin_answering fun _ _ => actsWithin_done within_passHolder

theorem requestWithin_refuseStation {l tag axis} :
    RequestWithin [.station] (.refuseStation l tag axis) l tag (execRefuseStation l tag axis) :=
  requestWithin_of fun _ => actsWithin_answering fun _ _ => actsWithin_done within_answerRequest

theorem requestWithin_deckHold {l tag} :
    RequestWithin [.station] (.deckHold l tag) l tag (execDeckHold l tag) :=
  requestWithin_of fun _ => actsWithin_done (.ite .refl within_claim)

theorem requestWithin_deckResume {l tag both} :
    RequestWithin [.station] (.deckResume l tag both) l tag (execDeckResume l tag both) := by
  refine requestWithin_of fun _ => ?_
  split
  · exact actsWithin_deny
  · exact .guard (actsWithin_done within_resume)

theorem requestWithin_serviceEnter {l tag} :
    RequestWithin [.station, .keyReleases] (.serviceEnter l tag) l tag (execServiceEnter l tag) :=
  requestWithin_of fun _ => .ite (actsWithin_done .refl)
    (.ite (actsWithin_done within_raiseLevel) actsWithin_deny)

theorem requestWithin_serviceLeave {l tag} :
    RequestWithin [.station] (.serviceLeave l tag) l tag (execServiceLeave l tag) :=
  requestWithin_of fun _ => actsWithin_done within_dropLevel

theorem requestWithin_stationStatus {l tag} :
    RequestWithin [] (.stationStatus l tag) l tag (execStationStatus l tag) :=
  requestWithin_of fun _ => actsWithin_done .refl

theorem requestWithin_doorHold {l tag door} :
    RequestWithin [.doors] (.doorHold l tag door) l tag (execDoorHold l tag door) :=
  requestWithin_of fun _ => actsWithin_fittedDoor fun _ =>
    .guard (.guard (actsWithin_done within_holdDoor))

theorem requestWithin_doorHoldZone {l tag zone} :
    RequestWithin [.doors] (.doorHoldZone l tag zone) l tag (execDoorHoldZone l tag zone) := by
  refine requestWithin_of fun _ => ?_
  split
  · exact actsWithin_deny
  · exact .guard (actsWithin_done (.foldl (fun _ _ => within_holdDoor) _ _))

theorem requestWithin_doorRelease {l tag door} :
    RequestWithin [.doors] (.doorRelease l tag door) l tag (execDoorRelease l tag door) :=
  requestWithin_of fun _ => actsWithin_fittedDoor fun _ => actsWithin_done within_releaseDoor

theorem requestWithin_doorReleaseZone {l tag zone} :
    RequestWithin [.doors] (.doorReleaseZone l tag zone) l tag (execDoorReleaseZone l tag zone) := by
  refine requestWithin_of fun _ => ?_
  split
  · exact actsWithin_deny
  · exact actsWithin_done within_releaseDoors

theorem requestWithin_doorIsolate {l tag door} :
    RequestWithin [.doors] (.doorIsolate l tag door) l tag (execDoorIsolate l tag door) :=
  requestWithin_of fun _ => actsWithin_fittedDoor fun _ =>
    .guard (.ite (actsWithin_done .refl) (actsWithin_done within_isolateDoor))

theorem requestWithin_doorRestore {l tag door} :
    RequestWithin [.doors] (.doorRestore l tag door) l tag (execDoorRestore l tag door) :=
  requestWithin_of fun _ => actsWithin_fittedDoor fun _ =>
    .guard (.guard (actsWithin_done within_deriveDoor))

theorem requestWithin_zoneAlarm {l tag zone action} :
    RequestWithin [.doors, .zones] (.zoneAlarm l tag zone action) l tag (execZoneAlarm l tag zone action) := by
  refine requestWithin_of fun _ => ?_
  split
  · exact .guard (actsWithin_done ((within_modZone.then within_evalZone).mono (by decide)))
  · exact actsWithin_deny

theorem requestWithin_doorStatus {l tag door start} :
    RequestWithin [] (.doorStatus l tag door start) l tag (execDoorStatus l tag door start) :=
  requestWithin_of fun _ => actsWithin_statusReply

theorem requestWithin_zoneStatus {l tag zone start} :
    RequestWithin [] (.zoneStatus l tag zone start) l tag (execZoneStatus l tag zone start) :=
  requestWithin_of fun _ => actsWithin_statusReply

theorem requestWithin_termWrite {l tag term data} :
    RequestWithin [] (.termWrite l tag term data) l tag (execTermWrite l tag term data) := by
  refine requestWithin_of fun _ => .guard ?_
  split
  · exact .guard (.guard (.guard (actsWithin_done within_writeTerm)))
  · exact actsWithin_deny

theorem requestWithin_permissiveWrite {l tag slot entries} :
    RequestWithin [] (.permissiveWrite l tag slot entries) l tag (execPermissiveWrite l tag slot entries) := by
  refine requestWithin_of fun _ => .guard (.guard ?_)
  split
  · exact .guard (.guard (.guard (actsWithin_done within_writeList)))
  · exact actsWithin_deny

theorem requestWithin_termStatus {l tag term start} :
    RequestWithin [] (.termStatus l tag term start) l tag (execTermStatus l tag term start) :=
  requestWithin_of fun _ => actsWithin_statusReply

theorem requestWithin_permissiveStatus {l tag slot start} :
    RequestWithin [] (.permissiveStatus l tag slot start) l tag (execPermissiveStatus l tag slot start) :=
  requestWithin_of fun _ => actsWithin_statusReply

theorem requestWithin_callPost {l tag data} :
    RequestWithin [.calls] (.callPost l tag data) l tag (execCallPost l tag data) := by
  refine requestWithin_of fun _ => ?_
  split
  · exact actsWithin_deny
  · refine .guard (.guard ?_)
    split
    · exact actsWithin_deny
    · exact .guard (.guard (.guard (actsWithin_done within_admitCall)))

theorem requestWithin_callCancel {l tag number} :
    RequestWithin [.calls] (.callCancel l tag number) l tag (execCallCancel l tag number) := by
  refine requestWithin_of fun _ => .guard ?_
  split
  · exact actsWithin_deny
  · exact .guard (.guard (actsWithin_done within_sweepCalls))

theorem requestWithin_callStatus {l tag number start} :
    RequestWithin [] (.callStatus l tag number start) l tag (execCallStatus l tag number start) := by
  refine requestWithin_of fun _ => .ite (.guard (actsWithin_done .refl)) ?_
  split
  · exact actsWithin_done .refl
  · exact actsWithin_deny

theorem requestWithin_patternWrite {l tag pattern segments} :
    RequestWithin [] (.patternWrite l tag pattern segments) l tag (execPatternWrite l tag pattern segments) := by
  refine requestWithin_of fun _ => .guard ?_
  split
  · exact actsWithin_deny
  · exact .guard (actsWithin_done within_writePattern)

theorem requestWithin_boardStatus {l tag board start} :
    RequestWithin [] (.boardStatus l tag board start) l tag (execBoardStatus l tag board start) := by
  refine requestWithin_of fun _ => .ite actsWithin_statusReply ?_
  split
  · exact actsWithin_done .refl
  · exact actsWithin_deny

theorem requestWithin_alarmAck {l tag source} :
    RequestWithin [.alarms] (.alarmAck l tag source) l tag (execAlarmAck l tag source) := by
  refine requestWithin_of fun _ => .ite (actsWithin_done within_ackEntries) ?_
  split
  · exact actsWithin_deny
  · split
    · exact actsWithin_deny
    · exact actsWithin_done within_ackEntries

theorem requestWithin_alarmList {l tag start} :
    RequestWithin [] (.alarmList l tag start) l tag (execAlarmList l tag start) :=
  requestWithin_of fun _ => .guard (actsWithin_done .refl)

theorem requestWithin_outputSet {l tag line value} :
    RequestWithin [] (.outputSet l tag line value) l tag (execOutputSet l tag line value) := by
  refine requestWithin_of fun _ => ?_
  split
  · exact .guard (actsWithin_done within_setOutput)
  · exact actsWithin_deny

theorem requestWithin_outputStatus {l tag} :
    RequestWithin [] (.outputStatus l tag) l tag (execOutputStatus l tag) :=
  requestWithin_of fun _ => actsWithin_done .refl

theorem requestWithin_reportSelect {l tag flags} :
    RequestWithin [] (.reportSelect l tag flags) l tag (execReportSelect l tag flags) := by
  refine requestWithin_of fun _ => ?_
  split
  · exact actsWithin_deny
  · exact actsWithin_done (within_modLink_speaks ⟨id, rfl, rfl, rfl, rfl, id⟩)

theorem requestWithin_linkRestart {l tag} :
    RequestWithin [.station, .links] (.linkRestart l tag) l tag (execLinkRestart l tag) :=
  requestWithin_of fun _ => actsWithin_done (within_restartLink.mono (by decide))

theorem requestWithin_linkStatus {l tag} :
    RequestWithin [] (.linkStatus l tag) l tag (execLinkStatus l tag) :=
  requestWithin_of fun _ => actsWithin_done .refl

theorem requestWithin_settingsWriteAxis {l tag index data} :
    RequestWithin [.axisSettings, .axes] (.settingsWriteAxis l tag index data) l tag (execSettingsWriteAxis l tag index data) :=
  requestWithin_of fun _ => actsWithin_settingsWrite fun _ => within_rewriteAxis

theorem requestWithin_settingsWriteDrive {l tag index oil} :
    RequestWithin [] (.settingsWriteDrive l tag index oil) l tag (execSettingsWriteDrive l tag index oil) :=
  requestWithin_of fun _ => actsWithin_settingsWrite fun _ => within_settings

theorem requestWithin_settingsWriteChannel {l tag index data} :
    RequestWithin [] (.settingsWriteChannel l tag index data) l tag (execSettingsWriteChannel l tag index data) :=
  requestWithin_of fun _ => actsWithin_settingsWrite fun _ => within_rewriteChannel

theorem requestWithin_settingsWriteDoor {l tag index data} :
    RequestWithin [.doorSettings, .doors] (.settingsWriteDoor l tag index data) l tag (execSettingsWriteDoor l tag index data) :=
  requestWithin_of fun _ => actsWithin_settingsWrite fun _ => within_rewriteDoor

theorem requestWithin_settingsWriteZone {l tag index data} :
    RequestWithin [.zoneSettings, .doors, .zones] (.settingsWriteZone l tag index data) l tag (execSettingsWriteZone l tag index data) :=
  requestWithin_of fun _ => actsWithin_settingsWrite fun _ => within_rewriteZone

theorem requestWithin_settingsWriteScanner {l tag index boards blanking} :
    RequestWithin [] (.settingsWriteScanner l tag index boards blanking) l tag (execSettingsWriteScanner l tag index boards blanking) :=
  requestWithin_of fun _ => actsWithin_settingsWrite fun _ => within_rewriteScanner

theorem requestWithin_settingsWriteRouting {l tag index data} :
    RequestWithin [.routing, .alarms] (.settingsWriteRouting l tag index data) l tag (execSettingsWriteRouting l tag index data) :=
  requestWithin_of fun _ => actsWithin_settingsWrite fun _ =>
    (within_routing.then within_evalLines).mono (by decide)

theorem requestWithin_settingsWriteOutput {l tag index data} :
    RequestWithin [] (.settingsWriteOutput l tag index data) l tag (execSettingsWriteOutput l tag index data) := by
  refine requestWithin_of fun _ => ?_
  split
  · exact .guard (actsWithin_settingsWrite fun _ => within_rewriteOutput)
  · exact actsWithin_settingsWrite fun _ => .refl

theorem requestWithin_settingsWriteLink {l tag index time} :
    RequestWithin [] (.settingsWriteLink l tag index time) l tag (execSettingsWriteLink l tag index time) :=
  requestWithin_of fun _ => actsWithin_settingsWrite fun _ => within_settings

theorem requestWithin_settingsRead {l tag object index} :
    RequestWithin [] (.settingsRead l tag object index) l tag (execSettingsRead l tag object index) := by
  refine requestWithin_of fun _ => ?_
  split
  · exact actsWithin_deny
  · exact actsWithin_done .refl

theorem requestWithin_storeSettings {l tag} :
    RequestWithin [] (.storeSettings l tag) l tag (execStoreSettings l tag) :=
  requestWithin_of fun _ => .guard (.guard (actsWithin_accepted within_unread))

theorem requestWithin_readCounters {l tag group clear} :
    RequestWithin [] (.readCounters l tag group clear) l tag (execReadCounters l tag group clear) := by
  refine requestWithin_of fun _ => ?_
  split
  · exact actsWithin_done (.ite within_unread .refl)
  · exact actsWithin_deny

theorem requestWithin_setClock {l tag value} :
    RequestWithin [] (.setClock l tag value) l tag (execSetClock l tag value) :=
  requestWithin_of fun _ => actsWithin_done within_unread

theorem requestWithin_identify {l tag} :
    RequestWithin [] (.identify l tag) l tag (execIdentify l tag) :=
  requestWithin_of fun _ => actsWithin_done .refl

/-- Every request but CONTROLLER RESET is one act within its footprint. -/
theorem requestWithin_exec {i : Instr} {l : Link} {tag : Byte} (request : i.sender = some (l, tag))
    (renew : renews i = false) : RequestWithin (touched i) i l tag (exec i) := by
  cases i <;> simp only [Instr.sender, Option.some.injEq, Prod.mk.injEq, reduceCtorEq] at request
  all_goals obtain ⟨rfl, rfl⟩ := request
  case controllerReset => exact Bool.noConfusion renew
  case unknownRequest => exact requestWithin_unknownRequest
  case channelStatus => exact requestWithin_channelStatus
  case inputStatus => exact requestWithin_inputStatus
  case axisMove => exact requestWithin_axisMove
  case axisStop => exact requestWithin_axisStop
  case axisJog => exact requestWithin_axisJog
  case tripReset => exact requestWithin_tripReset
  case manualEnter => exact requestWithin_manualEnter
  case manualSet => exact requestWithin_manualSet
  case manualApply => exact requestWithin_manualApply
  case manualLeave => exact requestWithin_manualLeave
  case axisStatus => exact requestWithin_axisStatus
  case driveStatus => exact requestWithin_driveStatus
  case takeStation => exact requestWithin_takeStation
  case yieldStation => exact requestWithin_yieldStation
  case refuseStation => exact requestWithin_refuseStation
  case deckHold => exact requestWithin_deckHold
  case deckResume => exact requestWithin_deckResume
  case serviceEnter => exact requestWithin_serviceEnter
  case serviceLeave => exact requestWithin_serviceLeave
  case stationStatus => exact requestWithin_stationStatus
  case doorHold => exact requestWithin_doorHold
  case doorHoldZone => exact requestWithin_doorHoldZone
  case doorRelease => exact requestWithin_doorRelease
  case doorReleaseZone => exact requestWithin_doorReleaseZone
  case doorIsolate => exact requestWithin_doorIsolate
  case doorRestore => exact requestWithin_doorRestore
  case zoneAlarm => exact requestWithin_zoneAlarm
  case doorStatus => exact requestWithin_doorStatus
  case zoneStatus => exact requestWithin_zoneStatus
  case termWrite => exact requestWithin_termWrite
  case permissiveWrite => exact requestWithin_permissiveWrite
  case termStatus => exact requestWithin_termStatus
  case permissiveStatus => exact requestWithin_permissiveStatus
  case callPost => exact requestWithin_callPost
  case callCancel => exact requestWithin_callCancel
  case callStatus => exact requestWithin_callStatus
  case patternWrite => exact requestWithin_patternWrite
  case boardStatus => exact requestWithin_boardStatus
  case alarmAck => exact requestWithin_alarmAck
  case alarmList => exact requestWithin_alarmList
  case outputSet => exact requestWithin_outputSet
  case outputStatus => exact requestWithin_outputStatus
  case reportSelect => exact requestWithin_reportSelect
  case linkRestart => exact requestWithin_linkRestart
  case linkStatus => exact requestWithin_linkStatus
  case settingsWriteAxis => exact requestWithin_settingsWriteAxis
  case settingsWriteDrive => exact requestWithin_settingsWriteDrive
  case settingsWriteChannel => exact requestWithin_settingsWriteChannel
  case settingsWriteDoor => exact requestWithin_settingsWriteDoor
  case settingsWriteZone => exact requestWithin_settingsWriteZone
  case settingsWriteScanner => exact requestWithin_settingsWriteScanner
  case settingsWriteRouting => exact requestWithin_settingsWriteRouting
  case settingsWriteOutput => exact requestWithin_settingsWriteOutput
  case settingsWriteLink => exact requestWithin_settingsWriteLink
  case settingsRead => exact requestWithin_settingsRead
  case storeSettings => exact requestWithin_storeSettings
  case readCounters => exact requestWithin_readCounters
  case setClock => exact requestWithin_setClock
  case identify => exact requestWithin_identify

end Sys2Proof.Proofs
end

section
/-! SUPPORT. The start and the command reset as changes of state, what a command leaves of a state, and the
obligations on every command. -/

open Sys2Proof Sys2Proof.Machine

namespace Sys2Proof.Proofs

/-! ### The start and the command reset (R179, R180) -/

/-- Every part but the queue of waiting commands. -/
def blocks : List Part :=
  [.axisSettings, .routing, .doorSettings, .zoneSettings, .inputs, .axes, .valves, .station, .doors,
   .zones, .calls, .alarms, .links, .trims, .keyReleases, .stopNotices, .holderNotices]

theorem within_blocks {s t : State} (same : t.pending = s.pending) : Within blocks s t := by
  intro p hp
  cases p <;> first | exact same | exact absurd (by decide) hp

theorem within_startDoor {s : State} {d : Fin 32} : Within [.doors] s (s.startDoor d) :=
  .ite within_deriveDoor .refl

/-- The notices on their way. -/
def noticeParts : List Part := [.trims, .keyReleases, .stopNotices, .holderNotices]

/-- Changes of the notices alone. -/
theorem within_handed {s : State} {handed : List Instr} : Within noticeParts s { s with handed } := by
  intro p hp
  have kept := Part.Kept.refl p s
  cases p <;> first | exact kept | exact absurd (by decide) hp

/-- What a change says on the links and hands on may be kept back. -/
theorem Within.quiet {ps : List Part} {s t : State} (h : Within ps s t) : Within ps s (t.quiet s) := by
  intro p hp
  have changed := h p hp
  have kept := Part.Kept.refl p s
  cases p with
  | links | trims | keyReleases | stopNotices | holderNotices => exact kept
  | _ => exact changed

theorem within_startDoors {s : State} : Within [.doors] s s.startDoors := by
  unfold State.startDoors
  exact (Within.foldl (fun _ _ => within_startDoor) _ _).quiet

theorem within_startZones {s : State} : Within (.doors :: .zones :: noticeParts) s s.startZones := by
  unfold State.startZones
  exact ((Within.foldl (fun _ _ => within_evalZone) _ _).then within_handed).mono (by decide)

theorem within_startSensors {s : State} : Within [] s s.startSensors := by
  intro p _
  have kept := Part.Kept.refl p s
  cases p with
  | axes =>
    intro a
    simpa [State.startSensors] using ⟨rfl, rfl, rfl, rfl, rfl, rfl, rfl, rfl, rfl⟩
  | _ => exact kept

theorem within_startAlarms {s : State} : Within (.alarms :: noticeParts) s s.startAlarms := by
  unfold State.startAlarms
  extract_lets order flagged raised
  have flags : Within [.alarms] s flagged := .foldl (fun _ _ => within_setFlag) _ _
  have raise : Within [.alarms] s raised := .ite ((flags.then within_raiseMomentary).mono (by decide)) flags
  exact (raise.then within_handed).mono (by decide)

theorem within_startSlots {s : State} : Within [] s s.startSlots :=
  (within_unread.then within_hand).mono (by decide)

theorem within_takeLoad {s : State} {inputs : InputLevels} {doors : Vector DoorInputs 32} :
    Within blocks s (s.takeLoad inputs doors) := within_blocks rfl

theorem within_startLines {s : State} : Within [] s s.startLines := within_lines

/-- What the start does once the settings are in force. -/
theorem within_startBlocks {s : State} {inputs : InputLevels} {doors : Vector DoorInputs 32} :
    Within (.doors :: .zones :: .alarms :: noticeParts) (s.takeLoad inputs doors)
      (s.start inputs doors) := by
  unfold State.start
  exact (within_startDoors.then within_startZones
    |>.then within_startSensors |>.then within_startAlarms |>.then within_startLines
    |>.then within_startSlots |>.then within_hand).mono (by decide)

theorem within_start {s : State} {inputs : InputLevels} {doors : Vector DoorInputs 32} :
    Within blocks s (s.start inputs doors) :=
  (within_takeLoad.then within_startBlocks).mono (by decide)

theorem within_resetChannels {s : State} {x : Settings} : Within [] s (s.resetChannels x) :=
  Within.foldl (fun _ _ => within_rewriteChannel) _ _

theorem within_resetAxis {s : State} {a : Fin 4} : Within [.axes, .valves] s (s.resetAxis a) := by
  have reset := within_setC (s := s) (a := a) (v := 0)
    |>.then (within_endMotion (a := a) (o := .reset))
    |>.then (within_modAxis (a := a) (f := AxisRecord.reset))
  refine .quietly ?_ within_evalSensor
  exact (Within.ite reset (reset.quietly within_hand)).mono (by decide)

theorem within_resetStation {s : State} : Within [.station] s s.resetStation :=
  .ite within_station ((within_station.then within_hand).mono (by decide))

theorem within_releaseIfAlarm {s : State} {d : Fin 32} : Within [.doors] s (s.releaseIfAlarm d) :=
  .ite within_releaseDoor .refl

theorem within_resetDoors {s : State} {old : Settings} :
    Within [.doors, .zones] s (s.resetDoors old) := by
  unfold State.resetDoors
  exact ((Within.foldl (fun _ _ => within_rekindDoor) _ _).then within_recount
    |>.then (Within.foldl (fun _ _ => within_evalZone) _ _)
    |>.then (Within.foldl (fun _ _ => within_releaseIfAlarm) _ _)).mono (by decide)

theorem within_resetCalls {s : State} : Within [.calls] s s.resetCalls := within_sweepCalls

theorem within_postAlarmZones {s : State} : Within [] s s.postAlarmZones := within_hand

theorem within_resetAlarms {s : State} {old : Settings} : Within [.alarms] s (s.resetAlarms old) :=
  (within_rebuildAlarms.then (Within.foldl (fun _ _ => within_applyOutput) _ _)).mono (by decide)

theorem within_resetSlots {s : State} : Within [] s s.resetSlots := within_reslot

theorem within_dropOvertaken {s : State} : Within noticeParts s s.dropOvertaken := within_handed

/-- The parts of the settings. -/
def settingsParts : List Part := [.axisSettings, .routing, .doorSettings, .zoneSettings]

theorem within_reload {s : State} : Within settingsParts s s.reload := by
  intro p hp
  have kept := Part.Kept.refl p s
  cases p <;> first | exact kept | exact absurd (by decide) hp

theorem within_resetAxes {s : State} : Within [.axes, .valves] s
    ((List.finRange 4).foldl State.resetAxis s) := .foldl (fun _ _ => within_resetAxis) _ _

/-- What the reset leaves are the inputs, the links and the waiting commands. -/
theorem within_resetBlocks {s : State} : Within (settingsParts ++ [.axes, .valves, .station, .doors,
    .zones, .calls, .alarms] ++ noticeParts) s s.resetBlocks := by
  unfold State.resetBlocks
  exact (within_dropOvertaken.then within_reload |>.then within_resetChannels
    |>.then within_resetAxes |>.then within_resetStation |>.then within_resetDoors
    |>.then within_dropOvertaken |>.then within_resetCalls |>.then within_resetAlarms
    |>.then within_resetSlots |>.then within_postAlarmZones |>.then within_hand).mono (by decide)

theorem within_emptyQueues {s before : State} : Within blocks s (s.emptyQueues before) :=
  within_blocks rfl

theorem within_commandReset {s : State} : Within blocks s s.commandReset := by
  unfold State.commandReset
  extract_lets emptied reported
  have reports : Within blocks s reported :=
    (within_resetBlocks.then within_emptyQueues |>.then within_report).mono (by decide)
  exact .ite (reports.quietly within_hand) reports

theorem requestWithin_controllerReset {l : Link} {tag : Byte} :
    RequestWithin blocks (.controllerReset l tag) l tag (execControllerReset l tag) :=
  requestWithin_of fun _ => .guard (.guard (actsWithin_done within_commandReset))

/-- Every request is one act, within its footprint and refused without effect. -/
theorem exists_rule {i : Instr} {l : Link} {tag : Byte} (request : i.sender = some (l, tag)) :
    RequestWithin (touched i) i l tag (exec i) := by
  by_cases renew : renews i = false
  · exact requestWithin_exec request renew
  · cases i <;> simp only [renews, not_true_eq_false] at renew <;>
      simp only [Instr.sender, Option.some.injEq, Prod.mk.injEq, reduceCtorEq] at request
    obtain ⟨rfl, rfl⟩ := request
    exact requestWithin_controllerReset

/-! ### What a command leaves -/

/-- While the part does not run, the events but those of power leave the state as it is. -/
theorem EventWithin.stands {ps : List Part} {i : Instr} {e : State → Result} (h : EventWithin ps i e)
    {s : State} (off : s.power ≠ .running) : e s = .next s := by
  obtain ⟨f, act, -⟩ := h
  exact (act s).trans (runEvent_of_not_running off)

theorem RequestWithin.stands {ps : List Part} {i : Instr} {l : Link} {tag : Byte} {e : State → Result}
    (h : RequestWithin ps i l tag e) {s : State} (off : s.power ≠ .running) : e s = .next s := by
  obtain ⟨f, act, -⟩ := h
  exact (act s).trans (runRequest_of_not_running off)

theorem EventWithin.next {ps : List Part} {i : Instr} {e : State → Result} (h : EventWithin ps i e)
    (s : State) : ∃ t, e s = .next t ∧ (t = s ∨ Within ps (s.taken i) t) := by
  obtain ⟨f, act, within⟩ := h
  by_cases running : s.power = .running
  · have acted := (act s).trans (runEvent_of_running running)
    exact ⟨_, acted, .inr ((within _).quietly within_pump)⟩
  · exact ⟨s, (act s).trans (runEvent_of_not_running running), .inl rfl⟩

theorem RequestWithin.next {ps : List Part} {i : Instr} {l : Link} {tag : Byte} {e : State → Result}
    (h : RequestWithin ps i l tag e) (s : State) :
    ∃ t, e s = .next t ∧ (t = s ∨ Within ps (s.taken i) t) := by
  obtain ⟨f, act, within⟩ := h
  by_cases running : s.power = .running
  · have acted := (act s).trans (runRequest_of_running running)
    exact ⟨_, acted, runRequest_within ((act s).symm.trans acted) fun u => (within u).within⟩
  · exact ⟨s, (act s).trans (runRequest_of_not_running running), .inl rfl⟩

/-- What is left of a state by any command: it stands, or the command has acted within its footprint. -/
theorem exec_within (i : Instr) (s : State) :
    ∃ t, exec i s = .next t ∧ (t = s ∨ Within (touched i) (s.taken i) t) := by
  cases sender : i.sender with
  | some x => exact (exists_rule sender).next s
  | none =>
    by_cases renew : renews i = false
    · exact (eventWithin_exec sender renew).next s
    · cases i <;> simp only [renews, not_true_eq_false] at renew
      case powerOn => exact ⟨_, rfl, .inr (within_blocks rfl)⟩
      case powerLoss => exact ⟨_, rfl, .inr (within_blocks rfl)⟩
      case settingsLoadEnd inputs doors =>
        by_cases loading : s.power = .loading
        · refine ⟨_, if_pos loading, .inr (within_blocks ?_)⟩
          exact (within_start.then within_pump) .pending (by decide)
        · exact ⟨s, if_neg loading, .inl rfl⟩
      case controllerReset => exact absurd sender nofun

/-- Settles O2: every command stands still or acts within its footprint, which is never the queue. -/
theorem everyCommandAnswersNext : Obligations.EveryCommandAnswersNext := by
  refine ⟨fun i s => ?answers, fun i s off notOn notLoss notLoaded => ?stands⟩
  case answers =>
    obtain ⟨t, answer, rfl | acted⟩ := exec_within i s
    · exact ⟨t, answer, rfl⟩
    · refine ⟨t, answer, acted .pending ?_⟩
      cases i <;> simp [touched]
  case stands =>
    cases sender : i.sender with
    | some x => exact (exists_rule sender).stands off
    | none =>
      by_cases renew : renews i = false
      · exact (eventWithin_exec sender renew).stands off
      · cases i <;> simp only [renews, not_true_eq_false] at renew
        case powerOn => exact absurd rfl notOn
        case powerLoss => exact absurd rfl notLoss
        case settingsLoadEnd inputs doors =>
          exact if_neg fun loading => notLoaded loading inputs doors rfl
        case controllerReset => exact absurd sender nofun

/-! ### Replies (R167) -/

/-- A transmitter keeps the reply last given, in the slot or on the line. -/
theorem lastReply_transmit {c : LinkController} {r : Reply} (placed : c.slot = some r) :
    c.transmit.lastReply = some r := by
  unfold LinkController.transmit
  rw [placed]
  cases line : c.line with
  | none => rfl
  | some x => simp [LinkController.lastReply, placed]

/-- The reply a request is given in its act. -/
theorem lastReply_placeReply (s : State) (l : Link) (r : Reply) :
    ((s.placeReply l r).pump.links.get l).lastReply = some r := by
  cases l <;> exact lastReply_transmit rfl

/-- A frame that spells the request leaves the waiting position. -/
theorem waiting_openRequest {s : State} {l : Link} {i : Instr} {f : Frame}
    (waits : (s.links.get l).waiting = some f) (spells : decodeFrame l f = .request i) :
    ((s.openRequest l i).links.get l).waiting = none := by
  have released : ((s.links.get l).release l i).waiting = none := by
    rw [LinkController.release, waits]
    exact if_pos spells
  rw [State.openRequest, State.modLink_links, pair_get_set_self]
  exact (linkSpeaks_freeSlot _).waiting released

/-- What an act may do to the frame waiting on a link: take it, but put none there. -/
def NoFrameJoins (l : Link) (s t : State) : Prop :=
  (s.links.get l).waiting = none → (t.links.get l).waiting = none

theorem Within.noFrameJoins {ps : List Part} {s t : State} (h : Within ps s t) (l : Link)
    (apart : .links ∉ ps) : NoFrameJoins l s t := (h .links apart l).waiting

theorem NoFrameJoins.done {l : Link} {s t : State} (h : NoFrameJoins l s t) (bs : List Byte) :
    NoFrameJoins l s (done t bs).1 := h

theorem noFrameJoins_deny (l : Link) (s : State) (code : RefusalCode) :
    NoFrameJoins l s (deny s code).1 := id

theorem noFrameJoins_restartLink (s : State) (l : Link) : NoFrameJoins l s (s.restartLink l) := by
  intro _
  have cleared : ((s.modLink l (·.restarted l)).links.get l).waiting = none := by
    rw [State.modLink_links, pair_get_set_self]
    rfl
  have returned (t : State) : NoFrameJoins l t
      (if (s.links.get l).state = .lost then t.hand [.alarmSourceChange (.linkLost l) false] else t) :=
    (Within.ite within_hand .refl).noFrameJoins l (by decide)
  exact within_dropLevel.noFrameJoins l (by decide) (returned _ cleared)

theorem waiting_emptyQueues {s before : State} {l : Link}
    (none : (before.links.get l).waiting = none) :
    ((s.emptyQueues before).links.get l).waiting = .none := by cases l <;> exact none

theorem noFrameJoins_commandReset (s : State) (l : Link) : NoFrameJoins l s s.commandReset := by
  unfold State.commandReset
  extract_lets emptied reported
  have told : Within [] emptied (if emptied.store.defaulted then
      reported.hand [.momentaryRaise .settingsDefaulted] else reported) :=
    .ite ((within_report.then within_hand).mono (by decide)) within_report
  exact fun none => told.noFrameJoins l (by decide) (waiting_emptyQueues none)

theorem noFrameJoins_execControllerReset (l : Link) (u : State) :
    NoFrameJoins l u (if !u.atService l then deny u .level
      else if u.store.busy then deny u .busy else done u.commandReset []).1 := by
  split
  · exact noFrameJoins_deny l u _
  · split
    · exact noFrameJoins_deny l u _
    · exact (noFrameJoins_commandReset u l).done _

/-- Every request is one act of a rule that changes nothing where it refuses, and that puts no frame in the
waiting position of its link. -/
theorem exists_rule_noFrameJoins {i : Instr} {l : Link} {tag : Byte}
    (request : i.sender = some (l, tag)) :
    ∃ f : State → State × ReplyData, (∀ s, exec i s = runRequest i l tag s f) ∧
      (∀ u c, (f u).2 = .refused c → (f u).1 = u) ∧ ∀ u, NoFrameJoins l u (f u).1 := by
  by_cases apart : .links ∈ touched i
  · cases i <;> simp only [Instr.sender, Option.some.injEq, Prod.mk.injEq, reduceCtorEq] at request
    case linkRestart =>
      obtain ⟨rfl, rfl⟩ := request
      exact ⟨fun u => done (u.restartLink _) [], fun _ => rfl, fun _ _ => nofun,
        fun u => (noFrameJoins_restartLink u _).done _⟩
    case controllerReset =>
      obtain ⟨rfl, rfl⟩ := request
      refine ⟨fun u => if !u.atService _ then deny u .level
        else if u.store.busy then deny u .busy else done u.commandReset [], fun _ => rfl,
        fun u c refused => ?_, fun u => noFrameJoins_execControllerReset _ u⟩
      exact (ActsWithin.guard (.guard (actsWithin_done within_commandReset))).refusal c refused
    all_goals simp [touched] at apart
  · obtain ⟨f, act, within⟩ := exists_rule request
    exact ⟨f, act, fun u => (within u).refusal, fun u => (within u).within.noFrameJoins l apart⟩

/-- Settles O3: every request is one act of a rule that changes nothing where it refuses, and the reply it
is given stands after the transmitters have chosen. -/
theorem requestsAreAnsweredAndRefusalsChangeNothing :
    Obligations.RequestsAreAnsweredAndRefusalsChangeNothing := by
  refine ⟨fun i l tag s request running => ?answered,
    fun i l tag code s t request running answer last => ?refused⟩ <;>
    obtain ⟨f, act, refusal, joins⟩ := exists_rule_noFrameJoins request
  case answered =>
    refine ⟨_, _, (act s).trans (runRequest_of_running running), lastReply_placeReply _ l _,
      fun frame waits spells => ?_⟩
    have answered (u : State) (r : Reply) : NoFrameJoins l u (u.placeReply l r).pump :=
      (within_placeReply.then within_pump).noFrameJoins l (by decide)
    exact answered _ _ (joins _ (waiting_openRequest waits spells))
  case refused =>
    have acted := (act s).trans (runRequest_of_running running)
    obtain rfl := Host.Outcome.next.inj (answer.symm.trans acted)
    have reply := Option.some.inj ((lastReply_placeReply _ l _).symm.trans last)
    have refuses : (f (s.openRequest l i)).2 = .refused code := congrArg Reply.data reply
    rw [refuses, refusal _ _ refuses]
    rfl

end Sys2Proof.Proofs
end

section
/-! SUPPORT. The laws of single blocks, the links (10) first: a law that reads some parts is kept by every
step that changes none of them, and what is left are the commands of the block. -/

open Sys2Proof Sys2Proof.Machine

namespace Sys2Proof.Proofs

theorem done_fst (s : State) (bs : List Byte) : (done s bs).1 = s := rfl

theorem deny_fst (s : State) (code : RefusalCode) : (deny s code).1 = s := rfl

/-! ### Laws by what they read -/

/-- A law that reads the parts `ps` alone. -/
def Reads (ps : List Part) (L : State → Prop) : Prop :=
  ∀ s t : State, (∀ p ∈ ps, p.Kept s t) → L s → L t

/-- A law is kept by every change apart from what it reads. -/
theorem Reads.within {ps qs : List Part} {L : State → Prop} (reads : Reads ps L) {s t : State}
    (h : Within qs s t) (law : L s) (apart : ∀ p ∈ ps, p ∉ qs) : L t :=
  reads s t (fun p hp => h p (apart p hp)) law

theorem within_noticeParts {s : State} {i : Instr} : Within noticeParts s (s.taken i) := within_taken

section
variable {ps : List Part} {L : State → Prop} (reads : Reads ps L)
include reads

/-- A command apart from what a law reads keeps it, where its notice may be taken. -/
theorem Reads.exec_taken {i : Instr} {s t : State} (law : L s) (taken : L (s.taken i))
    (h : exec i s = .next t) (apart : ∀ p ∈ ps, p ∉ touched i) : L t := by
  obtain ⟨u, answer, rfl | acted⟩ := exec_within i s
  · exact Host.Outcome.next.inj (answer.symm.trans h) ▸ law
  · exact Host.Outcome.next.inj (answer.symm.trans h) ▸ reads.within acted taken apart

/-- An event keeps a law that its act keeps once its notice is taken. -/
theorem Reads.runEvent_taken {i : Instr} {f : State → State} {s t : State}
    (h : Machine.runEvent i s f = .next t) (act : L (f (s.taken i))) (law : L s) : L t := by
  rcases runEvent_cases h with ⟨-, rfl⟩ | ⟨-, rfl⟩
  · exact reads.within within_pump act fun _ _ => List.not_mem_nil
  · exact law

/-- A command apart from what a law reads keeps it. -/
theorem Reads.exec_apart (noNotice : ∀ p ∈ ps, p ∉ noticeParts) {i : Instr} {s t : State} (law : L s)
    (h : exec i s = .next t) (apart : ∀ p ∈ ps, p ∉ touched i) : L t :=
  reads.exec_taken law (reads.within within_noticeParts law noNotice) h apart

/-- An event keeps a law that its act keeps. -/
theorem Reads.runEvent (noNotice : ∀ p ∈ ps, p ∉ noticeParts) {i : Instr} {f : State → State}
    {s t : State} (h : Machine.runEvent i s f = .next t) (act : ∀ u, L u → L (f u)) (law : L s) :
    L t :=
  reads.runEvent_taken h (act _ (reads.within within_noticeParts law noNotice)) law

/-- A request keeps a law that its rule keeps. -/
theorem Reads.runRequest {i : Instr} {l : Link} {tag : Byte} {f : State → State × ReplyData}
    {s t : State} (h : Machine.runRequest i l tag s f = .next t) (act : ∀ u, L u → L (f u).1)
    (law : L s) : L t := by
  rcases runRequest_cases h with ⟨-, rfl⟩ | ⟨-, rfl⟩
  · have opened : L (s.openRequest l i) :=
      reads.within within_openRequest law fun _ _ => List.not_mem_nil
    exact reads.within (within_placeReply.then within_pump) (act _ opened) (by simp)
  · exact law

end

/-- A law kept by every command, by a frame refused and by a millisecond is kept by every step. -/
theorem step_keeps {L : State → Prop} (popped : ∀ s p, L s → L { s with pending := p })
    (commands : ∀ i s t, L s → exec i s = .next t → L t)
    (refusals : ∀ s l f code, L s → L (s.refuseFrame l f code)) (ticks : ∀ s, L s → L s.tick)
    {s t : State} (law : L s) (h : step s = .next t) : L t := by
  cases queue : s.pending with
  | cons c rest =>
    rw [step_of_pending queue] at h
    exact commands c _ t (popped s rest law) h
  | nil =>
    rw [step_of_idle queue, idleStep] at h
    split at h
    · exact commands _ s t law h
    · exact Host.Outcome.next.inj h ▸ refusals s _ _ _ law
    · exact Host.Outcome.next.inj h ▸ ticks s law
    · exact Host.Outcome.next.inj h ▸ law

theorem within_popped {s : State} (rest : List Instr) :
    Within [.pending] s { s with pending := rest } := by
  intro p hp
  have kept := Part.Kept.refl p s
  cases p <;> first | exact kept | exact absurd (List.mem_singleton_self _) hp

theorem within_refuseFrame {s : State} {l : Link} {f : Frame} {code : RefusalCode} :
    Within [] s (s.refuseFrame l f code) :=
  (within_modLink_speaks ⟨id, rfl, rfl, rfl, rfl, fun _ => rfl⟩).quietly within_placeReply
    |>.quietly within_pump

theorem axisAlike_tick (x : AxisRecord) : AxisAlike x x.tick :=
  ⟨rfl, rfl, rfl, rfl, rfl, Option.isSome_map, Option.isSome_map, rfl, rfl⟩

/-- A millisecond runs the timers alone: the laws see it in the calls' timers at most. -/
theorem within_tick {s : State} : Within [.calls] s s.tick := by
  intro p hp
  have kept := Part.Kept.refl p s
  cases p with
  | axes =>
    intro a
    simpa [State.tick] using axisAlike_tick _
  | valves => intro a; simp [State.tick, Generator.tick]
  | station =>
    refine ⟨fun a => ?_, fun a => ?_, rfl, rfl, rfl⟩
    · simp [State.tick, Authority.tick]
    · simp [State.tick, Authority.tick, Function.comp_def]
  | doors => intro d; simp [State.tick, DoorRecord.tick]
  | links =>
    intro l
    cases l <;> exact ⟨id, rfl, Option.isSome_map, rfl, rfl, id⟩
  | calls => exact absurd (List.mem_singleton_self _) hp
  | _ => exact kept

/-- A settings write keeps a law that its effect keeps. -/
theorem Reads.settingsWrite {ps : List Part} {L : State → Prop} (reads : Reads ps L) {α : Type}
    {s : State} {l : Link} {taken : Option α} {inUse : α → Bool} {write : α → State}
    {data : α → List Byte} (law : L s) (act : ∀ x, inUse x = false → L (write x)) :
    L (s.settingsWrite l taken inUse write data).1 := by
  unfold State.settingsWrite
  split
  · exact law
  cases taken with
  | none => exact law
  | some x =>
    dsimp only
    split
    · exact law
    split
    · exact law
    · rw [done_fst]
      exact reads.within within_unread (act x (Bool.eq_false_iff.2 ‹_›)) fun _ _ => List.not_mem_nil

/-- A law is kept by every command that holds where the supply comes and goes, that the start and the
command reset keep, and that every other command keeps. -/
theorem Reads.commands {ps : List Part} {L : State → Prop} (reads : Reads ps L)
    (image : ∀ image power rest, L { State.powerOn image with power := power, pending := rest })
    (start : ∀ s inputs doors, L s → L (s.start inputs doors))
    (reset : ∀ s, L s → L s.commandReset)
    (commands : ∀ i s t, renews i = false → L s → exec i s = .next t → L t)
    (i : Instr) (s t : State) (law : L s) (h : exec i s = .next t) : L t := by
  by_cases renew : renews i = false
  · exact commands i s t renew law h
  cases i <;> simp only [renews, not_true_eq_false] at renew
  case powerOn => exact Host.Outcome.next.inj h ▸ image _ _ _
  case powerLoss => exact Host.Outcome.next.inj h ▸ image _ _ _
  case settingsLoadEnd inputs doors =>
    change execSettingsLoadEnd inputs doors s = _ at h
    unfold execSettingsLoadEnd at h
    split at h
    · exact Host.Outcome.next.inj h ▸
        reads.within within_pump (start s inputs doors law) fun _ _ => List.not_mem_nil
    · exact Host.Outcome.next.inj h ▸ law
  case controllerReset l tag =>
    change execControllerReset l tag s = _ at h
    refine reads.runRequest h (fun u law => ?_) law
    split
    · exact law
    · split
      · exact law
      · rw [done_fst]
        exact reset u law

/-- A law that reads neither the calls nor the waiting commands is kept by every step where every command
keeps it. -/
theorem Reads.step {ps : List Part} {L : State → Prop} (reads : Reads ps L)
    (apart : ∀ p ∈ ps, p ∉ [Part.pending, .calls])
    (commands : ∀ i s t, L s → exec i s = .next t → L t) {s t : State} (law : L s)
    (h : step s = .next t) : L t := by
  refine step_keeps (fun s p law => ?_) commands
    (fun s l f code law => reads.within within_refuseFrame law fun _ _ => List.not_mem_nil)
    (fun s law => reads.within within_tick law fun p hp => ?_) law h
  · exact reads.within (qs := [.pending]) (within_popped p) law
      fun p hp => by simpa using (not_or.1 (mt List.mem_cons.2 (apart p hp))).1
  · simpa using (not_or.1 (mt List.mem_cons.2 (apart p hp))).2

/-! ### The law of the links (R165, R169, R170) -/

/-- What the law asks of one link. -/
def LinkLawful (c : LinkController) : Prop :=
  c.queue.length ≤ 32 ∧ (c.timer.isSome = decide (c.state = .up)) ∧
    (c.assembly.isNone = decide (c.receiver = .hunt))

theorem linkLaw_iff (s : State) : s.LinkLaw ↔ ∀ l, LinkLawful (s.links.get l) := Iff.rfl

theorem LinkLawful.speaks {c d : LinkController} (law : LinkLawful c) (h : LinkSpeaks c d) :
    LinkLawful d := by
  obtain ⟨queue, timer, assembly⟩ := law
  exact ⟨h.queue queue, by rw [h.timer, h.state, timer], by rw [h.assembly, h.receiver, assembly]⟩

theorem linkLaw_reads : Reads [.links] State.LinkLaw :=
  fun _ _ kept law l => LinkLawful.speaks (law l) (kept .links (List.mem_singleton_self _) l)

/-- The law is kept by every change of other parts. -/
theorem linkLaw_within {qs : List Part} {s t : State} (law : s.LinkLaw) (h : Within qs s t)
    (apart : .links ∉ qs) : t.LinkLaw := linkLaw_reads.within h law (by simpa using apart)

theorem linkLaw_modLink {s : State} {l : Link} {f : LinkController → LinkController} (law : s.LinkLaw)
    (lawful : LinkLawful (f (s.links.get l))) : (s.modLink l f).LinkLaw := by
  intro m
  by_cases same : m = l
  · subst same
    rw [State.modLink_links, pair_get_set_self]
    exact lawful
  · rw [State.modLink_links, pair_get_set_other _ _ _ _ same]
    exact law m

theorem linkLawful_hunt {c : LinkController} (law : LinkLawful c) : LinkLawful c.hunt :=
  ⟨law.1, law.2.1, rfl⟩

theorem linkLawful_restarted (c : LinkController) (l : Link) : LinkLawful (c.restarted l) :=
  ⟨Nat.zero_le _, rfl, rfl⟩

theorem linkLaw_hunt {s : State} (l : Link) (law : s.LinkLaw) : (s.modLink l (·.hunt)).LinkLaw :=
  linkLaw_modLink law (linkLawful_hunt (law l))

theorem linkLaw_discardFrame {s : State} (l : Link) (law : s.LinkLaw) : (s.discardFrame l).LinkLaw :=
  linkLaw_within (linkLaw_hunt l law) within_countCrc (by decide)

theorem linkLaw_supervise {s : State} (l : Link) (law : s.LinkLaw) : (s.supervise l).LinkLaw := by
  have ended := linkLaw_within law (within_endLoss (l := l)) (by decide)
  have fed : ((s.endLoss l).modLink l fun c =>
      { c with state := .up, timer := some (s.settings.supervision.get l) }).LinkLaw :=
    linkLaw_modLink ended ⟨(ended l).1, rfl, (ended l).2.2⟩
  unfold State.supervise
  dsimp only
  split
  · exact linkLaw_within fed within_hand (by decide)
  · exact fed

theorem linkLaw_acceptFrame {s : State} (l : Link) (f : Frame) (law : s.LinkLaw) :
    (s.acceptFrame l f).LinkLaw := by
  unfold State.acceptFrame
  split
  · exact linkLaw_modLink law (law l)
  · exact linkLaw_within law within_countLink (by decide)

theorem linkLaw_completeFrame {s : State} (l : Link) (f : Frame) (crc : BitVec 16) (law : s.LinkLaw) :
    (s.completeFrame l f crc).LinkLaw := by
  have hunting := linkLaw_hunt l law
  unfold State.completeFrame
  dsimp only
  split
  · exact linkLaw_acceptFrame l f
      (linkLaw_supervise l (linkLaw_within hunting within_countLink (by decide)))
  · exact linkLaw_within hunting within_countCrc (by decide)

theorem linkLaw_bodyByte {s : State} {l : Link} (bs : List Byte) (law : s.LinkLaw)
    (body : (s.links.get l).receiver = .body) : (s.bodyByte l bs).LinkLaw := by
  unfold State.bodyByte
  split
  · refine linkLaw_modLink law ⟨(law l).1, (law l).2.1, ?_⟩
    rw [body]
    rfl
  · exact linkLaw_completeFrame l _ _ law

theorem linkLaw_restartLink {s : State} (l : Link) (law : s.LinkLaw) : (s.restartLink l).LinkLaw := by
  have cleared : (s.modLink l (·.restarted l)).LinkLaw :=
    linkLaw_modLink law (linkLawful_restarted _ l)
  refine linkLaw_within ?_ within_dropLevel (by decide)
  split
  · exact linkLaw_within cleared within_hand (by decide)
  · exact cleared

theorem linkLaw_powerOn (image : Image) : (State.powerOn image).LinkLaw := by
  intro l
  cases l <;> exact ⟨Nat.zero_le _, rfl, rfl⟩

theorem linkLaw_emptyQueues {s before : State} (law : before.LinkLaw) :
    (s.emptyQueues before).LinkLaw := by
  intro l
  obtain ⟨-, timer, assembly⟩ := law l
  cases l <;> exact ⟨Nat.zero_le _, timer, assembly⟩

theorem linkLaw_commandReset {s : State} (law : s.LinkLaw) : s.commandReset.LinkLaw := by
  unfold State.commandReset
  extract_lets emptied reported
  have told : Within [] emptied (if emptied.store.defaulted then
      reported.hand [.momentaryRaise .settingsDefaulted] else reported) :=
    .ite (within_report.then within_hand) within_report
  exact linkLaw_within (linkLaw_emptyQueues law) told (by decide)

/-- The start says what it reports of the zones and the alarms, and nothing else, on the links. -/
theorem linkLaw_start {s : State} (inputs : InputLevels) (doors : Vector DoorInputs 32) :
    (s.start inputs doors).LinkLaw :=
  linkLaw_within (s := s.takeLoad inputs doors) (linkLaw_powerOn s.store.image) within_startBlocks
    (by decide)

/-- The state the power events leave. -/
theorem linkLaw_image (image : Image) (power : Power) (rest : List Instr) :
    { State.powerOn image with power := power, pending := rest }.LinkLaw := by
  intro l
  cases l <;> exact ⟨Nat.zero_le _, rfl, rfl⟩

/-- The link commands keep the law, and the others stand apart from the links. -/
theorem linkLaw_command (i : Instr) (s t : State) (renew : renews i = false) (law : s.LinkLaw)
    (h : exec i s = .next t) : t.LinkLaw := by
  have event {i : Instr} {f : State → State} (h : runEvent i s f = .next t)
      (act : ∀ u, u.LinkLaw → (f u).LinkLaw) : t.LinkLaw :=
    linkLaw_reads.runEvent (by decide) h act law
  by_cases apart : .links ∉ touched i
  · exact linkLaw_reads.exec_apart (by decide) law h (by simpa using apart)
  cases i <;> simp only [touched, List.mem_cons, List.not_mem_nil, reduceCtorEq, or_false, or_true,
    not_true_eq_false, not_false_eq_true] at apart
  case byteReceived l b =>
    change execByteReceived l b s = _ at h
    refine event h fun u law => ?_
    split
    · split
      · exact linkLaw_modLink law ⟨(law l).1, (law l).2.1, rfl⟩
      · exact law
    · split
      · exact linkLaw_modLink law ⟨(law l).1, (law l).2.1, rfl⟩
      · exact linkLaw_discardFrame l law
    · exact linkLaw_bodyByte _ law ‹_›
  case frameComplete l kind tag payload crc =>
    change execFrameComplete l kind tag payload crc s = _ at h
    exact event h fun u law => linkLaw_completeFrame l _ _ law
  case frameDiscard l cause =>
    change execFrameDiscard l cause s = _ at h
    refine event h fun u law => ?_
    split
    · exact linkLaw_discardFrame l law
    · exact linkLaw_discardFrame l law
    · exact law
    · exact law
  case gapAbort l =>
    change execGapAbort l s = _ at h
    refine event h fun u law => ?_
    split
    · exact law
    · exact linkLaw_within (linkLaw_hunt l law) within_countLink (by decide)
  case receiveBreak l =>
    change execReceiveBreak l s = _ at h
    exact event h fun u law => linkLaw_restartLink l law
  case linkRestart l tag =>
    change execLinkRestart l tag s = _ at h
    exact linkLaw_reads.runRequest h (fun u law => linkLaw_restartLink l law) law
  case linkLost l =>
    change execLinkLost l s = _ at h
    refine event h fun u law => ?_
    dsimp only
    split
    · exact law
    · split
      · exact linkLaw_within (linkLaw_modLink law ⟨(law l).1, rfl, (law l).2.2⟩) within_hand (by decide)
      · refine linkLaw_modLink law ⟨(law l).1, ?_, (law l).2.2⟩
        simp [*]
  all_goals exact absurd renew nofun

/-- Settles O59: the link commands keep the law, and every other command, a frame refused and a
millisecond stand apart from what it reads. -/
theorem stepKeepsLinkLaw : Obligations.StepKeepsLinkLaw := by
  have commands := linkLaw_reads.commands linkLaw_image (fun _ _ _ _ => linkLaw_start _ _)
    (fun _ => linkLaw_commandReset) linkLaw_command
  exact fun _ _ law h => linkLaw_reads.step (by decide) commands law h

end Sys2Proof.Proofs
end

section
/-! SUPPORT. The law of the call table (07): what leaves it keeps the law, and so does an admission where
the rules let one in. -/

open Sys2Proof Sys2Proof.Machine

namespace Sys2Proof.Proofs

/-! ### What the law says of a table -/

/-- What the law reads of a call. -/
def callKey (c : Call) : Origin × Nat × Nat := (c.origin, c.number, c.sequence)

/-- The law, of a call table. -/
structure TableLawful (t : CallTable) : Prop where
  externals : t.externals ≤ 8
  origins : t.table.Pairwise fun c d => c.origin.external = true ∨ c.origin ≠ d.origin
  numbers : (t.table.map (·.number)).Nodup
  number : 1 ≤ t.number ∧ t.number ≤ 255
  rising : t.table.Pairwise fun c d => c.sequence < d.sequence
  below : ∀ c ∈ t.table, c.sequence < t.sequence
  top : t.sequence ≤ Config.counterTop

theorem callLaw_iff (s : State) : s.CallLaw ↔ TableLawful s.calls :=
  ⟨fun ⟨h₁, h₂, h₃, h₄, h₅, h₆, h₇⟩ => ⟨h₁, h₂, h₃, h₄, h₅, h₆, h₇⟩,
    fun ⟨h₁, h₂, h₃, h₄, h₅, h₆, h₇⟩ => ⟨h₁, h₂, h₃, h₄, h₅, h₆, h₇⟩⟩

theorem externals_eq_countP (t : CallTable) :
    t.externals = (t.table.map callKey).countP fun k => k.1.external := by
  rw [CallTable.externals, List.countP_map, List.countP_eq_length_filter]
  rfl

/-- A table with some of the keys, in their order, is lawful. -/
theorem TableLawful.of_keys {t u : CallTable} (law : TableLawful t)
    (keys : (u.table.map callKey).Sublist (t.table.map callKey)) (number : u.number = t.number)
    (sequence : u.sequence = t.sequence) : TableLawful u where
  externals := by
    rw [externals_eq_countP]
    exact (keys.countP_le).trans (externals_eq_countP t ▸ law.externals)
  origins := by
    have origins : (t.table.map callKey).Pairwise fun j k => j.1.external = true ∨ j.1 ≠ k.1 :=
      List.pairwise_map.2 law.origins
    exact List.pairwise_map.1 (origins.sublist keys)
  numbers := by
    have numbers := keys.map fun k => k.2.1
    rw [List.map_map, List.map_map] at numbers
    exact law.numbers.sublist numbers
  number := number ▸ law.number
  rising := by
    have rising : (t.table.map callKey).Pairwise fun j k => j.2.2 < k.2.2 :=
      List.pairwise_map.2 law.rising
    exact (List.pairwise_map (R := fun j k : Origin × ℕ × ℕ => j.2.2 < k.2.2)).1 (rising.sublist keys)
  below c hc := by
    obtain ⟨d, hd, same⟩ := List.mem_map.1 (keys.subset (List.mem_map_of_mem hc))
    simp only [callKey, Prod.mk.injEq] at same
    rw [sequence, ← same.2.2]
    exact law.below d hd
  top := sequence ▸ law.top

theorem callLaw_reads : Reads [.calls] State.CallLaw := by
  intro s t kept law
  obtain ⟨table, number, sequence⟩ := kept .calls (List.mem_singleton_self _)
  rw [callLaw_iff] at law ⊢
  exact law.of_keys (by rw [table]) number sequence

theorem callLaw_within {qs : List Part} {s t : State} (law : s.CallLaw) (h : Within qs s t)
    (apart : .calls ∉ qs) : t.CallLaw := callLaw_reads.within h law (by simpa using apart)

/-! ### Removal and the millisecond -/

/-- A judge of calls leaves their keys. -/
def LeavesKeys (judge : Call → Verdict) : Prop := ∀ c, callKey (judge c).1 = callKey c

theorem leavesKeys_removeIf (p : Call → Bool) (r : RemovalReason) : LeavesKeys (removeIf p r) :=
  fun _ => rfl

theorem leavesKeys_trimCall (lanes : LaneSet) : LeavesKeys (trimCall lanes) := by
  intro c
  unfold trimCall
  split
  · rfl
  · dsimp only
    split
    · rfl
    · split <;> rfl

theorem leavesKeys_ackCall (n : Fin 16) : LeavesKeys (ackCall n) := by
  intro c
  unfold ackCall
  split
  · dsimp only
    split <;> rfl
  · rfl

theorem map_callKey_keptBy {judge : Call → Verdict} (leaves : LeavesKeys judge) (cs : List Call) :
    ((keptBy judge cs).map callKey).Sublist (cs.map callKey) := by
  have same : callKey ∘ (fun c => (judge c).1) = callKey := funext leaves
  rw [keptBy, List.map_map, same]
  exact List.filter_sublist.map _

theorem callLaw_sweepCalls {s : State} {judge : Call → Verdict} (law : s.CallLaw)
    (leaves : LeavesKeys judge) : (s.sweepCalls judge).CallLaw := by
  rw [callLaw_iff] at law ⊢
  rw [sweepCalls_eq_withRemovals]
  refine law.of_keys (map_callKey_keptBy leaves _) ?_ ?_ <;> simp [State.withRemovals]

theorem callLaw_tick {s : State} (law : s.CallLaw) : s.tick.CallLaw := by
  rw [callLaw_iff] at law ⊢
  refine law.of_keys ?_ rfl rfl
  simp only [State.tick, CallTable.tick, List.map_map]
  exact List.Sublist.refl _

/-! ### Admission -/

/-- The origins of the automatic calls. -/
def automaticOrigins : List Origin := (List.finRange 8).map .zone ++ (List.finRange 4).map .axis

theorem mem_automaticOrigins {o : Origin} (automatic : o.external = false) : o ∈ automaticOrigins := by
  cases o with
  | link l => exact absurd automatic nofun
  | zone z => exact List.mem_append_left _ (List.mem_map_of_mem (List.mem_finRange z))
  | axis a => exact List.mem_append_right _ (List.mem_map_of_mem (List.mem_finRange a))

/-- A lawful table is short: eight external calls and one of each automatic origin. -/
theorem TableLawful.length_le {t : CallTable} (law : TableLawful t) : t.table.length ≤ 20 := by
  have split := t.table.length_eq_length_filter_add (·.origin.external)
  have external : (t.table.filter (·.origin.external)).length ≤ 8 := law.externals
  have distinct : ((t.table.filter fun c => !c.origin.external).map (·.origin)).Nodup := by
    refine List.pairwise_map.2 (List.Pairwise.imp_of_mem ?_ (law.origins.sublist List.filter_sublist))
    intro c d hc _ apart
    refine apart.resolve_left ?_
    simpa using (List.mem_filter.1 hc).2
  have automatic : (t.table.filter fun c => !c.origin.external).map (·.origin) ⊆ automaticOrigins := by
    intro o ho
    obtain ⟨c, hc, rfl⟩ := List.mem_map.1 ho
    exact mem_automaticOrigins (by simpa using (List.mem_filter.1 hc).2)
  have count := (distinct.subperm automatic).length_le
  simp only [automaticOrigins, List.length_append, List.length_map, List.length_finRange] at count
  omega

theorem map_number_resequence (cs : List Call) (n : ℕ) :
    (resequence cs n).map (·.number) = cs.map (·.number) := by
  induction cs generalizing n with
  | nil => rfl
  | cons c cs ih => simp [resequence, ih]

theorem map_origin_resequence (cs : List Call) (n : ℕ) :
    (resequence cs n).map (·.origin) = cs.map (·.origin) := by
  induction cs generalizing n with
  | nil => rfl
  | cons c cs ih => simp [resequence, ih]

theorem map_sequence_resequence (cs : List Call) (n : ℕ) :
    (resequence cs n).map (·.sequence) = List.range' n cs.length := by
  induction cs generalizing n with
  | nil => rfl
  | cons c cs ih => simp [resequence, ih, List.range'_succ]

theorem TableLawful.resequenced {t : CallTable} (law : TableLawful t) :
    TableLawful { t with table := resequence t.table 1, sequence := t.table.length + 1 } where
  externals := by
    have external (cs : List Call) : (cs.filter (·.origin.external)).length =
        (cs.map (·.origin)).countP (·.external) := by
      rw [List.countP_map, List.countP_eq_length_filter]
      rfl
    have same := (external (resequence t.table 1)).trans
      ((congrArg _ (map_origin_resequence t.table 1)).trans (external t.table).symm)
    exact same.trans_le law.externals
  origins := by
    have origins := law.origins
    rw [← List.pairwise_map (f := Call.origin) (R := fun o p => o.external = true ∨ o ≠ p)] at origins ⊢
    rwa [map_origin_resequence]
  numbers := (map_number_resequence t.table 1).symm ▸ law.numbers
  number := law.number
  rising := by
    rw [← List.pairwise_map (f := Call.sequence) (R := (· < ·)), map_sequence_resequence]
    exact List.pairwise_lt_range'
  below c hc := by
    have numbered : c.sequence ∈ (resequence t.table 1).map (·.sequence) := List.mem_map_of_mem hc
    rw [map_sequence_resequence, List.mem_range'_1] at numbered
    simp only
    omega
  top := by
    have short := law.length_le
    simp only [Config.counterTop]
    omega

/-- A lawful table made ready is lawful, with a sequence number to give. -/
theorem TableLawful.ready {t : CallTable} (law : TableLawful t) :
    TableLawful t.ready ∧ t.ready.sequence < Config.counterTop := by
  unfold CallTable.ready
  split
  · exact ⟨law, ‹_›⟩
  · have short := law.length_le
    refine ⟨law.resequenced, ?_⟩
    simp only [Config.counterTop]
    omega

theorem map_origin_ready (t : CallTable) : t.ready.table.map (·.origin) = t.table.map (·.origin) := by
  unfold CallTable.ready
  split
  · rfl
  · exact map_origin_resequence _ _

theorem map_number_ready (t : CallTable) : t.ready.table.map (·.number) = t.table.map (·.number) := by
  unfold CallTable.ready
  split
  · rfl
  · exact map_number_resequence _ _

/-- What the rules ask before a call of an origin is let in: room for an external one, none of an
automatic origin standing. -/
def RoomFor (t : CallTable) (o : Origin) : Prop :=
  if o.external then t.externals < 8 else t.hasOrigin o = false

theorem roomFor_external {t : CallTable} {o : Origin} (external : o.external = true)
    (room : t.externals < 8) : RoomFor t o := by rwa [RoomFor, if_pos external]

theorem roomFor_automatic {t : CallTable} {o : Origin} (automatic : o.external = false)
    (none : t.hasOrigin o = false) : RoomFor t o := by rwa [RoomFor, if_neg (by simp [automatic])]

/-- A call joins the end of a lawful table. -/
theorem TableLawful.join {t : CallTable} (law : TableLawful t) {c : Call} {n : ℕ}
    (room : RoomFor t c.origin) (unused : c.number ∉ t.table.map (·.number))
    (last : c.sequence = t.sequence) (space : t.sequence < Config.counterTop)
    (next : 1 ≤ n ∧ n ≤ 255) :
    TableLawful { t with table := t.table ++ [c], number := n, sequence := t.sequence + 1 } where
  externals := by
    have external := law.externals
    unfold RoomFor at room
    unfold CallTable.externals at *
    split at room <;> simp_all
  origins := by
    refine List.pairwise_append.2 ⟨law.origins, List.pairwise_singleton _ _, fun d hd e he => ?_⟩
    obtain rfl := List.mem_singleton.1 he
    unfold RoomFor at room
    split at room
    case isTrue external =>
      by_cases same : d.origin = e.origin
      · exact .inl (same ▸ external)
      · exact .inr same
    case isFalse =>
      refine .inr fun same => ?_
      exact absurd ((hasOrigin_iff t _).2 ⟨d, hd, same⟩) (by simp [room])
  numbers := by
    rw [List.map_append, List.map_singleton]
    exact List.nodup_append.2 ⟨law.numbers, List.nodup_singleton _, by
      intro x hx y hy
      obtain rfl := List.mem_singleton.1 hy
      exact fun same => unused (same ▸ hx)⟩
  number := next
  rising := by
    refine List.pairwise_append.2 ⟨law.rising, List.pairwise_singleton _ _, fun d hd e he => ?_⟩
    obtain rfl := List.mem_singleton.1 he
    exact last ▸ law.below d hd
  below d hd := by
    rcases List.mem_append.1 hd with standing | new
    · exact (law.below d standing).trans (Nat.lt_succ_self _)
    · obtain rfl := List.mem_singleton.1 new
      exact last ▸ Nat.lt_succ_self _
  top := space

theorem roomFor_ready {t : CallTable} {o : Origin} (room : RoomFor t o) : RoomFor t.ready o := by
  have external (u : CallTable) : u.externals = (u.table.map (·.origin)).countP (·.external) := by
    rw [CallTable.externals, List.countP_map, List.countP_eq_length_filter]
    rfl
  have standing (u : CallTable) : u.hasOrigin o = (u.table.map (·.origin)).any (· = o) := by
    rw [CallTable.hasOrigin, List.any_map]
    rfl
  unfold RoomFor at room ⊢
  rwa [external, standing, map_origin_ready, ← external, ← standing]

theorem TableLawful.enter {t : CallTable} (law : TableLawful t) {c : Call} (now : DeckTime)
    (room : RoomFor t c.origin) : TableLawful (t.enter c now) := by
  obtain ⟨lawful, space⟩ := law.ready
  have short := law.length_le
  obtain ⟨k, -, found, unused, -⟩ := freeNumber_spec (by omega) law.number.1 law.number.2
  have next := nextNumber_mem_range (n := t.freeNumber) (by rw [found]; exact Nat.succ_pos _)
  have joined := lawful.join (c := t.stamp c now) (roomFor_ready room)
    (by rwa [map_number_ready]) rfl space next
  unfold CallTable.enter
  dsimp only
  split
  · exact joined.of_keys (List.Sublist.refl _) rfl rfl
  · exact joined

theorem callLaw_admitCall {s : State} {c : Call} (law : s.CallLaw) (room : RoomFor s.calls c.origin) :
    (s.admitCall c).CallLaw := by
  rw [callLaw_iff] at law
  refine callLaw_within ?_ within_report (by decide)
  rw [callLaw_iff]
  exact law.enter s.clock room

theorem callLaw_postAutomatic {s : State} {c : Call} (law : s.CallLaw)
    (automatic : c.origin.external = false) : (s.postAutomatic c).CallLaw := by
  unfold State.postAutomatic
  split
  · exact law
  · refine callLaw_admitCall law ?_
    have none : s.calls.hasOrigin c.origin = false := Bool.eq_false_iff.2 ‹_›
    exact roomFor_automatic automatic none

/-! ### The commands -/

theorem callLaw_image (image : Image) (power : Power) (rest : List Instr) :
    { State.powerOn image with power := power, pending := rest }.CallLaw :=
  ⟨Nat.zero_le _, .nil, .nil, ⟨le_rfl, Nat.le_of_ble_eq_true rfl⟩, .nil, nofun,
    Nat.le_of_ble_eq_true rfl⟩

theorem callLaw_start {s : State} (inputs : InputLevels) (doors : Vector DoorInputs 32) :
    (s.start inputs doors).CallLaw :=
  callLaw_within (s := s.takeLoad inputs doors) (callLaw_image s.store.image .running s.pending)
    within_startBlocks (by decide)

/-- The reset of the blocks before the calls, and of those after them, changes no calls. -/
theorem callLaw_resetBlocks {s : State} (law : s.CallLaw) : s.resetBlocks.CallLaw := by
  unfold State.resetBlocks
  extract_lets x t u v
  have before : Within (settingsParts ++ [.axes, .valves, .station, .doors, .zones] ++ noticeParts)
      s u.dropOvertaken :=
    (within_dropOvertaken.then within_reload |>.then within_resetChannels
      |>.then within_resetAxes |>.then within_resetStation |>.then within_resetDoors
      |>.then within_dropOvertaken).mono (by decide)
  have swept := callLaw_sweepCalls (callLaw_within law before (by decide))
    (leavesKeys_removeIf (fun _ => true) .reset)
  exact callLaw_within swept (within_resetAlarms.then within_resetSlots
    |>.then within_postAlarmZones |>.then within_hand) (by decide)

theorem within_emptyQueues_links {s before : State} : Within [.links] s (s.emptyQueues before) := by
  intro p hp
  have kept := Part.Kept.refl p s
  cases p <;> first | exact kept | exact absurd (List.mem_singleton_self _) hp

/-- After the blocks the reset speaks on the links alone. -/
theorem within_commandReset_links {s : State} : Within [.links] s.resetBlocks s.commandReset := by
  unfold State.commandReset
  extract_lets emptied reported
  have reports : Within [.links] s.resetBlocks reported :=
    (within_emptyQueues_links.then within_report).mono (by decide)
  exact .ite (reports.quietly within_hand) reports

theorem callLaw_callPost {l : Link} {tag : Byte} {data : CallData} {s t : State} (law : s.CallLaw)
    (h : execCallPost l tag data s = .next t) : t.CallLaw := by
  refine callLaw_reads.runRequest h (fun u law => ?_) law
  cases CallKind.ofCode data.kind with
  | none => exact law
  | some k =>
    dsimp only
    split
    · exact law
    split
    · exact law
    split
    · exact law
    split
    · exact law
    split
    · exact law
    split
    · exact law
    · exact callLaw_admitCall law (roomFor_external (o := .link l) rfl (Nat.lt_of_not_le ‹_›))

theorem callLaw_callCancel {l : Link} {tag : Byte} {number : Nat} {s t : State} (law : s.CallLaw)
    (h : execCallCancel l tag number s = .next t) : t.CallLaw := by
  refine callLaw_reads.runRequest h (fun u law => ?_) law
  split
  · exact law
  cases u.calls.table.find? (·.number = number) with
  | none => exact law
  | some c =>
    dsimp only
    split
    · exact law
    split
    · exact law
    · exact callLaw_sweepCalls law (leavesKeys_removeIf _ _)

/-- The call commands keep the law, and the others stand apart from the calls. -/
theorem callLaw_command (i : Instr) (s t : State) (renew : renews i = false) (law : s.CallLaw)
    (h : exec i s = .next t) : t.CallLaw := by
  have event {i : Instr} {f : State → State} (h : runEvent i s f = .next t)
      (act : ∀ u, u.CallLaw → (f u).CallLaw) : t.CallLaw :=
    callLaw_reads.runEvent (by decide) h act law
  by_cases apart : .calls ∉ touched i
  · exact callLaw_reads.exec_apart (by decide) law h (by simpa using apart)
  cases i <;> simp only [touched, List.mem_cons, List.not_mem_nil, reduceCtorEq, or_false, or_true,
    not_true_eq_false, not_false_eq_true] at apart
  case standClearPost a =>
    change execStandClearPost a s = _ at h
    exact event h fun u law => callLaw_postAutomatic law rfl
  case evacuatePost z =>
    change execEvacuatePost z s = _ at h
    exact event h fun u law => callLaw_postAutomatic law rfl
  case standClearRemoval a =>
    change execStandClearRemoval a s = _ at h
    exact event h fun u law => callLaw_sweepCalls law (leavesKeys_removeIf _ _)
  case recallTrim z =>
    change execRecallTrim z s = _ at h
    exact event h fun u law => callLaw_sweepCalls law (leavesKeys_trimCall _)
  case laneAcknowledgement n =>
    change execLaneAcknowledgement n s = _ at h
    exact event h fun u law => callLaw_sweepCalls law (leavesKeys_ackCall n)
  case durationTimerExpiry n =>
    change execDurationTimerExpiry n s = _ at h
    exact event h fun u law => callLaw_sweepCalls law (leavesKeys_removeIf _ _)
  case callPost l tag data => exact callLaw_callPost law h
  case callCancel l tag number => exact callLaw_callCancel law h
  all_goals exact absurd renew nofun

/-- Settles O58: admissions find room and a free number in a table of at most twenty calls, removals and
withdrawals leave the keys of what stays, and nothing else changes the table but the timers. -/
theorem stepKeepsCallLaw : Obligations.StepKeepsCallLaw := by
  have commands := callLaw_reads.commands callLaw_image (fun _ _ _ _ => callLaw_start _ _)
    (fun _ law => callLaw_within (callLaw_resetBlocks law) within_commandReset_links (by decide))
    callLaw_command
  refine fun s t law h => step_keeps (fun u p law => ?popped) commands (fun u l f code law => ?refused)
    (fun u law => callLaw_tick law) law h
  case popped => exact callLaw_within law (within_popped p) (by decide)
  case refused => exact callLaw_within law within_refuseFrame (by decide)

end Sys2Proof.Proofs
end

section
/-! SUPPORT. The law of the alarm list (09): the flags follow the entries through every change of one, and
the trip lines are re-evaluated after it. -/

open Sys2Proof Sys2Proof.Machine

namespace Sys2Proof.Proofs

/-! ### Entries -/

theorem findEntry_source {es : List AlarmEntry} {c : Fin 60} {e : AlarmEntry}
    (h : findEntry es c = some e) : e.source = c := by simpa using List.find?_some h

theorem findEntry_isNone_iff (es : List AlarmEntry) (c : Fin 60) :
    findEntry es c = none ↔ c ∉ es.map (·.source) := by
  rw [findEntry, List.find?_eq_none]
  simp only [decide_eq_true_eq, List.mem_map, not_exists, not_and]

/-- What a change of one source's entry leaves of every source. -/
theorem findEntry_putEntry {es : List AlarmEntry} {code : Fin 60} {new : Option AlarmEntry}
    (own : ∀ x, new = some x → x.source = code) (c : Fin 60) :
    findEntry (putEntry es code new) c = if c = code then new else findEntry es c := by
  unfold putEntry
  cases new with
  | none =>
    simp only [findEntry, List.find?_filter]
    split
    case isTrue same =>
      subst same
      simp
    case isFalse other =>
      congr 1
      ext e
      by_cases at' : e.source = c <;> simp [at', other]
  | some x =>
    have source := own x rfl
    dsimp only
    split
    case isTrue standing =>
      have swapped : ((fun e : AlarmEntry => decide (e.source = c)) ∘ fun e =>
          if e.source = code then x else e) = fun e => decide (e.source = c) := by
        funext e
        by_cases at' : e.source = code <;> simp [at', source]
      rw [findEntry, List.find?_map, swapped]
      split
      case isTrue same =>
        subst same
        obtain ⟨e, found⟩ := Option.isSome_iff_exists.1 standing
        have at' := findEntry_source found
        change (findEntry es c).map _ = _
        rw [found, Option.map_some, if_pos at']
      case isFalse other =>
        change (findEntry es c).map _ = findEntry es c
        cases found : findEntry es c with
        | none => rfl
        | some e => rw [Option.map_some, if_neg (findEntry_source found ▸ other)]
    case isFalse absent =>
      rw [Bool.not_eq_true, Option.isSome_eq_false_iff, Option.isNone_iff_eq_none] at absent
      rw [findEntry, List.find?_append, ← findEntry]
      split
      case isTrue same =>
        subst same
        rw [absent, Option.none_or, List.find?_singleton, if_pos (by simpa using source)]
      case isFalse other =>
        rw [List.find?_singleton, if_neg (by simpa [source] using Ne.symm other), Option.or_none]

theorem nodup_putEntry {es : List AlarmEntry} {code : Fin 60} {new : Option AlarmEntry}
    (distinct : (es.map (·.source)).Nodup) (own : ∀ x, new = some x → x.source = code) :
    ((putEntry es code new).map (·.source)).Nodup := by
  unfold putEntry
  cases new with
  | none => exact distinct.sublist (List.filter_sublist.map _)
  | some x =>
    have source := own x rfl
    dsimp only
    split
    case isTrue =>
      have sources : ((fun e : AlarmEntry => e.source) ∘ fun e => if e.source = code then x else e) =
          fun e => e.source := by
        funext e
        by_cases at' : e.source = code <;> simp [at', source]
      rwa [List.map_map, sources]
    case isFalse absent =>
      rw [Bool.not_eq_true, Option.isSome_eq_false_iff, Option.isNone_iff_eq_none,
        findEntry_isNone_iff] at absent
      rw [List.map_append, List.map_singleton, source]
      exact distinct.append (List.nodup_singleton _) (List.disjoint_singleton.2 absent)

/-! ### The law of the entries -/

/-- The source has an active entry. -/
def holdsActive (o : Option AlarmEntry) : Bool := o.any (·.state.isActive)

/-- The law but for the trip lines, of an alarm unit. -/
structure EntriesLawful (u : AlarmUnit) : Prop where
  distinct : (u.list.map (·.source)).Nodup
  flags : ∀ c : Fin 60, u.flags[c] = holdsActive (findEntry u.list c)
  momentary : ∀ c : Fin 60, momentaryCode c = true → u.flags[c] = false

/-- With one entry of each source, the active one is the one found. -/
theorem holdsActive_iff {es : List AlarmEntry} (distinct : (es.map (·.source)).Nodup) (c : Fin 60) :
    holdsActive (findEntry es c) = true ↔ ∃ e ∈ es, e.source = c ∧ e.state.isActive = true := by
  rw [holdsActive, Option.any_eq_true]
  constructor
  · rintro ⟨e, found, active⟩
    exact ⟨e, List.mem_of_find?_eq_some found, findEntry_source found, active⟩
  · rintro ⟨e, standing, source, active⟩
    refine ⟨e, ?_, active⟩
    cases found : findEntry es c with
    | none => exact absurd (List.mem_map.2 ⟨e, standing, source⟩) ((findEntry_isNone_iff es c).1 found)
    | some f =>
      have same : f.source = e.source := (findEntry_source found).trans source.symm
      rw [List.inj_on_of_nodup_map distinct (List.mem_of_find?_eq_some found) standing same]

theorem alarmLaw_iff (s : State) : s.AlarmLaw ↔ EntriesLawful s.alarms ∧
    s.alarms.alarm = s.alarmNow ∧ s.alarms.stop = s.stopNow := by
  constructor
  · rintro ⟨distinct, flags, momentary, alarm, stop⟩
    exact ⟨⟨distinct, fun c => Bool.eq_iff_iff.2 ((flags c).trans (holdsActive_iff distinct c).symm),
      momentary⟩, alarm, stop⟩
  · rintro ⟨⟨distinct, flags, momentary⟩, alarm, stop⟩
    exact ⟨distinct, fun c => (Bool.eq_iff_iff.1 (flags c)).trans (holdsActive_iff distinct c),
      momentary, alarm, stop⟩

theorem EntriesLawful.congr {u v : AlarmUnit} (law : EntriesLawful u) (list : v.list = u.list)
    (flags : v.flags = u.flags) : EntriesLawful v where
  distinct := list ▸ law.distinct
  flags c := by rw [list, flags, law.flags]
  momentary c := flags ▸ law.momentary c

theorem alarmLaw_reads : Reads [.alarms, .routing] State.AlarmLaw := by
  intro s t kept law
  obtain ⟨list, flags, alarm, stop⟩ := kept .alarms (by decide)
  have routing : t.settings.routing = s.settings.routing := kept .routing (by decide)
  unfold State.AlarmLaw
  rw [list, flags, alarm, stop, routing]
  exact law

theorem alarmLaw_within {qs : List Part} {s t : State} (law : s.AlarmLaw) (h : Within qs s t)
    (apart : .alarms ∉ qs ∧ .routing ∉ qs) : t.AlarmLaw :=
  alarmLaw_reads.within h law (by simpa using apart)

theorem Within.entriesLawful {qs : List Part} {s t : State} (h : Within qs s t)
    (law : EntriesLawful s.alarms) (apart : .alarms ∉ qs) : EntriesLawful t.alarms :=
  law.congr (h .alarms apart).1 (h .alarms apart).2.1

/-! ### The trip lines (R157, R158) -/

theorem setAlarmLine_alarms (s : State) (level : Bool) :
    (s.setAlarmLine level).alarms = { s.alarms with alarm := level } := by
  unfold State.setAlarmLine
  split
  case isTrue same => rw [same]
  case isFalse => rw [State.report_alarms]

theorem setAlarmLine_settings (s : State) (level : Bool) :
    (s.setAlarmLine level).settings = s.settings := by
  unfold State.setAlarmLine
  split
  · rfl
  · rw [State.report_settings]

theorem setStopLine_alarms (s : State) (level : Bool) :
    (s.setStopLine level).alarms = { s.alarms with stop := level } := by
  unfold State.setStopLine
  split
  case isTrue same => rw [same]
  case isFalse => rw [State.report_alarms]

theorem setStopLine_settings (s : State) (level : Bool) :
    (s.setStopLine level).settings = s.settings := by
  unfold State.setStopLine
  split
  · rfl
  · rw [State.report_settings]

/-- The trip lines as their rules give them. -/
def linedState (s : State) : State :=
  (s.setAlarmLine s.alarmNow).setStopLine (s.setAlarmLine s.alarmNow).stopNow

/-- After the trip lines are set, what the re-evaluation hands on and drives is none of what the laws
read but notices that join. -/
theorem within_evalLines_lined {s : State} : Within [] (linedState s) s.evalLines := by
  unfold State.evalLines
  extract_lets t u v
  have told : Within [] u v := .ite .refl within_hand
  exact .ite told (told.quietly within_driveFollowers)

theorem alarmLaw_lined {s : State} (law : EntriesLawful s.alarms) : (linedState s).AlarmLaw := by
  rw [alarmLaw_iff, linedState]
  refine ⟨?_, ?_, ?_⟩
  · rw [setStopLine_alarms, setAlarmLine_alarms]
    exact law.congr rfl rfl
  · simp only [State.alarmNow, setStopLine_alarms, setStopLine_settings, setAlarmLine_alarms,
      setAlarmLine_settings]
  · simp only [State.stopNow, setStopLine_alarms, setStopLine_settings, setAlarmLine_alarms,
      setAlarmLine_settings]

/-- Lawful entries and a re-evaluation of the trip lines give the law. -/
theorem alarmLaw_evalLines {s : State} (law : EntriesLawful s.alarms) : s.evalLines.AlarmLaw :=
  alarmLaw_within (alarmLaw_lined law) within_evalLines_lined (by decide)

/-! ### Changes of an entry -/

theorem changeEntry_flags (s : State) (code : Fin 60) (new : Option AlarmEntry) (cause : AlarmCause) :
    (s.changeEntry code new cause).alarms.flags = s.alarms.flags := by
  unfold State.changeEntry
  dsimp only
  split
  · rfl
  · rw [State.report_alarms]

theorem findEntry_changeEntry {s : State} {code : Fin 60} {new : Option AlarmEntry} {cause : AlarmCause}
    (own : ∀ x, new = some x → x.source = code) (c : Fin 60) :
    findEntry (s.changeEntry code new cause).alarms.list c =
      if c = code then new else findEntry s.alarms.list c := by
  unfold State.changeEntry
  dsimp only
  split
  case isTrue same =>
    split
    · simp [*]
    · rfl
  case isFalse =>
    rw [State.report_alarms]
    exact findEntry_putEntry own c

theorem nodup_changeEntry {s : State} {code : Fin 60} {new : Option AlarmEntry} {cause : AlarmCause}
    (distinct : (s.alarms.list.map (·.source)).Nodup) (own : ∀ x, new = some x → x.source = code) :
    ((s.changeEntry code new cause).alarms.list.map (·.source)).Nodup := by
  unfold State.changeEntry
  dsimp only
  split
  · exact distinct
  · rw [State.report_alarms]
    exact nodup_putEntry distinct own

/-- A change of an entry that leaves its source as active as its flag says. -/
theorem entriesLawful_changeEntry {s : State} {code : Fin 60} {new : Option AlarmEntry}
    {cause : AlarmCause} (distinct : (s.alarms.list.map (·.source)).Nodup)
    (own : ∀ x, new = some x → x.source = code)
    (others : ∀ c : Fin 60, c ≠ code → s.alarms.flags[c] = holdsActive (findEntry s.alarms.list c))
    (same : s.alarms.flags[code] = holdsActive new)
    (momentary : ∀ c : Fin 60, momentaryCode c = true → s.alarms.flags[c] = false) :
    EntriesLawful (s.changeEntry code new cause).alarms where
  distinct := nodup_changeEntry distinct own
  flags c := by
    rw [changeEntry_flags, findEntry_changeEntry own]
    split
    case isTrue at' => rw [at', same]
    case isFalse other => exact others c other
  momentary c := changeEntry_flags s code new cause ▸ momentary c

/-- A change of an entry that leaves its source active where it was. -/
theorem EntriesLawful.changeEntry {s : State} (law : EntriesLawful s.alarms) {code : Fin 60}
    {new : Option AlarmEntry} {cause : AlarmCause} (own : ∀ x, new = some x → x.source = code)
    (same : holdsActive new = holdsActive (findEntry s.alarms.list code)) :
    EntriesLawful (s.changeEntry code new cause).alarms :=
  entriesLawful_changeEntry law.distinct own (fun c _ => law.flags c) (same ▸ law.flags code)
    law.momentary

section
variable {es : List AlarmEntry} {code : Fin 60} {now : DeckTime}

theorem raisedEntry_source :
    ∀ x, raisedEntry code now (findEntry es code) = some x → x.source = code := by
  intro x raised
  cases found : findEntry es code with
  | none =>
    rw [found] at raised
    exact Option.some.inj raised ▸ rfl
  | some e =>
    have source := findEntry_source found
    rw [found, raisedEntry] at raised
    split at raised <;> exact Option.some.inj raised ▸ source

theorem returnedEntry_source :
    ∀ x, returnedEntry now (findEntry es code) = some x → x.source = code := by
  intro x returned
  cases found : findEntry es code with
  | none => rw [found] at returned; exact absurd returned nofun
  | some e =>
    have source := findEntry_source found
    rw [found, returnedEntry] at returned
    split at returned
    · exact Option.some.inj returned ▸ source
    · exact absurd returned nofun
    · exact Option.some.inj returned ▸ source

theorem momentaryEntry_source :
    ∀ x, momentaryEntry code now (findEntry es code) = some x → x.source = code := by
  intro x raised
  cases found : findEntry es code with
  | none =>
    rw [found] at raised
    exact Option.some.inj raised ▸ rfl
  | some e =>
    have source := findEntry_source found
    rw [found, momentaryEntry] at raised
    split at raised <;> exact Option.some.inj raised ▸ source

theorem ackedEntry_source :
    ∀ x, ackedEntry now (findEntry es code) = some x → x.source = code := by
  intro x acked
  cases found : findEntry es code with
  | none => rw [found] at acked; exact absurd acked nofun
  | some e =>
    have source := findEntry_source found
    rw [found, ackedEntry] at acked
    split at acked
    · exact Option.some.inj acked ▸ source
    · exact absurd acked nofun
    · exact Option.some.inj acked ▸ source

end

theorem holdsActive_raisedEntry (code : Fin 60) (now : DeckTime) (o : Option AlarmEntry) :
    holdsActive (raisedEntry code now o) = true := by
  cases o with
  | none => rfl
  | some e => cases state : e.state <;> simp [raisedEntry, holdsActive, state, EntryState.isActive]

theorem holdsActive_returnedEntry (now : DeckTime) (o : Option AlarmEntry) :
    holdsActive (returnedEntry now o) = false := by
  cases o with
  | none => rfl
  | some e => cases state : e.state <;> simp [returnedEntry, holdsActive, state, EntryState.isActive]

theorem holdsActive_momentaryEntry (code : Fin 60) (now : DeckTime) (o : Option AlarmEntry) :
    holdsActive (momentaryEntry code now o) = holdsActive o := by
  cases o with
  | none => rfl
  | some e => cases state : e.state <;> simp [momentaryEntry, holdsActive, state, EntryState.isActive]

theorem holdsActive_ackedEntry (now : DeckTime) (o : Option AlarmEntry) :
    holdsActive (ackedEntry now o) = holdsActive o := by
  cases o with
  | none => rfl
  | some e => cases state : e.state <;> simp [ackedEntry, holdsActive, state, EntryState.isActive]

theorem momentaryCode_eq_false_iff (c : Fin 60) :
    momentaryCode c = false ↔ (c.val < 12 ∨ 15 < c.val) ∧ c.val ≠ 59 := by
  revert c
  decide

theorem momentaryCode_code (src : CondSource) : momentaryCode src.code = false := by
  cases src with
  | linkLost l => cases l <;> decide
  | estop => decide
  | _ =>
    rw [momentaryCode_eq_false_iff]
    simp only [CondSource.code]
    omega

/-! ### The acts of the alarm unit -/

theorem flagEntry_source {s : State} {code : Fin 60} {active : Bool} :
    ∀ x, s.flagEntry code active = some x → x.source = code := by
  unfold State.flagEntry
  split
  · exact raisedEntry_source
  · exact returnedEntry_source

theorem holdsActive_flagEntry (s : State) (code : Fin 60) (active : Bool) :
    holdsActive (s.flagEntry code active) = active := by
  unfold State.flagEntry
  cases active with
  | true => exact holdsActive_raisedEntry _ _ _
  | false => exact holdsActive_returnedEntry _ _

theorem alarmLaw_setFlag {s : State} (law : s.AlarmLaw) (src : CondSource) (active : Bool) :
    (s.setFlag src active).AlarmLaw := by
  obtain ⟨entries, -, -⟩ := (alarmLaw_iff s).1 law
  unfold State.setFlag
  dsimp only
  split
  · exact law
  · refine alarmLaw_evalLines (entriesLawful_changeEntry entries.distinct flagEntry_source ?_ ?_ ?_)
    · intro c other
      rw [← entries.flags c]
      exact Vector.getElem_set_ne src.code.isLt c.isLt (Fin.val_ne_of_ne (Ne.symm other))
    · rw [holdsActive_flagEntry]
      exact Vector.getElem_set_self src.code.isLt
    · intro c momentary
      have other : src.code ≠ c := by
        rintro rfl
        rw [momentaryCode_code] at momentary
        exact absurd momentary nofun
      rw [← entries.momentary c momentary]
      exact Vector.getElem_set_ne src.code.isLt c.isLt (Fin.val_ne_of_ne other)

theorem alarmLaw_raiseMomentary {s : State} (law : s.AlarmLaw) (src : MomentarySource) :
    (s.raiseMomentary src).AlarmLaw :=
  alarmLaw_evalLines (((alarmLaw_iff s).1 law).1.changeEntry momentaryEntry_source
    (holdsActive_momentaryEntry _ _ _))

theorem entriesLawful_ackEntry {s : State} (law : EntriesLawful s.alarms) (code : Fin 60) :
    EntriesLawful (s.ackEntry code).alarms :=
  law.changeEntry ackedEntry_source (holdsActive_ackedEntry _ _)

theorem alarmLaw_ackEntries {s : State} (law : s.AlarmLaw) (codes : List (Fin 60)) :
    (s.ackEntries codes).AlarmLaw := by
  refine alarmLaw_evalLines ?_
  have entries := ((alarmLaw_iff s).1 law).1
  clear law
  induction codes generalizing s with
  | nil => exact entries
  | cons code codes ih => exact ih (entriesLawful_ackEntry entries code)

/-! ### The list rebuilt (R164) -/

/-- The condition sources stand in ascending code. -/
theorem pairwise_code_condSources : condSources.Pairwise fun c d => c.code < d.code := by
  have rising : (condSources.map (·.code)).Pairwise (· < ·) :=
    List.isChain_iff_pairwise.1 (by decide)
  exact List.pairwise_map.1 rising

theorem getElem_foldl_setFlagIn (present : List CondSource) (flags : Vector Bool 60) (c : Fin 60) :
    (present.foldl setFlagIn flags)[c] = (flags[c] || present.any fun src => src.code = c) := by
  induction present generalizing flags with
  | nil => simp
  | cons src rest ih =>
    rw [List.foldl_cons, ih, List.any_cons, ← Bool.or_assoc]
    congr 1
    by_cases same : src.code = c
    · subst same
      simp [setFlagIn]
    · simp only [setFlagIn, same, decide_false, Bool.or_false]
      exact Vector.getElem_set_ne _ c.isLt (Fin.val_ne_of_ne same)

/-- The entry of a source present, in the rebuilt list. -/
theorem findEntry_map_present {present : List CondSource} {entry : CondSource → AlarmEntry}
    (source : ∀ src, (entry src).source = src.code) (active : ∀ src, (entry src).state.isActive = true)
    (c : Fin 60) :
    holdsActive (findEntry (present.map entry) c) = present.any fun src => src.code = c := by
  induction present with
  | nil => rfl
  | cons src rest ih =>
    rw [List.map_cons, findEntry, List.find?_cons, List.any_cons]
    by_cases same : src.code = c
    · simp [source, same, holdsActive, active]
    · have other : (entry src).source ≠ c := source src ▸ same
      rw [decide_eq_false same, decide_eq_false other, Bool.false_or]
      exact ih

theorem alarmLaw_rebuildAlarms (s : State) : s.rebuildAlarms.AlarmLaw := by
  have rising : (condSources.filter s.condition).Pairwise fun c d => c.code < d.code :=
    pairwise_code_condSources.sublist List.filter_sublist
  refine alarmLaw_evalLines ⟨?_, fun c => ?_, fun c momentary => ?_⟩
  · rw [List.map_map]
    exact List.pairwise_map.2 (rising.imp fun {c d} below => ne_of_lt below)
  · rw [getElem_foldl_setFlagIn]
    refine Eq.trans ?_ (findEntry_map_present (fun _ => rfl) (fun _ => rfl) c).symm
    simp
  · rw [getElem_foldl_setFlagIn]
    have none (src : CondSource) : src.code ≠ c := by
      rintro rfl
      rw [momentaryCode_code] at momentary
      exact absurd momentary nofun
    simp [none]

/-! ### The start and the commands -/

/-- With no entry and no line asserted the law holds. -/
theorem alarmLaw_none {s : State} (h : s.alarms = AlarmUnit.powerOn) : s.AlarmLaw := by
  rw [alarmLaw_iff]
  refine ⟨?_, ?_, ?_⟩
  · rw [h]
    exact ⟨.nil, fun c => by simp [AlarmUnit.powerOn, findEntry, holdsActive],
      fun c _ => by simp [AlarmUnit.powerOn]⟩
  · rw [State.alarmNow, h]
    rfl
  · rw [State.stopNow, h]
    simp [stopDue, stopHeld, AlarmUnit.powerOn]

theorem alarmLaw_startAlarms {s : State} (law : s.AlarmLaw) : s.startAlarms.AlarmLaw := by
  have flagged (sources : List CondSource) (s : State) (law : s.AlarmLaw) :
      (sources.foldl (fun s src => s.setFlag src true) s).AlarmLaw := by
    induction sources generalizing s with
    | nil => exact law
    | cons src sources ih => exact ih _ (alarmLaw_setFlag law src true)
  unfold State.startAlarms
  extract_lets order t u
  have set : t.AlarmLaw := flagged _ s law
  have raised : u.AlarmLaw := by
    unfold u
    split
    · exact alarmLaw_raiseMomentary set _
    · exact set
  exact alarmLaw_within raised within_handed (by decide)

theorem alarmLaw_start {s : State} (inputs : InputLevels) (doors : Vector DoorInputs 32) :
    (s.start inputs doors).AlarmLaw := by
  have loaded : (s.takeLoad inputs doors).AlarmLaw := alarmLaw_none rfl
  have before := within_startDoors.then within_startZones
    |>.then (within_startSensors (s := (s.takeLoad inputs doors).startDoors.startZones))
  have started := alarmLaw_startAlarms (alarmLaw_within loaded before (by decide))
  unfold State.start
  exact alarmLaw_within started (within_startLines.then within_startSlots |>.then within_hand)
    (by decide)

theorem alarmLaw_resetBlocks (s : State) : s.resetBlocks.AlarmLaw := by
  unfold State.resetBlocks
  extract_lets x t u v
  have lines : Within [] u.dropOvertaken.resetCalls.rebuildAlarms v :=
    (Within.foldl (fun _ _ => within_applyOutput) _ _).then within_resetSlots
      |>.then within_postAlarmZones
  exact alarmLaw_within (alarmLaw_rebuildAlarms _) (lines.then within_hand) (by decide)

theorem alarmLaw_alarmAck {l : Link} {tag : Byte} {source : Nat} {s t : State} (law : s.AlarmLaw)
    (h : execAlarmAck l tag source s = .next t) : t.AlarmLaw := by
  refine alarmLaw_reads.runRequest h (fun u law => ?_) law
  split
  · exact alarmLaw_ackEntries law _
  cases finOf? 60 source with
  | none => exact law
  | some code =>
    dsimp only
    split
    · exact law
    · exact alarmLaw_ackEntries law _

theorem alarmLaw_settingsWriteRouting {l : Link} {tag : Byte} {index : Nat} {data : RoutingData}
    {s t : State} (law : s.AlarmLaw) (h : execSettingsWriteRouting l tag index data s = .next t) :
    t.AlarmLaw := by
  refine alarmLaw_reads.runRequest h (fun u law => ?_) law
  have entries := ((alarmLaw_iff u).1 law).1
  exact alarmLaw_reads.settingsWrite law fun x _ => alarmLaw_evalLines entries

/-- The alarm commands keep the law, and the others stand apart from the alarms and their routing. -/
theorem alarmLaw_command (i : Instr) (s t : State) (renew : renews i = false) (law : s.AlarmLaw)
    (h : exec i s = .next t) : t.AlarmLaw := by
  by_cases apart : .alarms ∉ touched i
  · refine alarmLaw_reads.exec_apart (by decide) law h fun p hp => ?_
    rcases List.mem_pair.1 hp with rfl | rfl
    · exact apart
    · cases i <;> simp_all [touched]
  cases i <;> simp only [touched, List.mem_cons, List.not_mem_nil, reduceCtorEq, or_false, or_true,
    not_true_eq_false, not_false_eq_true] at apart
  case alarmSourceChange src active =>
    change execAlarmSourceChange src active s = _ at h
    exact alarmLaw_reads.runEvent (by decide) h (fun u law => alarmLaw_setFlag law src active) law
  case momentaryRaise src =>
    change execMomentaryRaise src s = _ at h
    exact alarmLaw_reads.runEvent (by decide) h (fun u law => alarmLaw_raiseMomentary law src) law
  case alarmAck l tag source => exact alarmLaw_alarmAck law h
  case settingsWriteRouting l tag index data => exact alarmLaw_settingsWriteRouting law h
  all_goals exact absurd renew nofun

/-- Settles O56: the flags follow the entries, a change of the entries or of the routing re-evaluates the
trip lines, and no other command changes either. -/
theorem stepKeepsAlarmLaw : Obligations.StepKeepsAlarmLaw := by
  have commands := alarmLaw_reads.commands (fun _ _ _ => alarmLaw_none rfl)
    (fun _ _ _ _ => alarmLaw_start _ _)
    (fun s _ => alarmLaw_within (alarmLaw_resetBlocks s) within_commandReset_links (by decide))
    alarmLaw_command
  exact fun _ _ law h => alarmLaw_reads.step (by decide) commands law h

end Sys2Proof.Proofs
end

section
/-! SUPPORT. The operations of the door controller (05) in the words of Safety: a door goes to a record,
closes, is held and is released. -/

open Sys2Proof Sys2Proof.Machine

namespace Sys2Proof.Proofs

/-! ### Equality of states but for their notices -/

/-- States that agree but for the notices, and in them, are the same. -/
theorem eq_of_handed {s t : State} (rest : { s with handed := [] } = { t with handed := [] })
    (handed : s.handed = t.handed) : s = t := by
  calc s = { ({ s with handed := [] } : State) with handed := s.handed } := rfl
    _ = t := by rw [rest, handed]

theorem upd_upd {α : Type} {n : ℕ} (v : Vector α n) (i : Fin n) (f g : α → α) :
    upd (upd v i f) i g = v.set i (g (f v[i])) := by
  simp [upd]

theorem set_upd {α : Type} {n : ℕ} (v : Vector α n) (i : Fin n) (f : α → α) (x : α) :
    (upd v i f).set i x = v.set i x := by
  simp [upd]

theorem upd_self {α : Type} {n : ℕ} (v : Vector α n) (i : Fin n) {f : α → α} (same : f v[i] = v[i]) :
    upd v i f = v := by
  rw [upd, same]
  exact Vector.set_getElem_self i.isLt

/-! ### A door goes to a record (R86, R99, R101) -/

theorem enterDoor_eq_doorGoes (s : State) (d : Fin 32) (new : DoorState) (cause : DoorCause) :
    s.enterDoor d new cause = s.doorGoes d { s.doors[d] with state := new } cause := by
  unfold State.enterDoor State.doorGoes doorReports State.doorNotices
  by_cases same : s.doors[d].state = new
  · simp only [same]
    exact eq_of_handed rfl (by simp [State.recount, State.hand, State.withDoor]; rfl)
  · simp only [if_neg same]
    exact eq_of_handed rfl (by simp [State.recount, State.hand, State.withDoor]; rfl)

theorem withDoor_modDoor (s : State) (d : Fin 32) (f : DoorRecord → DoorRecord) (y : DoorRecord) :
    (s.modDoor d f).withDoor d y = s.withDoor d y := by
  have same : (s.modDoor d f).doors.set d y = s.doors.set d y := set_upd _ _ _ _
  unfold State.withDoor
  rw [same]
  rfl

/-- A change of the record before it goes to `y` is lost, but for its state. -/
theorem doorGoes_modDoor {s : State} {d : Fin 32} {f : DoorRecord → DoorRecord}
    (state : (f s.doors[d]).state = s.doors[d].state) (y : DoorRecord) (cause : DoorCause) :
    (s.modDoor d f).doorGoes d y cause = s.doorGoes d y cause := by
  have before : (s.modDoor d f).doors[d].state = s.doors[d].state := by
    rw [State.modDoor_doors, upd_get_self, state]
  have reports : ((s.modDoor d f).says (doorReports d s.doors[d].state y.state cause)) =
      (s.says (doorReports d s.doors[d].state y.state cause)).modDoor d f := by
    unfold doorReports
    split <;> rfl
  have notices : (s.modDoor d f).doorNotices d y = s.doorNotices d y := by
    unfold State.doorNotices
    rw [before, withDoor_modDoor]
    rfl
  unfold State.doorGoes
  rw [before, reports, notices, withDoor_modDoor]
  rfl

/-- A door enters a state from a record changed first. -/
theorem enterDoor_modDoor {s : State} {d : Fin 32} {f : DoorRecord → DoorRecord}
    (state : (f s.doors[d]).state = s.doors[d].state) (new : DoorState) (cause : DoorCause) :
    (s.modDoor d f).enterDoor d new cause =
      s.doorGoes d { f s.doors[d] with state := new } cause := by
  rw [enterDoor_eq_doorGoes, doorGoes_modDoor state, State.modDoor_doors, upd_get_self]

theorem doorGoes_countDoor (s : State) (d : Fin 32) (f : DoorCounters → DoorCounters) (y : DoorRecord)
    (cause : DoorCause) :
    (s.countDoor d f).doorGoes d y cause = (s.doorGoes d y cause).countDoor d f := by
  unfold State.doorGoes
  have reports : (s.countDoor d f).says (doorReports d s.doors[d].state y.state cause) =
      (s.says (doorReports d s.doors[d].state y.state cause)).countDoor d f := by
    unfold doorReports
    split <;> rfl
  rw [State.countDoor_doors, reports]
  rfl

/-- The record a door stands as after it has gone there. -/
theorem doorGoes_doors_self (s : State) (d : Fin 32) (y : DoorRecord) (cause : DoorCause) :
    (s.doorGoes d y cause).doors[d] = y := by
  have set : (s.doorGoes d y cause).doors = s.doors.set d y := by
    simp [State.doorGoes, State.withDoor]
  rw [set]
  exact Vector.getElem_set_self d.isLt

theorem doorGoes_doors_other {s : State} {d e : Fin 32} (other : e ≠ d) (y : DoorRecord)
    (cause : DoorCause) : (s.doorGoes d y cause).doors[e] = s.doors[e] := by
  have set : (s.doorGoes d y cause).doors = s.doors.set d y := by
    simp [State.doorGoes, State.withDoor]
  rw [set]
  exact Vector.getElem_set_ne d.isLt e.isLt (Fin.val_ne_of_ne other.symm)

/-! ### The doors' operations -/

theorem obstruct_eq (s : State) (d : Fin 32) :
    s.obstruct d = (s.countDoor d fun k => { k with obstructions := saturate k.obstructions }).doorGoes
      d (s.obstructedRecord d s.doors[d]) .edge := by
  unfold State.obstruct
  rw [← State.countDoor_doors (s := s)]
  exact enterDoor_modDoor (s := s.countDoor d _) (f := fun x => { x with
    travel := none, pause := some (s.settings.doors[d].pause * 1000) }) rfl .obstructed .edge

theorem modDoor_modDoor (s : State) (d : Fin 32) (f g : DoorRecord → DoorRecord) :
    (s.modDoor d f).modDoor d g = s.modDoor d fun x => g (f x) := by
  have fused : upd (upd s.doors d f) d g = upd s.doors d fun x => g (f x) := upd_upd _ _ _ _
  unfold State.modDoor
  rw [fused]

@[simp] theorem doorGoes_settings (s : State) (d : Fin 32) (y : DoorRecord) (cause : DoorCause) :
    (s.doorGoes d y cause).settings = s.settings := by
  simp [State.doorGoes, State.withDoor]

@[simp] theorem doorGoes_zones (s : State) (d : Fin 32) (y : DoorRecord) (cause : DoorCause) :
    (s.doorGoes d y cause).zones = s.zones := by
  simp [State.doorGoes, State.withDoor]

/-- Entry to CLOSING from a record changed first (R93). -/
theorem startClosing_modDoor {s : State} {d : Fin 32} {f : DoorRecord → DoorRecord}
    (state : (f s.doors[d]).state = s.doors[d].state) (cause : DoorCause) (edge : Bool) :
    (s.modDoor d f).startClosing d cause edge = s.doorCloses d (f s.doors[d]) cause edge := by
  have closes : ((s.modDoor d f).modDoor d fun x => { x with
      closingSince := s.clock
      mark := s.uptime
      travel := some (s.travelTime d) }).enterDoor d .closing cause =
      s.doorGoes d (s.closingRecord d (f s.doors[d])) cause := by
    rw [modDoor_modDoor]
    exact enterDoor_modDoor (f := fun x => { f x with
      closingSince := s.clock
      mark := s.uptime
      travel := some (s.travelTime d) }) state .closing cause
  have gate : ((s.modDoor d f).sliding d && edge) = true ↔
      s.settings.doors[d].kind = .sliding ∧ edge = true := by
    rw [Bool.and_eq_true]
    exact and_congr_left' decide_eq_true_iff
  unfold State.startClosing State.doorCloses
  refine (congrArg (fun t : State => if (s.modDoor d f).sliding d && edge then t.obstruct d else t)
    closes).trans ?_
  dsimp only
  rw [if_congr gate rfl rfl]
  split
  · rw [obstruct_eq, doorGoes_doors_self]
    unfold State.obstructedRecord
    rw [doorGoes_settings]
  · rfl

theorem startClosing_eq (s : State) (d : Fin 32) (cause : DoorCause) (edge : Bool) :
    s.startClosing d cause edge = s.doorCloses d s.doors[d] cause edge := by
  have same : s.modDoor d id = s := by
    have doors : upd s.doors d id = s.doors := upd_self _ _ rfl
    unfold State.modDoor
    rw [doors]
  have closes := startClosing_modDoor (s := s) (d := d) (f := id) rfl cause edge
  rwa [same] at closes

theorem holdDoor_eq (s : State) (d : Fin 32) : s.holdDoor d = s.doorHeld d := by
  unfold State.holdDoor State.doorHeld State.sliding
  by_cases sliding : s.settings.doors[d].kind = .sliding
  · simp only [sliding, decide_true, if_true]
    exact enterDoor_modDoor rfl .opening .hold
  · simp only [sliding, decide_false, Bool.false_eq_true, if_false]
    exact enterDoor_eq_doorGoes s d .armed .hold

/-- Timed closing (R93, R95). -/
theorem closeTimed_eq (s : State) (d : Fin 32) :
    s.closeTimed d = (s.countDoor d fun k => { k with closures := saturate k.closures }).doorGoes d
      { s.doors[d] with
        state := .closed
        travel := none
        pause := none
        lastClosed := s.clock
        closeDuration := some (s.uptime - s.doors[d].mark)
        retry := 0 } .closedSwitch := by
  unfold State.closeTimed
  rw [← State.countDoor_doors (s := s)]
  exact enterDoor_modDoor (s := s.countDoor d _) (f := fun x => { x with
    travel := none
    pause := none
    lastClosed := s.clock
    closeDuration := some (s.uptime - x.mark)
    retry := 0 }) rfl .closed .closedSwitch

theorem shutByHand_eq (s : State) (d : Fin 32) :
    s.shutByHand d = (s.countDoor d fun k => { k with closures := saturate k.closures }).doorGoes d
      { s.doors[d] with state := .closed, lastClosed := s.clock } .closedSwitch := by
  unfold State.shutByHand
  rw [← State.countDoor_doors (s := s)]
  exact enterDoor_modDoor (s := s.countDoor d _) (f := fun x => { x with lastClosed := s.clock }) rfl
    .closed .closedSwitch

theorem closeFault_eq (s : State) (d : Fin 32) :
    s.closeFault d = (s.countDoor d fun k => { k with closures := saturate k.closures }).doorGoes d
      { s.doors[d] with state := .closed, cause := none, lastClosed := s.clock, retry := 0 }
      .closedSwitch := by
  unfold State.closeFault
  rw [← State.countDoor_doors (s := s)]
  exact enterDoor_modDoor (s := s.countDoor d _) (f := fun x => { x with
    cause := none, lastClosed := s.clock, retry := 0 }) rfl .closed .closedSwitch

/-- Entry to FAULT from a record changed first (R99). -/
theorem faultDoor_modDoor {s : State} {d : Fin 32} {f : DoorRecord → DoorRecord}
    (state : (f s.doors[d]).state = s.doors[d].state) (c : FaultCause) :
    (s.modDoor d f).faultDoor d c = s.doorGoes d { f s.doors[d] with
      state := .fault, travel := none, pause := none, cause := some c } c.doorCause := by
  unfold State.faultDoor
  rw [modDoor_modDoor]
  exact enterDoor_modDoor (f := fun x => { f x with travel := none, pause := none, cause := some c })
    state .fault c.doorCause

/-- A door derived from its inputs (R85, R100, R108, R109). -/
theorem deriveDoor_eq (s : State) (d : Fin 32) (cause : DoorCause) (i : DoorInputs) :
    s.deriveDoor d cause i =
      let y : DoorRecord := { s.doors[d].stopped with
        seen := i
        cause := none
        conflict := if i.conflict then some 1000 else none }
      if i.closedSwitch then s.doorGoes d { y with state := .closed } cause
      else s.doorCloses d y cause i.edge := by
  unfold State.deriveDoor
  dsimp only
  split
  · exact enterDoor_modDoor rfl .closed cause
  · exact startClosing_modDoor rfl cause i.edge

theorem releaseDoor_eq (s : State) (d : Fin 32) (cause : DoorCause) :
    s.releaseDoor d cause = s.doorReleased d cause := by
  unfold State.releaseDoor State.doorReleased
  dsimp only
  cases held : s.doors[d].state.heldOpen with
  | false => rfl
  | true =>
    simp only [Bool.not_true, Bool.false_eq_true, if_false, reduceCtorEq]
    split
    · exact enterDoor_modDoor (s := s.countDoor d _) rfl .closed cause
    · exact startClosing_modDoor (s := s.countDoor d _) rfl cause _

theorem isolateDoor_eq (s : State) (d : Fin 32) :
    s.isolateDoor d = s.doorGoes d { s.doors[d].stopped with
      retry := 0, cause := none, state := .isolated } .isolate :=
  enterDoor_modDoor rfl .isolated .isolate

/-! ### What a door's change leaves of the doors' states -/

theorem doorCloses_doors_other {s : State} {d e : Fin 32} (other : e ≠ d) (y : DoorRecord)
    (cause : DoorCause) (edge : Bool) : (s.doorCloses d y cause edge).doors[e] = s.doors[e] := by
  unfold State.doorCloses
  dsimp only
  split
  · rw [doorGoes_doors_other other, State.countDoor_doors, doorGoes_doors_other other]
  · exact doorGoes_doors_other other _ _

theorem doorCloses_state (s : State) (d : Fin 32) (y : DoorRecord) (cause : DoorCause) (edge : Bool) :
    (s.doorCloses d y cause edge).doors[d].state =
      if s.settings.doors[d].kind = .sliding ∧ edge = true then .obstructed else .closing := by
  unfold State.doorCloses
  dsimp only
  split
  · rw [doorGoes_doors_self]
    rfl
  · rw [doorGoes_doors_self]
    rfl

theorem doorReleased_doors_other {s : State} {d e : Fin 32} (other : e ≠ d) (cause : DoorCause) :
    (s.doorReleased d cause).doors[e] = s.doors[e] := by
  unfold State.doorReleased
  dsimp only
  split
  · rfl
  split
  · exact doorGoes_doors_other other _ _
  · exact doorCloses_doors_other other _ _ _

theorem doorReleased_state (s : State) (d : Fin 32) (cause : DoorCause) :
    (s.doorReleased d cause).doors[d].state = releasedState s.settings.doors[d].kind s.doors[d] := by
  unfold State.doorReleased releasedState
  dsimp only
  split
  · rfl
  split
  · rw [doorGoes_doors_self]
  · exact doorCloses_state _ _ _ _ _

theorem releasedState_heldOpen (k : DoorKind) (x : DoorRecord) :
    (releasedState k x).heldOpen = false := by
  unfold releasedState
  split
  · assumption
  split
  · rfl
  split <;> rfl

end Sys2Proof.Proofs
end

section
/-! SUPPORT. The laws of a zone in ALARM (05, 07): no fitted door of it is held, and no RECALL call stays on
its lanes. -/

open Sys2Proof Sys2Proof.Machine

namespace Sys2Proof.Proofs

/-! ### Doors that are not held -/

/-- From `s` to `t` no door has become held, and the zones and the doors' settings stand. -/
structure HoldsNoMore (s t : State) : Prop where
  settings : t.settings.doors = s.settings.doors
  zones : ∀ z : Fin 8, t.zones[z].alarm = s.zones[z].alarm
  doors : ∀ d : Fin 32, t.doors[d].state.heldOpen = true → s.doors[d].state.heldOpen = true

theorem HoldsNoMore.refl (s : State) : HoldsNoMore s s := ⟨rfl, fun _ => rfl, fun _ => id⟩

theorem HoldsNoMore.trans {s t u : State} (h : HoldsNoMore s t) (k : HoldsNoMore t u) :
    HoldsNoMore s u where
  settings := k.settings.trans h.settings
  zones z := (k.zones z).trans (h.zones z)
  doors d held := h.doors d (k.doors d held)

theorem HoldsNoMore.foldl {α : Type} {f : State → α → State} (h : ∀ s x, HoldsNoMore s (f s x))
    (s : State) (xs : List α) : HoldsNoMore s (xs.foldl f s) := by
  induction xs generalizing s with
  | nil => exact .refl s
  | cons x xs ih => exact (h s x).trans (ih _)

theorem Within.holdsNoMore {ps : List Part} {s t : State} (h : Within ps s t)
    (apart : ∀ p ∈ [Part.doorSettings, .zones, .doors], p ∉ ps) : HoldsNoMore s t where
  settings := h .doorSettings (apart _ (by decide))
  zones := h .zones (apart _ (by decide))
  doors d := by rw [h .doors (apart _ (by decide)) d]; exact id

/-- The zone stands in ALARM. -/
def inAlarm (s : State) (z : Fin 8) : Bool := s.zones[z].alarm

theorem fireDoorLaw_iff (s : State) : s.FireDoorLaw ↔ ∀ d : Fin 32,
    s.settings.doors[d].kind ≠ .absent → inAlarm s s.settings.doors[d].zone = true →
      s.doors[d].state.heldOpen = false :=
  forall_congr' fun _ => imp_congr_left decide_eq_true_iff

theorem HoldsNoMore.inAlarm {s t : State} (h : HoldsNoMore s t) : inAlarm t = inAlarm s :=
  funext h.zones

theorem HoldsNoMore.free {s t : State} (h : HoldsNoMore s t) {d : Fin 32}
    (free : s.doors[d].state.heldOpen = false) : t.doors[d].state.heldOpen = false :=
  Bool.eq_false_iff.2 fun held => Bool.eq_false_iff.1 free (h.doors d held)

theorem fireDoorLaw_holdsNoMore {s t : State} (law : s.FireDoorLaw) (h : HoldsNoMore s t) :
    t.FireDoorLaw := by
  rw [fireDoorLaw_iff] at law ⊢
  intro d fitted alarm
  rw [h.settings] at fitted alarm
  rw [h.inAlarm] at alarm
  exact h.free (law d fitted alarm)

/-- A door that goes to a record that is not held. -/
theorem holdsNoMore_doorGoes {s : State} {d : Fin 32} {y : DoorRecord} (cause : DoorCause)
    (free : y.state.heldOpen = true → s.doors[d].state.heldOpen = true) :
    HoldsNoMore s (s.doorGoes d y cause) where
  settings := by rw [doorGoes_settings]
  zones z := by rw [doorGoes_zones]
  doors e held := by
    by_cases same : e = d
    · subst same
      exact free (doorGoes_doors_self s e y cause ▸ held)
    · rwa [doorGoes_doors_other same] at held

theorem holdsNoMore_countDoor (s : State) (d : Fin 32) (f : DoorCounters → DoorCounters) :
    HoldsNoMore s (s.countDoor d f) := ⟨rfl, fun _ => rfl, fun _ => id⟩

theorem holdsNoMore_modDoor {s : State} {d : Fin 32} {f : DoorRecord → DoorRecord}
    (state : (f s.doors[d]).state = s.doors[d].state) : HoldsNoMore s (s.modDoor d f) :=
  (within_modDoor_state state).holdsNoMore (by simp)

theorem holdsNoMore_doorCloses (s : State) (d : Fin 32) (y : DoorRecord) (cause : DoorCause)
    (edge : Bool) : HoldsNoMore s (s.doorCloses d y cause edge) := by
  have closing := holdsNoMore_doorGoes (s := s) (d := d) (y := s.closingRecord d y) cause nofun
  unfold State.doorCloses
  dsimp only
  split
  · exact closing.trans ((holdsNoMore_countDoor _ _ _).trans (holdsNoMore_doorGoes .edge nofun))
  · exact closing

theorem holdsNoMore_deriveDoor (s : State) (d : Fin 32) (cause : DoorCause) (i : DoorInputs) :
    HoldsNoMore s (s.deriveDoor d cause i) := by
  rw [deriveDoor_eq]
  dsimp only
  split
  · exact holdsNoMore_doorGoes cause nofun
  · exact holdsNoMore_doorCloses _ _ _ _ _

theorem holdsNoMore_releaseDoor (s : State) (d : Fin 32) (cause : DoorCause) :
    HoldsNoMore s (s.releaseDoor d cause) := by
  rw [releaseDoor_eq]
  unfold State.doorReleased
  dsimp only
  split
  · exact .refl s
  split
  · exact (holdsNoMore_countDoor _ _ _).trans (holdsNoMore_doorGoes cause nofun)
  · exact (holdsNoMore_countDoor _ _ _).trans (holdsNoMore_doorCloses _ _ _ _ _)

theorem heldOpen_releaseDoor (s : State) (d : Fin 32) (cause : DoorCause) :
    (s.releaseDoor d cause).doors[d].state.heldOpen = false := by
  rw [releaseDoor_eq, doorReleased_state, releasedState_heldOpen]

theorem holdsNoMore_releaseDoors (s : State) (ds : List (Fin 32)) (cause : DoorCause) :
    HoldsNoMore s (s.releaseDoors ds cause) := .foldl (fun s d => holdsNoMore_releaseDoor s d cause) s ds

/-- Every door of the list is free after they are released. -/
theorem heldOpen_releaseDoors {s : State} {ds : List (Fin 32)} {cause : DoorCause} {d : Fin 32}
    (listed : d ∈ ds) : (s.releaseDoors ds cause).doors[d].state.heldOpen = false := by
  induction ds generalizing s with
  | nil => exact absurd listed List.not_mem_nil
  | cons e ds ih =>
    by_cases rest : d ∈ ds
    · exact ih rest
    · obtain rfl := (List.mem_cons.1 listed).resolve_right rest
      have later := holdsNoMore_releaseDoors (s.releaseDoor d cause) ds cause
      exact later.free (heldOpen_releaseDoor s d cause)

theorem holdsNoMore_doorEvent (s : State) (d : Fin 32) (was i : DoorInputs) :
    HoldsNoMore s (s.doorEvent d was i) := by
  unfold State.doorEvent
  split
  case h_1 =>
    split
    · exact (holdsNoMore_modDoor rfl).trans (startClosing_eq _ d .passage i.edge ▸
        holdsNoMore_doorCloses _ _ _ _ _)
    · exact .refl s
  case h_2 armed =>
    split
    · rw [enterDoor_eq_doorGoes]
      exact holdsNoMore_doorGoes _ fun _ => by rw [armed]; rfl
    · exact .refl s
  case h_3 opening =>
    split
    · rw [enterDoor_modDoor rfl]
      exact holdsNoMore_doorGoes _ fun _ => by rw [opening]; rfl
    · exact .refl s
  case h_4 =>
    split
    · rw [shutByHand_eq]
      exact (holdsNoMore_countDoor _ _ _).trans (holdsNoMore_doorGoes _ nofun)
    · split
      · rw [startClosing_eq]
        exact holdsNoMore_doorCloses _ _ _ _ _
      · exact .refl s
  case h_5 =>
    split
    · rw [closeTimed_eq]
      exact (holdsNoMore_countDoor _ _ _).trans (holdsNoMore_doorGoes _ nofun)
    · split
      · rw [obstruct_eq]
        exact (holdsNoMore_countDoor _ _ _).trans (holdsNoMore_doorGoes _ nofun)
      · exact .refl s
  case h_6 =>
    split
    · rw [closeTimed_eq]
      exact (holdsNoMore_countDoor _ _ _).trans (holdsNoMore_doorGoes _ nofun)
    · exact .refl s
  case h_7 =>
    split
    · rw [closeFault_eq]
      exact (holdsNoMore_countDoor _ _ _).trans (holdsNoMore_doorGoes _ nofun)
    · exact .refl s
  case h_8 => exact .refl s

theorem holdsNoMore_faultDoor (s : State) (d : Fin 32) (c : FaultCause) :
    HoldsNoMore s (s.faultDoor d c) := by
  unfold State.faultDoor
  rw [enterDoor_modDoor rfl]
  exact holdsNoMore_doorGoes _ nofun

theorem holdsNoMore_rekindDoor (s : State) (d : Fin 32) (old : DoorKind) :
    HoldsNoMore s (s.rekindDoor d old) := by
  unfold State.rekindDoor
  dsimp only
  split
  · exact .refl s
  split
  · unfold State.unfitDoor
    rw [enterDoor_modDoor rfl]
    exact holdsNoMore_doorGoes _ nofun
  split
  · exact .refl s
  · exact holdsNoMore_deriveDoor _ _ _ _

/-! ### The law of the doors of a zone in ALARM -/

theorem fireDoorLaw_reads : Reads [.doors, .zones, .doorSettings] State.FireDoorLaw := by
  intro s t kept law
  exact fireDoorLaw_holdsNoMore law ⟨kept .doorSettings (by decide), kept .zones (by decide),
    fun d => by rw [kept .doors (by decide) d]; exact id⟩

/-- A hold of a door whose zone is not in ALARM. -/
theorem fireDoorLaw_holdDoor {s : State} {d : Fin 32} (law : s.FireDoorLaw)
    (normal : s.zones[s.settings.doors[d].zone].alarm = false) : (s.holdDoor d).FireDoorLaw := by
  rw [holdDoor_eq]
  rw [fireDoorLaw_iff] at law ⊢
  unfold State.doorHeld
  intro e fitted alarm
  rw [doorGoes_settings] at fitted alarm
  rw [inAlarm, doorGoes_zones] at alarm
  by_cases same : e = d
  · subst same
    exact absurd alarm (Bool.eq_false_iff.1 normal)
  · rw [doorGoes_doors_other same]
    exact law e fitted alarm

theorem fireDoorLaw_exitAlarm {s : State} {z : Fin 8} {cause : ZoneCause} (law : s.FireDoorLaw) :
    (s.exitAlarm z cause).FireDoorLaw := by
  have left : (s.modZone z fun x => { x with alarm := false }).FireDoorLaw := by
    rw [fireDoorLaw_iff] at law ⊢
    intro d fitted alarm
    rw [inAlarm, State.modZone_zones, State.modZone_settings] at alarm
    by_cases same : s.settings.doors[d].zone = z
    · rw [same, upd_get_self] at alarm
      exact absurd alarm nofun
    · rw [upd_get_other _ _ _ _ same] at alarm
      exact law d fitted alarm
  exact fireDoorLaw_reads.within (within_report.then within_hand) left (by simp)

theorem mem_zoneDoors {s : State} {z : Fin 8} {d : Fin 32} :
    d ∈ s.zoneDoors z ↔ s.doorFitted d = true ∧ s.settings.doors[d].zone = z := by
  simp [State.zoneDoors, State.doorOfZone]

theorem fireDoorLaw_enterAlarm {s : State} {z : Fin 8} (law : s.FireDoorLaw) :
    (s.enterAlarm z).FireDoorLaw := by
  unfold State.enterAlarm
  extract_lets cause t
  refine fireDoorLaw_reads.within within_hand ?_ (by simp)
  have released := holdsNoMore_releaseDoors t (s.zoneDoors z) .zoneAlarm
  have settings : t.settings = s.settings := by simp [t]
  have zones : t.zones = upd s.zones z fun x => { x with alarm := true, since := some s.clock } := by
    simp [t]
  have doors : t.doors = s.doors := by simp [t]
  rw [fireDoorLaw_iff] at law ⊢
  intro d fitted alarm
  rw [released.settings, settings] at fitted alarm
  rw [released.inAlarm, inAlarm, zones] at alarm
  by_cases same : s.settings.doors[d].zone = z
  · exact heldOpen_releaseDoors (mem_zoneDoors.2 ⟨decide_eq_true fitted, same⟩)
  · rw [upd_get_other _ _ _ _ same] at alarm
    exact released.free (doors ▸ law d fitted alarm)

theorem fireDoorLaw_evalZone {s : State} (z : Fin 8) (part : ZoneCause) (law : s.FireDoorLaw) :
    (s.evalZone z part).FireDoorLaw := by
  unfold State.evalZone
  split
  · exact law
  split
  · exact fireDoorLaw_enterAlarm law
  · exact fireDoorLaw_exitAlarm law

theorem fireDoorLaw_evalZones {s : State} (zs : List (Fin 8)) (part : ZoneCause) (law : s.FireDoorLaw) :
    (zs.foldl (fun s z => s.evalZone z part) s).FireDoorLaw := by
  induction zs generalizing s with
  | nil => exact law
  | cons z zs ih => exact ih (fireDoorLaw_evalZone z part law)

/-- Free doors and any zones meet the law. -/
theorem fireDoorLaw_free {s : State} (free : ∀ d : Fin 32, s.doors[d].state.heldOpen = false) :
    s.FireDoorLaw := fun d _ _ => free d

/-! ### The commands and the law of the doors -/

theorem holdsNoMore_zero {s t : State} (h : Within [] s t) : HoldsNoMore s t := h.holdsNoMore (by simp)

theorem fireDoorLaw_holdDoors {s : State} {ds : List (Fin 32)} (law : s.FireDoorLaw)
    (normal : ∀ d ∈ ds, inAlarm s s.settings.doors[d].zone = false) :
    (ds.foldl State.holdDoor s).FireDoorLaw := by
  induction ds generalizing s with
  | nil => exact law
  | cons d ds ih =>
    refine ih (fireDoorLaw_holdDoor law (normal d List.mem_cons_self)) fun e he => ?_
    have zones : inAlarm (s.holdDoor d) = inAlarm s := by
      rw [holdDoor_eq]
      unfold State.doorHeld inAlarm
      rw [doorGoes_zones]
    have settings : (s.holdDoor d).settings = s.settings := by
      rw [holdDoor_eq]
      exact doorGoes_settings _ _ _ _
    rw [zones, settings]
    exact normal e (List.mem_cons_of_mem d he)

/-- A door whose settings change is not held, before or after (R85, R176). -/
theorem fireDoorLaw_rewriteDoor {s : State} {d : Fin 32} {x : DoorSettings} (law : s.FireDoorLaw)
    (free : s.doorBusy d = false) : (s.rewriteDoor d x).FireDoorLaw := by
  unfold State.rewriteDoor
  refine fireDoorLaw_reads.within within_recount ?_ (by simp)
  refine fireDoorLaw_holdsNoMore ?_ (holdsNoMore_rekindDoor _ _ _)
  rw [fireDoorLaw_iff] at law ⊢
  intro e fitted alarm
  by_cases same : e = d
  · subst same
    have rest : s.doors[e].state = .closed ∨ s.doors[e].state = .isolated := by
      unfold State.doorBusy at free
      by_contra! moving
      exact absurd free (by simpa using moving)
    rcases rest with at' | at' <;> exact at' ▸ rfl
  · have kept : (s.settings.doors.set d x)[e] = s.settings.doors[e] :=
      Vector.getElem_set_ne d.isLt e.isLt (Fin.val_ne_of_ne (Ne.symm same))
    rw [kept] at fitted alarm
    exact law e fitted alarm

theorem fireDoorLaw_rewriteZone {s : State} {z : Fin 8} {x : ZoneSettings} (law : s.FireDoorLaw) :
    (s.rewriteZone z x).FireDoorLaw := by
  have taken : { s with settings := { s.settings with zones := s.settings.zones.set z x } }.FireDoorLaw :=
    fireDoorLaw_reads.within (within_zoneSettings (zones := s.settings.zones.set z x)) law (by simp)
  unfold State.rewriteZone
  dsimp only
  split
  · exact taken
  · exact fireDoorLaw_evalZone _ _ taken

theorem fireDoorLaw_modZone {s : State} {z : Fin 8} {f : ZoneRecord → ZoneRecord} (law : s.FireDoorLaw)
    (alarm : (f s.zones[z]).alarm = s.zones[z].alarm) : (s.modZone z f).FireDoorLaw :=
  fireDoorLaw_reads.within (within_modZone_alarm alarm) law (by simp)

theorem holdsNoMore_releaseIfAlarm (s : State) (d : Fin 32) : HoldsNoMore s (s.releaseIfAlarm d) := by
  unfold State.releaseIfAlarm
  split
  · exact holdsNoMore_releaseDoor _ _ _
  · exact .refl s

/-- The door commands keep the law, and the others stand apart from doors and zones. -/
theorem fireDoorLaw_command (i : Instr) (s t : State) (renew : renews i = false) (law : s.FireDoorLaw)
    (h : exec i s = .next t) : t.FireDoorLaw := by
  have event {i : Instr} {f : State → State} (h : runEvent i s f = .next t)
      (act : ∀ u, u.FireDoorLaw → (f u).FireDoorLaw) : t.FireDoorLaw :=
    fireDoorLaw_reads.runEvent (by decide) h act law
  have quiet {i : Instr} {f : State → State} (h : runEvent i s f = .next t)
      (act : ∀ u, HoldsNoMore u (f u)) : t.FireDoorLaw :=
    event h fun u law => fireDoorLaw_holdsNoMore law (act u)
  by_cases apart : ∀ p ∈ [Part.doors, .zones, .doorSettings], p ∉ touched i
  · exact fireDoorLaw_reads.exec_apart (by decide) law h apart
  cases i <;> simp only [touched, List.mem_cons, List.not_mem_nil, reduceCtorEq, or_false, or_true,
    not_true_eq_false, not_false_eq_true, forall_eq_or_imp, forall_eq, and_true, and_false, or_self,
    implies_true] at apart
  case doorInputChange d inputs =>
    change execDoorInputChange d inputs s = _ at h
    refine quiet h fun u => ?_
    dsimp only
    split
    · exact holdsNoMore_modDoor rfl
    · exact (holdsNoMore_modDoor rfl).trans ((holdsNoMore_modDoor rfl).trans
        (holdsNoMore_doorEvent _ _ _ _))
  case travelTimerExpiry d =>
    change execTravelTimerExpiry d s = _ at h
    refine quiet h fun u => ?_
    have stopped : HoldsNoMore u (u.modDoor d fun x => { x with travel := none }) :=
      holdsNoMore_modDoor rfl
    dsimp only
    split
    · exact .refl u
    split
    · exact stopped.trans (holdsNoMore_faultDoor _ _ _)
    · exact stopped.trans (holdsNoMore_faultDoor _ _ _)
    · exact stopped
  case pauseTimerExpiry d =>
    change execPauseTimerExpiry d s = _ at h
    refine quiet h fun u => ?_
    have stopped : HoldsNoMore u (u.modDoor d fun x => { x with pause := none }) :=
      holdsNoMore_modDoor rfl
    dsimp only
    split
    · exact .refl u
    split
    · exact stopped
    split
    · rw [startClosing_eq]
      exact stopped.trans ((holdsNoMore_modDoor rfl).trans (holdsNoMore_doorCloses _ _ _ _ _))
    · exact stopped.trans (holdsNoMore_faultDoor _ _ _)
  case conflictTimerExpiry d =>
    change execConflictTimerExpiry d s = _ at h
    refine quiet h fun u => ?_
    have stopped : HoldsNoMore u (u.modDoor d fun x => { x with conflict := none }) :=
      holdsNoMore_modDoor rfl
    dsimp only
    split
    · exact .refl u
    split
    · exact stopped
    · exact stopped
    · exact stopped.trans (holdsNoMore_faultDoor _ _ _)
  case fireInputChange z asserted =>
    change execFireInputChange z asserted s = _ at h
    exact event h fun u law => fireDoorLaw_evalZone _ _ (fireDoorLaw_modZone law rfl)
  case zoneAlarm l tag zone action =>
    change execZoneAlarm l tag zone action s = _ at h
    refine fireDoorLaw_reads.runRequest h (fun u law => ?_) law
    cases finOf? 8 zone with
    | none => exact law
    | some z =>
      cases boolOfCode action with
      | none => exact law
      | some raised =>
        dsimp only
        split
        · exact law
        · exact fireDoorLaw_evalZone _ _ (fireDoorLaw_modZone law rfl)
  case doorHold l tag door =>
    change execDoorHold l tag door s = _ at h
    refine fireDoorLaw_reads.runRequest h (fun u law => ?_) law
    cases u.fittedDoor? door with
    | none => exact law
    | some d =>
      dsimp only
      split
      · exact law
      split
      · exact law
      · exact fireDoorLaw_holdDoor law (Bool.eq_false_iff.2 ‹_›)
  case doorHoldZone l tag zone =>
    change execDoorHoldZone l tag zone s = _ at h
    refine fireDoorLaw_reads.runRequest h (fun u law => ?_) law
    cases finOf? 8 zone with
    | none => exact law
    | some z =>
      dsimp only
      split
      · exact law
      case isFalse normal =>
        refine fireDoorLaw_holdDoors law fun d hd => ?_
        obtain ⟨-, zone⟩ := mem_zoneDoors.1 (List.mem_of_mem_filter hd)
        rw [zone]
        exact Bool.eq_false_iff.2 normal
  case doorRelease l tag door =>
    change execDoorRelease l tag door s = _ at h
    refine fireDoorLaw_reads.runRequest h (fun u law => ?_) law
    cases u.fittedDoor? door with
    | none => exact law
    | some d => exact fireDoorLaw_holdsNoMore law (holdsNoMore_releaseDoor _ _ _)
  case doorReleaseZone l tag zone =>
    change execDoorReleaseZone l tag zone s = _ at h
    refine fireDoorLaw_reads.runRequest h (fun u law => ?_) law
    cases finOf? 8 zone with
    | none => exact law
    | some z => exact fireDoorLaw_holdsNoMore law (holdsNoMore_releaseDoors _ _ _)
  case doorIsolate l tag door =>
    change execDoorIsolate l tag door s = _ at h
    refine fireDoorLaw_reads.runRequest h (fun u law => ?_) law
    cases u.fittedDoor? door with
    | none => exact law
    | some d =>
      dsimp only
      split
      · exact law
      split
      · exact law
      · rw [isolateDoor_eq]
        exact fireDoorLaw_holdsNoMore law (holdsNoMore_doorGoes _ nofun)
  case doorRestore l tag door =>
    change execDoorRestore l tag door s = _ at h
    refine fireDoorLaw_reads.runRequest h (fun u law => ?_) law
    cases u.fittedDoor? door with
    | none => exact law
    | some d =>
      dsimp only
      split
      · exact law
      split
      · exact law
      · exact fireDoorLaw_holdsNoMore law (holdsNoMore_deriveDoor _ _ _ _)
  case settingsWriteDoor l tag index data =>
    change execSettingsWriteDoor l tag index data s = _ at h
    exact fireDoorLaw_reads.runRequest h (fun u law => fireDoorLaw_reads.settingsWrite law
      fun x free => fireDoorLaw_rewriteDoor law free) law
  case settingsWriteZone l tag index data =>
    change execSettingsWriteZone l tag index data s = _ at h
    exact fireDoorLaw_reads.runRequest h (fun u law => fireDoorLaw_reads.settingsWrite law
      fun _ _ => fireDoorLaw_rewriteZone law) law
  all_goals exact absurd renew nofun

theorem fireDoorLaw_image (image : Image) (power : Power) (rest : List Instr) :
    { State.powerOn image with power := power, pending := rest }.FireDoorLaw :=
  fireDoorLaw_free fun d => by simp [State.powerOn, DoorRecord.powerOn, DoorState.heldOpen]

theorem holdsNoMore_startDoor (s : State) (d : Fin 32) : HoldsNoMore s (s.startDoor d) := by
  unfold State.startDoor
  split
  · exact holdsNoMore_deriveDoor _ _ _ _
  · exact .refl s

theorem HoldsNoMore.quiet {s t r : State} (h : HoldsNoMore s t) : HoldsNoMore s (t.quiet r) :=
  ⟨h.settings, h.zones, h.doors⟩

theorem fireDoorLaw_startZones {s : State} (law : s.FireDoorLaw) : s.startZones.FireDoorLaw := by
  have evaluated := fireDoorLaw_evalZones (List.finRange 8) .fireInput law
  unfold State.startZones
  exact fireDoorLaw_reads.within within_handed evaluated (by decide)

theorem fireDoorLaw_start {s : State} (inputs : InputLevels) (doors : Vector DoorInputs 32) :
    (s.start inputs doors).FireDoorLaw := by
  have loaded : (s.takeLoad inputs doors).FireDoorLaw :=
    fireDoorLaw_free fun d => by simp [State.takeLoad, DoorRecord.powerOn, DoorState.heldOpen]
  have derived : (s.takeLoad inputs doors).startDoors.FireDoorLaw := by
    unfold State.startDoors
    exact fireDoorLaw_holdsNoMore loaded (HoldsNoMore.foldl holdsNoMore_startDoor _ _).quiet
  have zones := fireDoorLaw_startZones derived
  unfold State.start
  exact fireDoorLaw_reads.within (within_startSensors.then within_startAlarms
    |>.then within_startLines |>.then within_startSlots |>.then within_hand) zones (by decide)

/-- Of the doors listed, those of a zone in ALARM are free after the releases of a reset. -/
theorem heldOpen_releaseIfAlarm {s : State} {ds : List (Fin 32)} {d : Fin 32} (listed : d ∈ ds)
    (fitted : s.settings.doors[d].kind ≠ .absent) (alarm : inAlarm s s.settings.doors[d].zone = true) :
    (ds.foldl State.releaseIfAlarm s).doors[d].state.heldOpen = false := by
  induction ds generalizing s with
  | nil => exact absurd listed List.not_mem_nil
  | cons e ds ih =>
    have first := holdsNoMore_releaseIfAlarm s e
    rw [List.foldl_cons]
    by_cases rest : d ∈ ds
    · exact ih rest (first.settings ▸ fitted) (by rw [first.settings, first.inAlarm]; exact alarm)
    · obtain rfl := (List.mem_cons.1 listed).resolve_right rest
      refine (HoldsNoMore.foldl holdsNoMore_releaseIfAlarm _ ds).free ?_
      have gate : (s.doorFitted d && s.zones[s.settings.doors[d].zone].alarm) = true :=
        Bool.and_eq_true_iff.2 ⟨decide_eq_true fitted, alarm⟩
      rw [State.releaseIfAlarm, if_pos gate]
      exact heldOpen_releaseDoor s d .zoneAlarm

theorem fireDoorLaw_releaseAll (s : State) :
    ((List.finRange 32).foldl State.releaseIfAlarm s).FireDoorLaw := by
  have released := HoldsNoMore.foldl holdsNoMore_releaseIfAlarm s (List.finRange 32)
  rw [fireDoorLaw_iff]
  intro d fitted alarm
  rw [released.settings] at fitted alarm
  rw [released.inAlarm] at alarm
  exact heldOpen_releaseIfAlarm (List.mem_finRange d) fitted alarm

theorem fireDoorLaw_resetBlocks (s : State) : s.resetBlocks.FireDoorLaw := by
  unfold State.resetBlocks
  extract_lets x t u v
  have released : u.FireDoorLaw := by
    unfold u State.resetDoors
    exact fireDoorLaw_releaseAll _
  exact fireDoorLaw_reads.within (within_dropOvertaken.then within_resetCalls |>.then
    within_resetAlarms |>.then within_resetSlots |>.then within_postAlarmZones |>.then within_hand)
    released (by decide)

/-! ### RECALL calls and the zones in ALARM (R126, R133) -/

theorem recallLaw_iff (s : State) : s.RecallLaw ↔ ∀ c ∈ s.calls.table, c.kind = .recall →
    ∀ z : Fin 8, inAlarm s z = true →
      c.lanes &&& s.settings.zones[z].lanes = 0 ∨ .recallTrim z ∈ s.handed := Iff.rfl

theorem recallLaw_reads : Reads [.calls, .zones, .zoneSettings, .trims] State.RecallLaw := by
  intro s t kept law
  obtain ⟨table, -, -⟩ := kept .calls (by decide)
  have zones : inAlarm t = inAlarm s := funext (kept .zones (by decide))
  have settings : t.settings.zones = s.settings.zones := kept .zoneSettings (by decide)
  have trims : KeepsNotices isTrim s t := kept .trims (by decide)
  rw [recallLaw_iff] at law ⊢
  intro c standing isRecall z alarm
  rw [table] at standing
  rw [zones] at alarm
  rw [settings]
  exact (law c standing isRecall z alarm).imp_right fun coming => trims _ coming rfl

theorem recallLaw_taken {s : State} {i : Instr} (law : s.RecallLaw) (other : isTrim i = false) :
    (s.taken i).RecallLaw := by
  rw [recallLaw_iff] at law ⊢
  intro c standing isRecall z alarm
  refine (law c standing isRecall z alarm).imp_right fun coming => ?_
  exact (List.mem_erase_of_ne (by rintro rfl; exact absurd other nofun)).2 coming

/-- A judge of calls that only narrows their lanes. -/
def Narrows (judge : Call → Verdict) : Prop :=
  ∀ c, (judge c).1.kind = c.kind ∧ ∃ m, (judge c).1.lanes = c.lanes &&& m

theorem narrows_removeIf (p : Call → Bool) (r : RemovalReason) : Narrows (removeIf p r) :=
  fun _ => ⟨rfl, BitVec.allOnes 16, (BitVec.and_allOnes).symm⟩

theorem narrows_trimCall (lanes : LaneSet) : Narrows (trimCall lanes) := by
  intro c
  have whole : ∃ m, c.lanes = c.lanes &&& m := ⟨BitVec.allOnes 16, (BitVec.and_allOnes).symm⟩
  unfold trimCall
  split
  · exact ⟨rfl, whole⟩
  · dsimp only
    split
    · exact ⟨rfl, _, rfl⟩
    · split <;> exact ⟨rfl, _, rfl⟩

theorem narrows_ackCall (n : Fin 16) : Narrows (ackCall n) := by
  intro c
  have whole : ∃ m, c.lanes = c.lanes &&& m := ⟨BitVec.allOnes 16, (BitVec.and_allOnes).symm⟩
  unfold ackCall
  split
  · dsimp only
    split <;> exact ⟨rfl, whole⟩
  · exact ⟨rfl, whole⟩

theorem and_and_eq_zero {a m b : LaneSet} (h : a &&& b = 0) : a &&& m &&& b = 0 := by
  rw [BitVec.and_assoc, BitVec.and_comm m, ← BitVec.and_assoc, h]
  exact BitVec.zero_and

/-- The calls that stay come from calls that stood. -/
theorem mem_keptBy {judge : Call → Verdict} {cs : List Call} {c : Call} (h : c ∈ keptBy judge cs) :
    ∃ d ∈ cs, (judge d).2.isNone = true ∧ (judge d).1 = c := by
  obtain ⟨d, hd, rfl⟩ := List.mem_map.1 h
  obtain ⟨standing, stays⟩ := List.mem_filter.1 hd
  exact ⟨d, standing, stays, rfl⟩

theorem sweepCalls_table (s : State) (judge : Call → Verdict) :
    (s.sweepCalls judge).calls.table = keptBy judge s.calls.table := by
  rw [sweepCalls_eq_withRemovals]
  rfl

theorem recallLaw_sweepCalls {s : State} {judge : Call → Verdict} (law : s.RecallLaw)
    (narrows : Narrows judge) : (s.sweepCalls judge).RecallLaw := by
  have apart : Within [.calls] s (s.sweepCalls judge) := within_sweepCalls
  rw [recallLaw_iff] at law ⊢
  rw [sweepCalls_table]
  intro c standing isRecall z alarm
  obtain ⟨d, stood, -, rfl⟩ := mem_keptBy standing
  obtain ⟨kind, m, lanes⟩ := narrows d
  have alarm' : inAlarm s z = true := (apart .zones (by decide) z).symm.trans alarm
  have settings : (s.sweepCalls judge).settings.zones = s.settings.zones :=
    apart .zoneSettings (by decide)
  rw [settings, lanes]
  exact (law d stood (kind ▸ isRecall) z alarm').imp and_and_eq_zero
    fun coming => apart .trims (by decide) _ coming rfl

/-- What a withdrawal keeps of RECALL calls stands clear of the lanes withdrawn. -/
theorem trimCall_clear {lanes : LaneSet} {c : Call} (isRecall : c.kind = .recall) :
    (trimCall lanes c).1.lanes &&& lanes = 0 := by
  unfold trimCall
  split
  case isTrue h => exact h.resolve_left (not_not.2 isRecall)
  case isFalse =>
    have clear : c.lanes &&& ~~~lanes &&& lanes = 0 := by
      rw [BitVec.and_assoc, BitVec.and_comm (~~~lanes)]
      simp
    dsimp only
    split
    · exact clear
    · split <;> exact clear

/-- The withdrawal of a zone's lanes makes good what its notice promised (R133). -/
theorem recallLaw_recallTrim {s : State} {z : Fin 8} (law : s.RecallLaw) :
    ((s.taken (.recallTrim z)).sweepCalls (trimCall s.settings.zones[z].lanes)).RecallLaw := by
  have apart : Within [.calls] (s.taken (.recallTrim z))
      ((s.taken (.recallTrim z)).sweepCalls (trimCall s.settings.zones[z].lanes)) := within_sweepCalls
  have settings := apart .zoneSettings (by decide)
  rw [recallLaw_iff] at law ⊢
  rw [sweepCalls_table]
  intro c standing isRecall w alarm
  obtain ⟨d, stood, -, rfl⟩ := mem_keptBy standing
  obtain ⟨kind, m, lanes⟩ := narrows_trimCall s.settings.zones[z].lanes d
  have alarm' : inAlarm s w = true := (apart .zones (by decide) w).symm.trans alarm
  have zones : ((s.taken (.recallTrim z)).sweepCalls
      (trimCall s.settings.zones[z].lanes)).settings.zones = s.settings.zones := settings
  rw [zones]
  by_cases same : w = z
  · subst same
    exact .inl (trimCall_clear (kind ▸ isRecall))
  · rw [lanes]
    refine (law d stood (kind ▸ isRecall) w alarm').imp and_and_eq_zero fun coming => ?_
    refine apart .trims (by decide) _ ?_ rfl
    exact (List.mem_erase_of_ne (by simpa using same)).2 coming

theorem mem_resequence {cs : List Call} {n : ℕ} {c : Call} (h : c ∈ resequence cs n) :
    ∃ d ∈ cs, d.kind = c.kind ∧ d.lanes = c.lanes := by
  induction cs generalizing n with
  | nil => exact absurd h List.not_mem_nil
  | cons d cs ih =>
    rcases List.mem_cons.1 h with rfl | rest
    · exact ⟨d, List.mem_cons_self, rfl, rfl⟩
    · obtain ⟨e, he, same⟩ := ih rest
      exact ⟨e, List.mem_cons_of_mem d he, same⟩

/-- The calls after an admission are those that stood, and the one let in. -/
theorem mem_enter {t : CallTable} {c e : Call} {now : DeckTime} (h : e ∈ (t.enter c now).table) :
    (∃ d ∈ t.table, d.kind = e.kind ∧ d.lanes = e.lanes) ∨ (e.kind = c.kind ∧ e.lanes = c.lanes) := by
  have joined : e ∈ t.ready.table ++ [t.stamp c now] := by
    unfold CallTable.enter at h
    dsimp only at h
    split at h <;> exact h
  rcases List.mem_append.1 joined with standing | new
  · left
    unfold CallTable.ready at standing
    split at standing
    · exact ⟨e, standing, rfl, rfl⟩
    · exact mem_resequence standing
  · right
    obtain rfl := List.mem_singleton.1 new
    exact ⟨rfl, rfl⟩

/-- A call that is not RECALL, or that keeps clear of the lanes of the zones in ALARM, may join. -/
theorem recallLaw_admitCall {s : State} {c : Call} (law : s.RecallLaw)
    (clear : c.kind = .recall → ∀ z, inAlarm s z = true → c.lanes &&& s.settings.zones[z].lanes = 0) :
    (s.admitCall c).RecallLaw := by
  refine recallLaw_reads.within within_report ?_ (by decide)
  rw [recallLaw_iff] at law ⊢
  intro e standing isRecall z alarm
  rcases mem_enter standing with ⟨d, stood, kind, lanes⟩ | ⟨kind, lanes⟩
  · rw [← lanes]
    exact law d stood (kind.trans isRecall) z alarm
  · rw [lanes]
    exact .inl (clear (kind ▸ isRecall) z alarm)

theorem recallLaw_postAutomatic {s : State} {c : Call} (law : s.RecallLaw) (kind : c.kind ≠ .recall) :
    (s.postAutomatic c).RecallLaw := by
  unfold State.postAutomatic
  split
  · exact law
  · exact recallLaw_admitCall law fun isRecall => absurd isRecall kind

theorem and_or_eq_zero {a b c : LaneSet} (h : a &&& (b ||| c) = 0) : a &&& b = 0 ∧ a &&& c = 0 :=
  BitVec.or_eq_zero_iff.1 (BitVec.and_or_distrib_left.symm.trans h)

/-- Lanes clear of all the zones in ALARM together are clear of each (R126). -/
theorem clear_of_alarmLanes {s : State} {lanes : LaneSet} (clear : lanes &&& s.alarmLanes = 0)
    (z : Fin 8) (alarm : inAlarm s z = true) : lanes &&& s.settings.zones[z].lanes = 0 := by
  have covers (zs : List (Fin 8)) (acc : LaneSet) (h : lanes &&& zs.foldl (fun ls z =>
      if s.zones[z].alarm then ls ||| s.settings.zones[z].lanes else ls) acc = 0) :
      lanes &&& acc = 0 ∧ (z ∈ zs → lanes &&& s.settings.zones[z].lanes = 0) := by
    induction zs generalizing acc with
    | nil => exact ⟨h, fun listed => absurd listed List.not_mem_nil⟩
    | cons w zs ih =>
      obtain ⟨first, rest⟩ := ih _ h
      dsimp only at first
      split at first
      case isTrue =>
        obtain ⟨before, here⟩ := and_or_eq_zero first
        refine ⟨before, fun listed => (List.mem_cons.1 listed).elim (fun same => ?_) rest⟩
        exact same ▸ here
      case isFalse normal =>
        refine ⟨first, fun listed => (List.mem_cons.1 listed).elim (fun same => ?_) rest⟩
        exact absurd alarm (same ▸ normal)
  exact (covers (List.finRange 8) 0 clear).2 (List.mem_finRange z)

/-- Entry to ALARM hands the withdrawal of the zone's lanes on (R105). -/
theorem recallLaw_enterAlarm {s : State} {z : Fin 8} (law : s.RecallLaw) :
    (s.enterAlarm z).RecallLaw := by
  unfold State.enterAlarm
  extract_lets cause t
  have zones : t.zones = upd s.zones z fun x => { x with alarm := true, since := some s.clock } := by
    simp [t]
  have settings : t.settings = s.settings := by simp [t]
  have calls : t.calls = s.calls := by simp [t]
  have handed : t.handed = s.handed := by simp [t]
  have released : Within [.doors] t (t.releaseDoors (s.zoneDoors z) .zoneAlarm) := within_releaseDoors
  have table := (released .calls (by decide)).1
  have alarms : inAlarm (t.releaseDoors (s.zoneDoors z) .zoneAlarm) = inAlarm t :=
    funext (released .zones (by decide))
  have lanes : (t.releaseDoors (s.zoneDoors z) .zoneAlarm).settings.zones = s.settings.zones :=
    Eq.trans (released .zoneSettings (by decide)) (congrArg Settings.zones settings)
  have trims : KeepsNotices isTrim t (t.releaseDoors (s.zoneDoors z) .zoneAlarm) :=
    released .trims (by decide)
  intro c standing isRecall w alarm
  rw [State.hand_calls, table, calls] at standing
  rw [State.hand_settings, lanes, State.hand_handed]
  by_cases same : w = z
  · exact .inr (List.mem_append_right _ (by simp [same]))
  · have before : inAlarm s w = true := by
      change inAlarm (t.releaseDoors (s.zoneDoors z) .zoneAlarm) w = true at alarm
      rwa [alarms, inAlarm, zones, upd_get_other _ _ _ _ same] at alarm
    refine (law c standing isRecall w before).imp_right fun coming => List.mem_append_left _ ?_
    exact trims _ (handed ▸ coming) rfl

theorem recallLaw_exitAlarm {s : State} {z : Fin 8} {cause : ZoneCause} (law : s.RecallLaw) :
    (s.exitAlarm z cause).RecallLaw := by
  refine recallLaw_reads.within (within_report.then within_hand) ?_ (by simp)
  rw [recallLaw_iff] at law ⊢
  intro c standing isRecall w alarm
  refine law c standing isRecall w ?_
  by_cases same : w = z
  · subst same
    rw [inAlarm, State.modZone_zones, upd_get_self] at alarm
    exact absurd alarm nofun
  · rwa [inAlarm, State.modZone_zones, upd_get_other _ _ _ _ same] at alarm

theorem recallLaw_evalZone {s : State} (z : Fin 8) (part : ZoneCause) (law : s.RecallLaw) :
    (s.evalZone z part).RecallLaw := by
  unfold State.evalZone
  split
  · exact law
  split
  · exact recallLaw_enterAlarm law
  · exact recallLaw_exitAlarm law

/-- The lanes of a zone in ALARM are not changed (R104). -/
theorem recallLaw_rewriteZone {s : State} {z : Fin 8} {x : ZoneSettings} (law : s.RecallLaw)
    (free : s.zoneBusy z x = false) : (s.rewriteZone z x).RecallLaw := by
  have taken :
      { s with settings := { s.settings with zones := s.settings.zones.set z x } }.RecallLaw := by
    intro c standing isRecall w alarm
    by_cases same : w = z
    · subst same
      have kept : x.lanes = s.settings.zones[w].lanes := by
        by_contra changed
        have busy : s.zoneBusy w x = true := Bool.and_eq_true_iff.2 ⟨alarm, decide_eq_true changed⟩
        exact absurd (busy.symm.trans free) nofun
      have read : (s.settings.zones.set w x)[w] = x := Vector.getElem_set_self w.isLt
      dsimp only
      rw [read, kept]
      exact law c standing isRecall w alarm
    · have kept : (s.settings.zones.set z x)[w] = s.settings.zones[w] :=
        Vector.getElem_set_ne z.isLt w.isLt (Fin.val_ne_of_ne (Ne.symm same))
      dsimp only
      rw [kept]
      exact law c standing isRecall w alarm
  unfold State.rewriteZone
  dsimp only
  split
  · exact taken
  · exact recallLaw_evalZone _ _ taken

theorem recallLaw_modZone {s : State} {z : Fin 8} {f : ZoneRecord → ZoneRecord} (law : s.RecallLaw)
    (alarm : (f s.zones[z]).alarm = s.zones[z].alarm) : (s.modZone z f).RecallLaw :=
  recallLaw_reads.within (within_modZone_alarm alarm) law (by simp)

theorem recallLaw_callPost {l : Link} {tag : Byte} {data : CallData} {s t : State} (law : s.RecallLaw)
    (h : execCallPost l tag data s = .next t) : t.RecallLaw := by
  refine recallLaw_reads.runRequest h (fun u law => ?_) law
  cases CallKind.ofCode data.kind with
  | none => exact law
  | some k =>
    dsimp only
    split
    · exact law
    split
    · exact law
    split
    · exact law
    split
    · exact law
    split
    · exact law
    case isFalse clear =>
      split
      · exact law
      · refine recallLaw_admitCall law fun isRecall z alarm => ?_
        exact clear_of_alarmLanes (not_not.1 (not_and.1 clear isRecall)) z alarm

theorem recallLaw_callCancel {l : Link} {tag : Byte} {number : Nat} {s t : State} (law : s.RecallLaw)
    (h : execCallCancel l tag number s = .next t) : t.RecallLaw := by
  refine recallLaw_reads.runRequest h (fun u law => ?_) law
  split
  · exact law
  cases u.calls.table.find? (·.number = number) with
  | none => exact law
  | some c =>
    dsimp only
    split
    · exact law
    split
    · exact law
    · exact recallLaw_sweepCalls law (narrows_removeIf _ _)

/-- The commands of the calls and of the zones keep the law, and the others stand apart. -/
theorem recallLaw_command (i : Instr) (s t : State) (renew : renews i = false) (law : s.RecallLaw)
    (h : exec i s = .next t) : t.RecallLaw := by
  by_cases apart : ∀ p ∈ [Part.calls, .zones, .zoneSettings, .trims], p ∉ touched i
  · have other : isTrim i = false := by
      cases i <;> first | rfl | exact absurd (apart .calls (by decide)) (by simp [touched])
    exact recallLaw_reads.exec_taken law (recallLaw_taken law other) h apart
  cases i <;> simp only [touched, List.mem_cons, List.not_mem_nil, reduceCtorEq, or_false, or_true,
    not_true_eq_false, not_false_eq_true, forall_eq_or_imp, forall_eq, and_true, and_false, or_self,
    implies_true] at apart
  case standClearPost a =>
    change execStandClearPost a s = _ at h
    exact recallLaw_reads.runEvent_taken h (recallLaw_postAutomatic (recallLaw_taken law rfl) nofun) law
  case evacuatePost z =>
    change execEvacuatePost z s = _ at h
    exact recallLaw_reads.runEvent_taken h (recallLaw_postAutomatic (recallLaw_taken law rfl) nofun) law
  case standClearRemoval a =>
    change execStandClearRemoval a s = _ at h
    exact recallLaw_reads.runEvent_taken h
      (recallLaw_sweepCalls (recallLaw_taken law rfl) (narrows_removeIf _ _)) law
  case recallTrim z =>
    change execRecallTrim z s = _ at h
    exact recallLaw_reads.runEvent_taken h (recallLaw_recallTrim law) law
  case laneAcknowledgement n =>
    change execLaneAcknowledgement n s = _ at h
    exact recallLaw_reads.runEvent_taken h
      (recallLaw_sweepCalls (recallLaw_taken law rfl) (narrows_ackCall n)) law
  case durationTimerExpiry n =>
    change execDurationTimerExpiry n s = _ at h
    exact recallLaw_reads.runEvent_taken h
      (recallLaw_sweepCalls (recallLaw_taken law rfl) (narrows_removeIf _ _)) law
  case callPost l tag data => exact recallLaw_callPost law h
  case callCancel l tag number => exact recallLaw_callCancel law h
  case fireInputChange z asserted =>
    change execFireInputChange z asserted s = _ at h
    exact recallLaw_reads.runEvent_taken h
      (recallLaw_evalZone _ _ (recallLaw_modZone (recallLaw_taken law rfl) rfl)) law
  case zoneAlarm l tag zone action =>
    change execZoneAlarm l tag zone action s = _ at h
    refine recallLaw_reads.runRequest h (fun u law => ?_) law
    cases finOf? 8 zone with
    | none => exact law
    | some z =>
      cases boolOfCode action with
      | none => exact law
      | some raised =>
        dsimp only
        split
        · exact law
        · exact recallLaw_evalZone _ _ (recallLaw_modZone law rfl)
  case settingsWriteZone l tag index data =>
    change execSettingsWriteZone l tag index data s = _ at h
    exact recallLaw_reads.runRequest h (fun u law => recallLaw_reads.settingsWrite law
      fun x free => recallLaw_rewriteZone law free) law
  all_goals exact absurd renew nofun

/-- With no call the law holds. -/
theorem recallLaw_none {s : State} (none : s.calls.table = []) : s.RecallLaw :=
  fun _ standing => absurd (none ▸ standing) List.not_mem_nil

theorem recallLaw_start {s : State} (inputs : InputLevels) (doors : Vector DoorInputs 32) :
    (s.start inputs doors).RecallLaw :=
  recallLaw_none (within_startBlocks (s := s) .calls (by decide)).1

/-- The reset removes every call. -/
theorem calls_resetBlocks (s : State) : s.resetBlocks.calls.table = [] := by
  unfold State.resetBlocks
  extract_lets x t u v
  have removed : (u.dropOvertaken.resetCalls).calls.table = [] := by
    unfold State.resetCalls
    rw [sweepCalls_table, keptBy_removeIf]
    simp
  have after : Within [.alarms] u.dropOvertaken.resetCalls (v.hand (v.firstFrame s.settings.boards)) :=
    (within_resetAlarms.then within_resetSlots |>.then within_postAlarmZones |>.then within_hand).mono
      (by decide)
  exact (after .calls (by decide)).1.trans removed

theorem recallLaw_tick {s : State} (law : s.RecallLaw) : s.tick.RecallLaw := by
  intro c standing isRecall z alarm
  obtain ⟨d, stood, rfl⟩ := List.mem_map.1 standing
  exact law d stood isRecall z alarm

/-- Settles O57: doors become held only outside the zones in ALARM, whose entry releases them; RECALL
calls enter clear of their lanes, and an entry hands the withdrawal on. -/
theorem stepKeepsAlarmZoneLaws : Obligations.StepKeepsAlarmZoneLaws := by
  refine fun s t h => ⟨fun law => ?doors, fun law => ?recalls⟩
  case doors =>
    have commands := fireDoorLaw_reads.commands fireDoorLaw_image
      (fun _ _ _ _ => fireDoorLaw_start _ _) (fun s _ => fireDoorLaw_reads.within
        within_commandReset_links (fireDoorLaw_resetBlocks s) (by decide)) fireDoorLaw_command
    exact fireDoorLaw_reads.step (by decide) commands law h
  case recalls =>
    have commands := recallLaw_reads.commands (fun _ _ _ => recallLaw_none rfl)
      (fun _ _ _ _ => recallLaw_start _ _) (fun s _ => recallLaw_reads.within
        within_commandReset_links (recallLaw_none (calls_resetBlocks s)) (by decide))
      recallLaw_command
    refine step_keeps (fun u p law => ?popped) commands (fun u l f code law => ?refused)
      (fun u law => recallLaw_tick law) law h
    case popped => exact recallLaw_reads.within (within_popped p) law (by decide)
    case refused => exact recallLaw_reads.within within_refuseFrame law (by simp)

end Sys2Proof.Proofs
end

section
/-! SUPPORT. Reports, counts and replies as changes of the links alone, so that they pass through every
change of another block. -/

open Sys2Proof Sys2Proof.Machine

namespace Sys2Proof.Proofs

/-- The links and the counters of links. -/
abbrev Heard := Pair LinkController × Pair LinkCounters

/-- A report heard on one link. -/
def hearOn (now : DeckTime) (h : Heard) (l : Link) (b : ReportBody) : Heard :=
  let c := h.1.get l
  let k := h.2.get l
  (h.1.set l (c.enqueue ⟨now, b⟩),
    h.2.set l { k with discarded := if c.selects b && c.full then saturate k.discarded else k.discarded })

/-- A report heard on the links it names. -/
def hear (now : DeckTime) (h : Heard) (r : Option Link × ReportBody) : Heard :=
  match r.1 with
  | some l => hearOn now h l r.2
  | none => hearOn now (hearOn now h .bridge r.2) .localLink r.2

/-- Reports heard in order. -/
def hearAll (now : DeckTime) (h : Heard) (rs : List (Option Link × ReportBody)) : Heard :=
  rs.foldl (hear now) h

/-- The links and their counters of a state. -/
def heardBy (s : State) : Heard := (s.links, s.counters.links)

/-- A state with other links and counters of them. -/
def hearing (s : State) (h : Heard) : State :=
  { s with links := h.1, counters := { s.counters with links := h.2 } }

theorem reportOn_eq (s : State) (l : Link) (b : ReportBody) :
    s.reportOn l b = hearing s (hearOn s.clock (heardBy s) l b) := rfl

theorem hearing_hearing (s : State) (h k : Heard) : hearing (hearing s h) k = hearing s k := rfl

theorem heardBy_hearing (s : State) (h : Heard) : heardBy (hearing s h) = h := rfl

theorem hearing_clock (s : State) (h : Heard) : (hearing s h).clock = s.clock := rfl

theorem report_eq (s : State) (b : ReportBody) :
    s.report b = hearing s (hear s.clock (heardBy s) (toBoth b)) := by
  rw [State.report, reportOn_eq, reportOn_eq, hearing_hearing, heardBy_hearing, hearing_clock]
  rfl

/-- Reports queued are a change of the links and their counters, by the clock, the links and the counters
of links alone. -/
theorem says_eq (s : State) (rs : List (Option Link × ReportBody)) :
    s.says rs = hearing s (hearAll s.clock (heardBy s) rs) := by
  induction rs generalizing s with
  | nil => rfl
  | cons r rs ih =>
    obtain ⟨_ | l, b⟩ := r
    · rw [← toBoth, says_toBoth, ih, report_eq, hearing_hearing, heardBy_hearing, hearing_clock]
      rfl
    · rw [← toLink, says_toLink, ih, reportOn_eq, hearing_hearing, heardBy_hearing, hearing_clock]
      rfl

end Sys2Proof.Proofs
end

section
/-! SUPPORT. The operations of an axis controller (02, 03) in the words of Safety: an axis changes state,
comes to rest, stops and is driven. -/

open Sys2Proof Sys2Proof.Machine

namespace Sys2Proof.Proofs

/-! ### A change of state -/

/-- `s` after axis `a` has gone to the record `y`, a change of state reported and handed on (R20). -/
def axisGoes (s : State) (a : Fin 4) (y : AxisRecord) (cause : Option MotionOutcome) : State :=
  { s.says [toBoth (.axisState a s.axes[a].state y.state cause)] with
    axes := s.axes.set a y
    handed := s.handed ++ axisNotices a s.axes[a].state y.state }

/-- `s` after axis `a`, which stood as `x`, has come to rest in `into` (R19, R20). -/
def axisRests (s : State) (a : Fin 4) (x : AxisRecord) (into : AxisState) (o : MotionOutcome) : State :=
  { (s.says (restReports a x into s.clock o)).withAxisAtRest a x into o with
    handed := s.handed ++ axisNotices a x.state into }

/-- `s` after axis `a`, which stood as `x`, has entered STOPPING (R29). -/
def axisStops (s : State) (a : Fin 4) (x : AxisRecord) (o : MotionOutcome) : State :=
  { (s.says (stopReports a x s.clock o)).withAxisStopping a x o with
    handed := s.handed ++ stopNotices a x }

theorem changeAxis_eq (s : State) (a : Fin 4) (new : AxisState) (cause : Option MotionOutcome) :
    s.changeAxis a new cause = axisGoes s a { s.axes[a] with state := new } cause := rfl

/-- A change of state from a record changed first. -/
theorem changeAxis_modAxis {s : State} {a : Fin 4} {f : AxisRecord → AxisRecord}
    (state : (f s.axes[a]).state = s.axes[a].state) (new : AxisState) (cause : Option MotionOutcome) :
    (s.modAxis a f).changeAxis a new cause = axisGoes s a { f s.axes[a] with state := new } cause := by
  have before : (s.modAxis a f).axes[a] = f s.axes[a] := by
    rw [State.modAxis_axes, upd_get_self]
  have set : (upd s.axes a f).set a { f s.axes[a] with state := new } =
      s.axes.set a { f s.axes[a] with state := new } := set_upd _ _ _ _
  rw [changeAxis_eq, before]
  unfold axisGoes
  rw [before, state, ← set]
  rfl

theorem modAxis_modAxis (s : State) (a : Fin 4) (f g : AxisRecord → AxisRecord) :
    (s.modAxis a f).modAxis a g = s.modAxis a fun x => g (f x) := by
  have fused : upd (upd s.axes a f) a g = upd s.axes a fun x => g (f x) := upd_upd _ _ _ _
  unfold State.modAxis
  rw [fused]

/-! ### Rest -/

theorem withAxisAtRest_modAxis (s : State) (a : Fin 4) (f : AxisRecord → AxisRecord) (x : AxisRecord)
    (into : AxisState) (o : MotionOutcome) :
    (s.modAxis a f).withAxisAtRest a x into o = s.withAxisAtRest a x into o := by
  have set : (s.modAxis a f).axes.set a (x.atRest into s.clock o) =
      s.axes.set a (x.atRest into s.clock o) := set_upd _ _ _ _
  unfold State.withAxisAtRest
  rw [State.modAxis_clock, set]
  rfl

theorem says_modAxis (s : State) (a : Fin 4) (f : AxisRecord → AxisRecord)
    (rs : List (Option Link × ReportBody)) : (s.modAxis a f).says rs = (s.says rs).modAxis a f := by
  rw [says_eq, says_eq]
  rfl

/-- A change of the record an axis rests from is lost. -/
theorem axisRests_modAxis (s : State) (a : Fin 4) (f : AxisRecord → AxisRecord) (x : AxisRecord)
    (into : AxisState) (o : MotionOutcome) :
    axisRests (s.modAxis a f) a x into o = axisRests s a x into o := by
  unfold axisRests
  rw [says_modAxis, withAxisAtRest_modAxis]
  rfl

/-- The record before an entry to rest changes state. -/
def restingRecord (x : AxisRecord) : AxisRecord := ({ x with c := 0, confirm := none } : AxisRecord).settled

theorem setC_settled (s : State) (a : Fin 4) :
    (s.setC a 0).modAxis a AxisRecord.settled =
      (s.modAxis a restingRecord).modValve a fun g => { g with command := 0 } := by
  have fused := modAxis_modAxis s a (fun x => { x with c := 0, confirm := none }) AxisRecord.settled
  exact congrArg (fun t : State => t.modValve a fun g => { g with command := 0 }) fused

section
variable {x : AxisRecord} (into : AxisState) (now : DeckTime) (o : MotionOutcome)

theorem running_eq_isSome (x : AxisRecord) : x.running = x.running?.isSome := by
  unfold AxisRecord.running AxisRecord.running?
  cases x.motion with
  | none => rfl
  | some m =>
    dsimp only
    cases m.finish <;> rfl

theorem atRest_of_still (still : x.running? = none) :
    x.atRest into now o = { restingRecord x with state := into } := by
  have kept : (x.motion.map fun m =>
      if m.finish.isNone then { m with finish := some now, outcome := some o } else m) = x.motion := by
    unfold AxisRecord.running? at still
    cases motion : x.motion with
    | none => rfl
    | some m =>
      simp only [motion] at still
      rw [Option.map_some]
      split at still
      · exact absurd still nofun
      · rw [if_neg ‹_›]
  unfold AxisRecord.atRest
  rw [kept]
  rfl

theorem atRest_of_running {m : MotionRecord} (runs : x.running? = some m) :
    x.atRest into now o =
      { restingRecord x with state := into, motion := some (m.completed now o) } := by
  have ended : (x.motion.map fun m =>
      if m.finish.isNone then { m with finish := some now, outcome := some o } else m) =
      some (m.completed now o) := by
    unfold AxisRecord.running? at runs
    cases motion : x.motion with
    | none => simp only [motion] at runs; exact absurd runs nofun
    | some k =>
      simp only [motion] at runs
      split at runs
      · obtain rfl := Option.some.inj runs
        rw [Option.map_some, if_pos ‹_›]
        rfl
      · exact absurd runs nofun
  unfold AxisRecord.atRest
  rw [ended]
  rfl

theorem restReports_of_still (a : Fin 4) (still : x.running? = none) :
    restReports a x into now o = [toBoth (.axisState a x.state into (some o))] := by
  unfold restReports
  unfold AxisRecord.running? at still
  cases motion : x.motion with
  | none => rfl
  | some m =>
    simp only [motion] at still
    split at still
    · exact absurd still nofun
    · simp only [if_neg ‹¬_›]

theorem restReports_of_running (a : Fin 4) {m : MotionRecord} (runs : x.running? = some m) :
    restReports a x into now o =
      [toBoth (.axisState a x.state into (some o)), toBoth (.axisOutcome a (m.completed now o))] := by
  unfold restReports
  unfold AxisRecord.running? at runs
  cases motion : x.motion with
  | none => simp only [motion] at runs; exact absurd runs nofun
  | some k =>
    simp only [motion] at runs
    split at runs
    · obtain rfl := Option.some.inj runs
      dsimp only
      rw [if_pos ‹_›]
      rfl
    · exact absurd runs nofun

end

theorem axisGoes_modAxis {s : State} {a : Fin 4} {f : AxisRecord → AxisRecord}
    (state : (f s.axes[a]).state = s.axes[a].state) (y : AxisRecord) (cause : Option MotionOutcome) :
    axisGoes (s.modAxis a f) a y cause = axisGoes s a y cause := by
  have before : (s.modAxis a f).axes[a] = f s.axes[a] := by
    rw [State.modAxis_axes, upd_get_self]
  have set : (upd s.axes a f).set a y = s.axes.set a y := set_upd _ _ _ _
  unfold axisGoes
  rw [before, state, ← set]
  rfl

/-- The command of an axis's generator set to 0. -/
def zeroed (s : State) (a : Fin 4) : State := s.modValve a fun g => { g with command := 0 }

section
variable {s : State} {a : Fin 4} {x : AxisRecord} (into : AxisState) (o : MotionOutcome)

theorem withAxisAtRest_of_still {xs : Vector AxisRecord 4} (axes : s.axes = xs)
    (still : x.running? = none) :
    s.withAxisAtRest a x into o =
      zeroed { s with axes := xs.set a { restingRecord x with state := into } } a := by
  have counts : x.running = false := by rw [running_eq_isSome, still]; rfl
  subst axes
  unfold State.withAxisAtRest
  rw [atRest_of_still _ _ _ still, if_neg (by rw [counts]; exact nofun)]
  rfl

theorem withAxisAtRest_of_running {xs : Vector AxisRecord 4} {now : DeckTime} {m : MotionRecord}
    (axes : s.axes = xs) (clock : s.clock = now) (runs : x.running? = some m) :
    s.withAxisAtRest a x into o =
      zeroed ({ s with axes := xs.set a { restingRecord x with
        state := into, motion := some (m.completed now o) } }.countAxis a (·.ended o)) a := by
  have counts : x.running = true := by rw [running_eq_isSome, runs]; rfl
  subst axes clock
  unfold State.withAxisAtRest
  rw [atRest_of_running _ _ _ runs, if_pos counts]
  rfl

end

section
variable {s : State} {a : Fin 4} {f : AxisRecord → AxisRecord}

theorem resting_axis (s : State) (a : Fin 4) :
    (zeroed (s.modAxis a restingRecord) a).axes[a] = restingRecord s.axes[a] := by
  simp only [zeroed, State.modValve_axes, State.modAxis_axes]
  exact upd_get_self _ _ _

end

theorem changeAxis_zeroed (s : State) (a b : Fin 4) (new : AxisState) (cause : Option MotionOutcome) :
    (zeroed s b).changeAxis a new cause = zeroed (s.changeAxis a new cause) b := by
  unfold State.changeAxis
  dsimp only
  rw [report_eq, report_eq]
  rfl

theorem changeAxis_countAxis (s : State) (a b : Fin 4) (f : AxisCounters → AxisCounters)
    (new : AxisState) (cause : Option MotionOutcome) :
    (s.countAxis b f).changeAxis a new cause = (s.changeAxis a new cause).countAxis b f := by
  unfold State.changeAxis
  dsimp only
  rw [report_eq, report_eq]
  rfl

theorem report_zeroed (s : State) (a : Fin 4) (b : ReportBody) :
    (zeroed s a).report b = zeroed (s.report b) a := by
  rw [report_eq, report_eq]
  rfl

theorem report_countAxis (s : State) (a : Fin 4) (f : AxisCounters → AxisCounters) (b : ReportBody) :
    (s.countAxis a f).report b = (s.report b).countAxis a f := by
  rw [report_eq, report_eq]
  rfl

theorem modAxis_zeroed (s : State) (a b : Fin 4) (f : AxisRecord → AxisRecord) :
    (zeroed s b).modAxis a f = zeroed (s.modAxis a f) b := rfl

theorem countAxis_zeroed (s : State) (a b : Fin 4) (f : AxisCounters → AxisCounters) :
    (zeroed s b).countAxis a f = zeroed (s.countAxis a f) b := rfl

theorem report_with_axes (s : State) (axes : Vector AxisRecord 4) (handed : List Instr) (b : ReportBody) :
    { s with axes, handed }.report b = { s.report b with axes, handed } := by
  rw [report_eq, report_eq]
  rfl

theorem handed_zeroed (s : State) (a : Fin 4) (axes : Vector AxisRecord 4) (handed : List Instr) :
    zeroed { s with axes, handed } a = { zeroed { s with axes } a with handed } := rfl

theorem handed_countAxis (s : State) (a : Fin 4) (axes : Vector AxisRecord 4) (handed : List Instr)
    (f : AxisCounters → AxisCounters) :
    zeroed ({ s with axes, handed }.countAxis a f) a =
      { zeroed ({ s with axes }.countAxis a f) a with handed } := rfl

theorem enterRest_eq (s : State) (a : Fin 4) (into : AxisState) (o : MotionOutcome) :
    s.enterRest a into o = axisRests s a s.axes[a] into o := by
  have run : (restingRecord s.axes[a]).running? = s.axes[a].running? := rfl
  have settled : (s.setC a 0).modAxis a AxisRecord.settled = zeroed (s.modAxis a restingRecord) a :=
    setC_settled s a
  unfold State.enterRest State.endMotion
  rw [settled, resting_axis, run]
  cases runs : s.axes[a].running? with
  | none =>
    dsimp only
    rw [changeAxis_zeroed, changeAxis_modAxis (f := restingRecord) rfl]
    unfold axisRests axisGoes
    rw [restReports_of_still into s.clock o a runs,
      withAxisAtRest_of_still into o (says_axes _ _) runs]
    exact handed_zeroed _ _ _ _
  | some m =>
    have clock : (zeroed (s.modAxis a restingRecord) a).clock = s.clock := rfl
    have both (r b) : (s.says [toBoth r]).report b = s.says [toBoth r, toBoth b] := rfl
    dsimp only
    rw [clock, modAxis_zeroed, countAxis_zeroed, changeAxis_zeroed, changeAxis_countAxis, modAxis_modAxis,
      changeAxis_modAxis (f := fun x => { restingRecord x with
        motion := some (m.completed s.clock o) }) rfl, report_zeroed, report_countAxis]
    unfold axisRests axisGoes
    rw [restReports_of_running into s.clock o a runs,
      withAxisAtRest_of_running into o (says_axes _ _) (says_clock _ _) runs, report_with_axes, both]
    exact handed_countAxis _ _ _ _ _


/-! ### Stopping (R29) -/

theorem says_with_axes (s : State) (axes : Vector AxisRecord 4) (handed : List Instr)
    (rs : List (Option Link × ReportBody)) :
    { s with axes, handed }.says rs = { s.says rs with axes, handed } := by
  rw [says_eq, says_eq]
  rfl

theorem withAxisAtRest_set {s : State} {xs : Vector AxisRecord 4} (axes : s.axes = xs) (a : Fin 4)
    (y z : AxisRecord) (h k : List Instr) (into : AxisState) (o : MotionOutcome) :
    { ({ s with axes := xs.set a y, handed := h } : State).withAxisAtRest a z into o with handed := k } =
      { s.withAxisAtRest a z into o with handed := k } := by
  subst axes
  have set : (s.axes.set a y).set a (z.atRest into s.clock o) = s.axes.set a (z.atRest into s.clock o) :=
    Vector.set_set _ _
  unfold State.withAxisAtRest
  dsimp only
  rw [set]

/-- An axis goes on to rest in the act that changed its state. -/
theorem axisRests_axisGoes (s : State) (a : Fin 4) (y : AxisRecord) (cause : Option MotionOutcome)
    (into : AxisState) (o : MotionOutcome) :
    axisRests (axisGoes s a y cause) a y into o =
      { (s.says (toBoth (.axisState a s.axes[a].state y.state cause) ::
          restReports a y into s.clock o)).withAxisAtRest a y into o with
        handed := s.handed ++ (axisNotices a s.axes[a].state y.state ++ axisNotices a y.state into) } := by
  have both (r rs) : (s.says [r]).says rs = s.says (r :: rs) := (says_append s [r] rs).symm
  have clock : (axisGoes s a y cause).clock = s.clock := says_clock _ _
  unfold axisRests
  rw [clock]
  unfold axisGoes
  rw [says_with_axes, both, withAxisAtRest_set (says_axes _ _), List.append_assoc]

/-- Entry to STOPPING (R29). -/
theorem enterStopping_eq (s : State) (a : Fin 4) (o : MotionOutcome) :
    s.enterStopping a o = axisStops s a s.axes[a] o := by
  have goes : (s.modAxis a fun x =>
      { x with motionTimer := none, refresh := none, stopOutcome := some o }).changeAxis a .stopping
        (some o) = axisGoes s a (s.axes[a].nowStopping o) (some o) :=
    changeAxis_modAxis rfl .stopping (some o)
  have self : (axisGoes s a (s.axes[a].nowStopping o) (some o)).axes[a] = s.axes[a].nowStopping o := by
    unfold axisGoes
    exact Vector.getElem_set_self a.isLt
  unfold State.enterStopping axisStops stopReports stopNotices State.withAxisStopping
  rw [goes]
  by_cases still : s.axes[a].c = 0
  · simp only [still, if_true]
    rw [enterRest_eq, self, axisRests_axisGoes]
    rfl
  · simp only [still, if_false]
    rw [List.append_nil]
    rfl

/-! ### Command, drive and sessions -/

/-- `axisRests` from a record that differs from the axis's own by its staged value alone, and so on. -/
theorem enterRest_modAxis (s : State) (a : Fin 4) (f : AxisRecord → AxisRecord) (into : AxisState)
    (o : MotionOutcome) :
    (s.modAxis a f).enterRest a into o = axisRests s a (f s.axes[a]) into o := by
  have self : (s.modAxis a f).axes[a] = f s.axes[a] := by rw [State.modAxis_axes, upd_get_self]
  rw [enterRest_eq, self, axisRests_modAxis]

theorem endSession_eq (s : State) (a : Fin 4) (o : MotionOutcome) :
    s.endSession a o = axisRests s a { s.axes[a] with staged := 0 } .idle o :=
  enterRest_modAxis s a (fun x => { x with staged := 0 }) .idle o

/-- The record with a command (R56, R67). -/
def commanded (x : AxisRecord) (v : Int) : AxisRecord :=
  { x with c := v, confirm := if v = 0 then none else x.confirm }

theorem setC_eq (s : State) (a : Fin 4) (v : Int) :
    s.setC a v = s.withAxis a (commanded s.axes[a] v) := rfl

theorem withAxis_axes_self (s : State) (a : Fin 4) (x : AxisRecord) : (s.withAxis a x).axes[a] = x :=
  Vector.getElem_set_self a.isLt

/-- A record set with its command and then changed, its command kept. -/
theorem modAxis_withAxis {s : State} {a : Fin 4} {x : AxisRecord} {f : AxisRecord → AxisRecord}
    (c : (f x).c = x.c) : (s.withAxis a x).modAxis a f = s.withAxis a (f x) := by
  have set : upd (s.axes.set a x) a f = s.axes.set a (f x) := by
    simp [upd]
  unfold State.withAxis State.modAxis
  dsimp only
  rw [set, c]

theorem withAxis_modAxis (s : State) (a : Fin 4) (f : AxisRecord → AxisRecord) (x : AxisRecord) :
    (s.modAxis a f).withAxis a x = s.withAxis a x := by
  have set : (s.modAxis a f).axes.set a x = s.axes.set a x := set_upd _ _ _ _
  unfold State.withAxis
  rw [set]
  rfl

theorem setC_modAxis (s : State) (a : Fin 4) (f : AxisRecord → AxisRecord) (v : Int) :
    (s.modAxis a f).setC a v = s.withAxis a (commanded (f s.axes[a]) v) := by
  have self : (s.modAxis a f).axes[a] = f s.axes[a] := by rw [State.modAxis_axes, upd_get_self]
  rw [setC_eq, self, withAxis_modAxis]

/-- What a drive computation of an axis leaves as its update record (R48). -/
def driveOf (s : State) (a : Fin 4) (x : AxisRecord) (e : Option Int) : UpdateRecord :=
  driveRecord s.settings.axes[a] s.channels[s.settings.oil].reading x.state e
    (x.direction.getD .raise) x.c

theorem drive_eq (s : State) (a : Fin 4) (e : Option Int) :
    s.drive a e = s.withAxis a (s.axes[a].driven (driveOf s a s.axes[a] e)) := by
  unfold State.drive
  dsimp only
  rw [setC_eq, modAxis_withAxis rfl]
  rfl

theorem drive_modAxis (s : State) (a : Fin 4) (f : AxisRecord → AxisRecord) (e : Option Int) :
    (s.modAxis a f).drive a e = s.withAxis a ((f s.axes[a]).driven (driveOf s a (f s.axes[a]) e)) := by
  have self : (s.modAxis a f).axes[a] = f s.axes[a] := by rw [State.modAxis_axes, upd_get_self]
  rw [drive_eq, self, withAxis_modAxis]
  rfl

/-- Rest from a record set with its command: the command set before is lost. -/
theorem axisRests_withAxis (s : State) (a : Fin 4) (y x : AxisRecord) (into : AxisState)
    (o : MotionOutcome) : axisRests (s.withAxis a y) a x into o = axisRests s a x into o := by
  have said (rs) : (s.withAxis a y).says rs = (s.says rs).withAxis a y := by
    rw [says_eq, says_eq]
    rfl
  have axes (xs : Vector AxisRecord 4) (z : AxisRecord) : (xs.set a y).set a z = xs.set a z :=
    Vector.set_set _ _
  have valves (gs : Vector Generator 4) :
      (gs.set a { gs[a] with command := y.c }).set a
        { (gs.set a { gs[a] with command := y.c })[a] with command := 0 } =
      gs.set a { gs[a] with command := 0 } := by
    simp
  unfold axisRests
  rw [said]
  unfold State.withAxisAtRest State.withAxis
  dsimp only
  rw [axes, valves]

/-- Rest of an axis with its frame cut. -/
theorem axisRests_cut (s : State) (a : Fin 4) (x : AxisRecord) (into : AxisState) (o : MotionOutcome) :
    axisRests (s.cut a) a x into o = (axisRests s a x into o).withCut a := by
  have said (rs) : (s.cut a).says rs = (s.says rs).cut a := by
    rw [says_eq, says_eq]
    rfl
  have valves (gs : Vector Generator 4) :
      (upd gs a fun g => { g with cut := true }).set a
        { (upd gs a fun g => { g with cut := true })[a] with command := 0 } =
      (gs.set a { gs[a] with command := 0 }).set a
        { (gs.set a { gs[a] with command := 0 })[a] with cut := true } := by
    simp [upd]
  unfold axisRests
  rw [said]
  unfold State.withAxisAtRest State.withCut State.cut State.modValve
  dsimp only
  rw [valves]

end Sys2Proof.Proofs
end

section
/-! SUPPORT. The laws of an axis (02, 03): what its command, its fields and its state may become in one act
of its controller. -/

open Sys2Proof Sys2Proof.Machine

namespace Sys2Proof.Proofs

/-! ### The laws of one axis -/

/-- The law of the command, of a record (R17, R39, R55). -/
structure CommandLawful (set : AxisSettings) (x : AxisRecord) : Prop where
  rest : x.state = .idle ∨ x.state = .warning ∨ x.state = .tripped → x.c = 0
  staged : x.state ≠ .manual → x.staged = 0
  c_le : x.c.natAbs ≤ set.dMax
  staged_le : x.staged.natAbs ≤ set.dMax

/-- The law of the fields, of a record (02, 2.2). -/
structure FieldsLawful (x : AxisRecord) : Prop where
  direction : x.direction.isSome = x.state.inMotion
  running : x.running?.isSome = x.state.inMotion
  warning : x.warning.isSome = decide (x.state = .warning)
  motionTimer : x.motionTimer.isSome = x.state.travels
  stopOutcome : x.stopOutcome.isSome = decide (x.state = .stopping)
  tripKind : x.tripKind.isSome = decide (x.state = .tripped)

theorem FieldsLawful.alike {x y : AxisRecord} (law : FieldsLawful x) (h : AxisAlike x y) :
    FieldsLawful y := by
  obtain ⟨direction, running, warning, motionTimer, stopOutcome, tripKind⟩ := law
  constructor <;> simpa only [h.state, h.direction, h.running, h.warning, h.motionTimer, h.stopOutcome,
    h.tripKind]

/-- An active axis was active before, and one in motion but STOPPING was so before, JOGGING from JOGGING
alone: what the law of motion needs of a change of state. -/
def GoesOn (x y : AxisState) : Prop :=
  y.active = true → x.active = true ∧ (y ≠ .stopping → y ≠ .manual →
    x ≠ .stopping ∧ x ≠ .manual ∧ (y = .jogging → x = .jogging))

/-- What an act of its controller may make of an axis. -/
structure AxisStep (set : AxisSettings) (x y : AxisRecord) : Prop where
  command : CommandLawful set x → CommandLawful set y
  fields : FieldsLawful x → FieldsLawful y
  goes : GoesOn x.state y.state

theorem GoesOn.refl (x : AxisState) : GoesOn x x := fun active => ⟨active, fun h k => ⟨h, k, id⟩⟩

theorem GoesOn.trans {x y z : AxisState} (h : GoesOn x y) (k : GoesOn y z) : GoesOn x z := by
  intro active
  obtain ⟨active', motion'⟩ := k active
  obtain ⟨active'', motion''⟩ := h active'
  refine ⟨active'', fun stopping manual => ?_⟩
  obtain ⟨stopping', manual', jogging'⟩ := motion' stopping manual
  obtain ⟨stopping'', manual'', jogging''⟩ := motion'' stopping' manual'
  exact ⟨stopping'', manual'', jogging'' ∘ jogging'⟩

theorem GoesOn.of_rest {x y : AxisState} (rest : y.active = false) : GoesOn x y :=
  fun active => absurd (rest.symm.trans active) nofun

/-- An axis in motion may enter STOPPING. -/
theorem GoesOn.to_stopping {x : AxisState} (active : x.active = true) : GoesOn x .stopping :=
  fun _ => ⟨active, fun h => absurd rfl h⟩

theorem AxisStep.refl (set : AxisSettings) (x : AxisRecord) : AxisStep set x x := ⟨id, id, .refl _⟩

theorem AxisStep.trans {set : AxisSettings} {x y z : AxisRecord} (h : AxisStep set x y)
    (k : AxisStep set y z) : AxisStep set x z :=
  ⟨k.command ∘ h.command, k.fields ∘ h.fields, h.goes.trans k.goes⟩

theorem AxisStep.of_alike {set : AxisSettings} {x y : AxisRecord} (h : AxisAlike x y) :
    AxisStep set x y where
  command law := by
    obtain ⟨rest, staged, c_le, staged_le⟩ := law
    constructor <;> simpa only [h.state, h.c, h.staged]
  fields law := law.alike h
  goes := by
    rw [h.state]
    exact .refl _

/-! ### Acts of the controllers -/

/-- From `s` to `t` every axis takes such a step, its generator follows and the axes' settings stand. -/
structure AxesStep (s t : State) : Prop where
  settings : t.settings.axes = s.settings.axes
  valves : ∀ a : Fin 4, s.valves[a].command = s.axes[a].c → t.valves[a].command = t.axes[a].c
  axes : ∀ a : Fin 4, AxisStep s.settings.axes[a] s.axes[a] t.axes[a]

theorem AxesStep.refl (s : State) : AxesStep s s := ⟨rfl, fun _ => id, fun _ => .refl _ _⟩

theorem AxesStep.trans {s t u : State} (h : AxesStep s t) (k : AxesStep t u) : AxesStep s u where
  settings := k.settings.trans h.settings
  valves a := k.valves a ∘ h.valves a
  axes a := (h.axes a).trans (h.settings ▸ k.axes a)

theorem AxesStep.foldl {α : Type} {f : State → α → State} (h : ∀ s x, AxesStep s (f s x)) (s : State)
    (xs : List α) : AxesStep s (xs.foldl f s) := by
  induction xs generalizing s with
  | nil => exact .refl s
  | cons x xs ih => exact (h s x).trans (ih _)

theorem Within.axesStep {ps : List Part} {s t : State} (h : Within ps s t)
    (apart : ∀ p ∈ [Part.axisSettings, .valves, .axes], p ∉ ps) : AxesStep s t where
  settings := h .axisSettings (apart _ (by decide))
  valves a same := by
    rw [h .valves (apart _ (by decide)) a, (h .axes (apart _ (by decide)) a).c, same]
  axes a := .of_alike (h .axes (apart _ (by decide)) a)

theorem AxesStep.quietly {s t u : State} (h : AxesStep s t) (k : Within [] t u) : AxesStep s u :=
  h.trans (k.axesStep (by simp))

/-- One axis takes a step, its generator set to its command. -/
theorem axesStep_set {s t : State} {a : Fin 4} {y : AxisRecord} {g : Generator}
    (settings : t.settings.axes = s.settings.axes) (axes : t.axes = s.axes.set a y)
    (valves : t.valves = s.valves.set a g)
    (command : s.valves[a].command = s.axes[a].c → g.command = y.c)
    (step : AxisStep s.settings.axes[a] s.axes[a] y) : AxesStep s t where
  settings := settings
  valves b same := by
    by_cases at' : b = a
    · subst at'
      have record : t.axes[b] = y := by rw [axes]; exact Vector.getElem_set_self b.isLt
      have generator : t.valves[b] = g := by rw [valves]; exact Vector.getElem_set_self b.isLt
      rw [record, generator]
      exact command same
    · have record : t.axes[b] = s.axes[b] := by
        rw [axes]
        exact Vector.getElem_set_ne a.isLt b.isLt (Fin.val_ne_of_ne (Ne.symm at'))
      have generator : t.valves[b] = s.valves[b] := by
        rw [valves]
        exact Vector.getElem_set_ne a.isLt b.isLt (Fin.val_ne_of_ne (Ne.symm at'))
      rw [record, generator, same]
  axes b := by
    by_cases at' : b = a
    · subst at'
      have record : t.axes[b] = y := by rw [axes]; exact Vector.getElem_set_self b.isLt
      rw [record]
      exact step
    · have record : t.axes[b] = s.axes[b] := by
        rw [axes]
        exact Vector.getElem_set_ne a.isLt b.isLt (Fin.val_ne_of_ne (Ne.symm at'))
      rw [record]
      exact .refl _ _

/-- One axis takes a step that keeps its command. -/
theorem axesStep_set_axis {s t : State} {a : Fin 4} {y : AxisRecord}
    (settings : t.settings.axes = s.settings.axes) (axes : t.axes = s.axes.set a y)
    (valves : t.valves = s.valves) (c : y.c = s.axes[a].c)
    (step : AxisStep s.settings.axes[a] s.axes[a] y) : AxesStep s t := by
  refine axesStep_set (g := s.valves[a]) settings axes ?_ (fun same => same.trans c.symm) step
  rw [valves]
  exact (Vector.set_getElem_self a.isLt).symm

theorem axesStep_withAxis {s : State} {a : Fin 4} {y : AxisRecord}
    (step : AxisStep s.settings.axes[a] s.axes[a] y) : AxesStep s (s.withAxis a y) :=
  axesStep_set rfl rfl rfl (fun _ => rfl) step

theorem axesStep_modAxis {s : State} {a : Fin 4} {f : AxisRecord → AxisRecord}
    (c : (f s.axes[a]).c = s.axes[a].c)
    (step : AxisStep s.settings.axes[a] s.axes[a] (f s.axes[a])) : AxesStep s (s.modAxis a f) :=
  axesStep_set_axis rfl rfl rfl c step

theorem axesStep_axisGoes {s : State} {a : Fin 4} {y : AxisRecord} {cause : Option MotionOutcome}
    (c : y.c = s.axes[a].c) (step : AxisStep s.settings.axes[a] s.axes[a] y) :
    AxesStep s (axisGoes s a y cause) :=
  axesStep_set_axis (congrArg Settings.axes (says_settings _ _)) rfl (says_valves _ _) c step

/-! ### Rest -/

theorem running?_atRest (x : AxisRecord) (into : AxisState) (now : DeckTime) (o : MotionOutcome) :
    (x.atRest into now o).running? = none := by
  cases runs : x.running? with
  | none =>
    rw [atRest_of_still _ _ _ runs]
    exact runs
  | some m =>
    rw [atRest_of_running _ _ _ runs]
    rfl

/-- A record at rest: its command 0, no motion and no timer. -/
theorem AxisStep.atRest {set : AxisSettings} {x y : AxisRecord} {into : AxisState} {now : DeckTime}
    {o : MotionOutcome} (rest : into = .idle ∨ into = .tripped)
    (staged : CommandLawful set x → y.staged = 0)
    (trip : FieldsLawful x → y.tripKind.isSome = decide (into = .tripped)) :
    AxisStep set x (y.atRest into now o) where
  command law := ⟨fun _ => rfl, fun _ => staged law, Nat.zero_le _, (staged law).symm ▸ Nat.zero_le _⟩
  fields law := by
    have trips := trip law
    rcases rest with rfl | rfl
    · exact ⟨rfl, by rw [running?_atRest]; rfl, rfl, rfl, rfl, trips⟩
    · exact ⟨rfl, by rw [running?_atRest]; rfl, rfl, rfl, rfl, trips⟩
  goes := .of_rest (by rcases rest with rfl | rfl <;> rfl)

theorem axesStep_axisRests {s : State} {a : Fin 4} {x : AxisRecord} {into : AxisState}
    {o : MotionOutcome} (rest : into = .idle ∨ into = .tripped)
    (staged : CommandLawful s.settings.axes[a] s.axes[a] → x.staged = 0)
    (trip : FieldsLawful s.axes[a] → x.tripKind.isSome = decide (into = .tripped)) :
    AxesStep s (axisRests s a x into o) := by
  refine axesStep_set (y := x.atRest into s.clock o) (g := { s.valves[a] with command := 0 })
    ?_ ?_ ?_ (fun _ => rfl) (.atRest rest staged trip)
  all_goals
    unfold axisRests State.withAxisAtRest
    dsimp only
  · rw [says_settings]
  · rw [says_axes, says_clock]
  · rw [says_valves]

/-- An axis that is neither in MANUAL nor TRIPPED may come to rest in IDLE. -/
theorem axesStep_enterRest {s : State} {a : Fin 4} (o : MotionOutcome)
    (manual : s.axes[a].state ≠ .manual) (tripped : s.axes[a].state ≠ .tripped) :
    AxesStep s (s.enterRest a .idle o) := by
  rw [enterRest_eq]
  refine axesStep_axisRests (.inl rfl) (fun law => law.staged manual) fun law => ?_
  rw [law.tripKind, decide_eq_false tripped]
  rfl

theorem axesStep_endSession {s : State} {a : Fin 4} (o : MotionOutcome)
    (tripped : s.axes[a].state ≠ .tripped) : AxesStep s (s.endSession a o) := by
  rw [endSession_eq]
  refine axesStep_axisRests (.inl rfl) (fun _ => rfl) fun law => ?_
  rw [law.tripKind, decide_eq_false tripped]
  rfl

/-! ### Travel and stopping -/

theorem travels_iff (x : AxisState) : x.travels = true ↔ x = .moving ∨ x = .settling ∨ x = .jogging := by
  cases x <;> decide

theorem AxisStep.nowStopping {set : AxisSettings} {x : AxisRecord} (o : MotionOutcome)
    (travels : x.state.travels = true) : AxisStep set x (x.nowStopping o) where
  command law := by
    have free : x.state ≠ .manual := by
      rintro manual
      rw [manual] at travels
      exact absurd travels nofun
    exact ⟨nofun, fun _ => law.staged free, law.c_le, law.staged_le⟩
  fields law := by
    obtain ⟨direction, running, warning, -, -, tripKind⟩ := law
    rcases (travels_iff _).1 travels with moves | moves | moves <;>
      (rw [moves] at direction running warning tripKind
       exact ⟨direction, running, warning, rfl, rfl, tripKind⟩)
  goes := .to_stopping (by rcases (travels_iff _).1 travels with h | h | h <;> rw [h] <;> rfl)

theorem axesStep_enterStopping {s : State} {a : Fin 4} (o : MotionOutcome)
    (travels : s.axes[a].state.travels = true) : AxesStep s (s.enterStopping a o) := by
  have stops : AxesStep s (axisGoes s a (s.axes[a].nowStopping o) (some o)) :=
    axesStep_axisGoes rfl (.nowStopping o travels)
  have self : (axisGoes s a (s.axes[a].nowStopping o) (some o)).axes[a] = s.axes[a].nowStopping o :=
    Vector.getElem_set_self a.isLt
  have goes : (s.modAxis a fun x =>
      { x with motionTimer := none, refresh := none, stopOutcome := some o }).changeAxis a .stopping
        (some o) = axisGoes s a (s.axes[a].nowStopping o) (some o) :=
    changeAxis_modAxis rfl .stopping (some o)
  unfold State.enterStopping
  rw [goes]
  dsimp only
  split
  · exact stops.trans (axesStep_enterRest o (by rw [self]; exact nofun) (by rw [self]; exact nofun))
  · exact stops

theorem axesStep_endTravel (s : State) (a : Fin 4) (o : MotionOutcome) :
    AxesStep s (s.endTravel a o) := by
  unfold State.endTravel
  split
  case h_1 warning => exact axesStep_enterRest o (by rw [warning]; exact nofun) (by rw [warning]; exact nofun)
  case h_2 moving => exact axesStep_enterStopping o (by rw [moving]; rfl)
  case h_3 settling => exact axesStep_enterStopping o (by rw [settling]; rfl)
  case h_4 jogging => exact axesStep_enterStopping o (by rw [jogging]; rfl)
  all_goals exact .refl s

theorem axesStep_setC_zero (s : State) (a : Fin 4) : AxesStep s (s.setC a 0) := by
  rw [setC_eq]
  exact axesStep_withAxis ⟨fun law => ⟨fun _ => rfl, law.staged, Nat.zero_le _, law.staged_le⟩,
    fun ⟨direction, running, warning, motionTimer, stopOutcome, tripKind⟩ =>
      ⟨direction, running, warning, motionTimer, stopOutcome, tripKind⟩, .refl _⟩

theorem axesStep_cut (s : State) (a : Fin 4) : AxesStep s (s.cut a) :=
  (within_modValve_command rfl).axesStep (by simp)

theorem limitMet_state (s : State) (a : Fin 4) :
    ((s.setC a 0).cut a).axes[a].state = s.axes[a].state := by
  have self := withAxis_axes_self s a (commanded s.axes[a] 0)
  rw [setC_eq]
  change (s.withAxis a (commanded s.axes[a] 0)).axes[a].state = _
  rw [self]
  rfl

theorem axesStep_limitMet (s : State) (a : Fin 4) : AxesStep s (s.limitMet a) := by
  have zero : AxesStep s ((s.setC a 0).cut a) := (axesStep_setC_zero s a).trans (axesStep_cut _ a)
  have state := limitMet_state s a
  have rests {x : AxisState} (at' : s.axes[a].state = x) (manual : x ≠ .manual) (tripped : x ≠ .tripped)
      (o : MotionOutcome) : AxesStep s (((s.setC a 0).cut a).enterRest a .idle o) :=
    zero.trans (axesStep_enterRest o (by rw [state, at']; exact manual) (by rw [state, at']; exact tripped))
  unfold State.limitMet
  dsimp only
  split
  case h_1 moving => exact rests moving nofun nofun _
  case h_2 settling => exact rests settling nofun nofun _
  case h_3 jogging => exact rests jogging nofun nofun _
  case h_4 stopping => exact rests stopping nofun nofun _
  all_goals exact zero

/-! ### Updates -/

theorem driveRecord_cNew_le (set : AxisSettings) (oil : Reading) (mode : AxisState) (e : Option Int)
    (dir : Direction) (c : Int) : (driveRecord set oil mode e dir c).cNew.natAbs ≤ set.dMax := by
  unfold driveRecord
  split <;> exact slewed_natAbs_le _ _ _ _

/-- A state in which an axis is driven. -/
def driven (x : AxisState) : Prop := x.travels = true ∨ x = .stopping

theorem driven_apart {x : AxisState} (h : driven x) :
    x ≠ .idle ∧ x ≠ .warning ∧ x ≠ .tripped ∧ x ≠ .manual := by
  rcases h with h | h
  · rcases (travels_iff _).1 h with h | h | h <;> rw [h] <;> decide
  · rw [h]
    decide

theorem AxisStep.driven {set : AxisSettings} {x : AxisRecord} {r : UpdateRecord}
    (runs : Proofs.driven x.state) (bound : r.cNew.natAbs ≤ set.dMax) :
    AxisStep set x (x.driven r) where
  command law := by
    obtain ⟨idle, warning, tripped, manual⟩ := driven_apart runs
    exact ⟨fun rest => absurd rest (by simp [AxisRecord.driven, idle, warning, tripped]), law.staged, bound,
      law.staged_le⟩
  fields := fun ⟨direction, running, warning, motionTimer, stopOutcome, tripKind⟩ =>
    ⟨direction, running, warning, motionTimer, stopOutcome, tripKind⟩
  goes := .refl _

theorem axesStep_drive {s : State} {a : Fin 4} (e : Option Int) (runs : driven s.axes[a].state) :
    AxesStep s (s.drive a e) := by
  rw [drive_eq]
  exact axesStep_withAxis (.driven runs (driveRecord_cNew_le _ _ _ _ _ _))

theorem drive_state (s : State) (a : Fin 4) (e : Option Int) :
    (s.drive a e).axes[a].state = s.axes[a].state := by
  rw [drive_eq, withAxis_axes_self]
  rfl

theorem axesStep_stoppingUpdate {s : State} {a : Fin 4} (stopping : s.axes[a].state = .stopping) :
    AxesStep s (s.stoppingUpdate a) := by
  have runs : AxesStep s (s.drive a none) := axesStep_drive none (.inr stopping)
  have state : (s.drive a none).axes[a].state = .stopping := (drive_state s a none).trans stopping
  unfold State.stoppingUpdate
  split
  · exact axesStep_limitMet s a
  · dsimp only
    split
    · exact runs.trans (axesStep_enterRest _ (by rw [state]; exact nofun) (by rw [state]; exact nofun))
    · exact runs

theorem axesStep_stopUpdate {s : State} {a : Fin 4} (o : MotionOutcome)
    (travels : s.axes[a].state.travels = true) : AxesStep s (s.stopUpdate a o) := by
  have stops := axesStep_enterStopping o travels
  unfold State.stopUpdate
  dsimp only
  split
  · exact stops.trans (axesStep_stoppingUpdate ‹_›)
  · exact stops

theorem axesStep_modAxis_alike {s : State} {a : Fin 4} {f : AxisRecord → AxisRecord}
    (alike : AxisAlike s.axes[a] (f s.axes[a])) : AxesStep s (s.modAxis a f) :=
  (within_modAxis_alike alike).axesStep (by simp)

theorem modAxis_state {s : State} {a : Fin 4} {f : AxisRecord → AxisRecord}
    (state : (f s.axes[a]).state = s.axes[a].state) : (s.modAxis a f).axes[a].state = s.axes[a].state := by
  rw [State.modAxis_axes, upd_get_self, state]

theorem axesStep_settleStep {s : State} {a : Fin 4} (e : Int) (settling : s.axes[a].state = .settling) :
    AxesStep s (s.settleStep a e) := by
  have counted : AxesStep s (s.modAxis a fun x => { x with
      settle := min (x.settle + 1) s.settings.axes[a].settleCount }) :=
    axesStep_modAxis_alike ⟨rfl, rfl, rfl, rfl, rfl, rfl, rfl, rfl, rfl⟩
  have state : (s.modAxis a fun x => { x with
      settle := min (x.settle + 1) s.settings.axes[a].settleCount }).axes[a].state = .settling :=
    (modAxis_state rfl).trans settling
  have runs := counted.trans (axesStep_drive (some e) (.inl (by rw [state]; rfl)))
  unfold State.settleStep
  dsimp only
  split
  · refine runs.trans (axesStep_enterRest _ ?_ ?_) <;> rw [drive_state, state] <;> exact nofun
  · exact runs

theorem travel_eq (s : State) (a : Fin 4) (new : AxisState) :
    s.travel a new = axisGoes s a { s.axes[a] with settle := 0, state := new } none :=
  changeAxis_modAxis rfl new none

theorem travel_state (s : State) (a : Fin 4) (new : AxisState) :
    (s.travel a new).axes[a].state = new := by
  rw [travel_eq]
  exact congrArg AxisRecord.state (Vector.getElem_set_self (xs := s.axes) a.isLt)

/-- MOVING and SETTLING have the same fields. -/
theorem axesStep_travel {s : State} {a : Fin 4} {new : AxisState} (into : new = .moving ∨ new = .settling)
    (out : s.axes[a].state = .moving ∨ s.axes[a].state = .settling) : AxesStep s (s.travel a new) := by
  rw [travel_eq]
  refine axesStep_axisGoes rfl ⟨fun law => ⟨?_, fun _ => law.staged ?_, law.c_le, law.staged_le⟩,
    fun law => ?_, ?_⟩
  · rcases into with rfl | rfl <;> exact nofun
  · rcases out with out | out <;> rw [out] <;> exact nofun
  · obtain ⟨direction, running, warning, motionTimer, stopOutcome, tripKind⟩ := law
    rcases out with out | out <;> rw [out] at direction running warning motionTimer stopOutcome tripKind <;>
      rcases into with rfl | rfl <;>
      exact ⟨direction, running, warning, motionTimer, stopOutcome, tripKind⟩
  · rcases out with out | out <;> rw [out] <;> rcases into with rfl | rfl <;>
      exact fun _ => ⟨rfl, fun _ _ => ⟨nofun, nofun, nofun⟩⟩

theorem axesStep_settlingUpdate {s : State} {a : Fin 4} (angle : Int)
    (settling : s.axes[a].state = .settling) : AxesStep s (s.settlingUpdate a angle) := by
  unfold State.settlingUpdate
  dsimp only
  split
  · exact axesStep_settleStep _ settling
  split
  · exact (axesStep_travel (.inl rfl) (.inr settling)).trans
      (axesStep_drive _ (.inl (by rw [travel_state]; rfl)))
  · exact axesStep_stopUpdate _ (by rw [settling]; rfl)

theorem axesStep_movingUpdate {s : State} {a : Fin 4} (angle : Int) (moving : s.axes[a].state = .moving) :
    AxesStep s (s.movingUpdate a angle) := by
  unfold State.movingUpdate
  dsimp only
  split
  · exact (axesStep_travel (.inr rfl) (.inl moving)).trans (axesStep_settleStep _ (travel_state _ _ _))
  · exact axesStep_drive _ (.inl (by rw [moving]; rfl))

theorem axesStep_joggingUpdate {s : State} {a : Fin 4} (angle : Reading)
    (jogging : s.axes[a].state = .jogging) : AxesStep s (s.joggingUpdate a angle) := by
  unfold State.joggingUpdate
  split
  · exact axesStep_stopUpdate _ (by rw [jogging]; rfl)
  · exact axesStep_drive _ (.inl (by rw [jogging]; rfl))

theorem axesStep_updateAxis (s : State) (a : Fin 4) (angle : Reading) :
    AxesStep s (s.updateAxis a angle) := by
  unfold State.updateAxis
  split
  case h_1 moving =>
    split
    · exact .refl s
    split
    · exact axesStep_limitMet s a
    · exact axesStep_movingUpdate _ moving
  case h_2 settling =>
    split
    · exact .refl s
    split
    · exact axesStep_limitMet s a
    · exact axesStep_settlingUpdate _ settling
  case h_3 jogging =>
    split
    · exact axesStep_limitMet s a
    · exact axesStep_joggingUpdate _ jogging
  case h_4 stopping => exact axesStep_stoppingUpdate stopping
  all_goals exact .refl s

/-! ### Trips -/

theorem modAxis_countAxis (s : State) (a b : Fin 4) (f : AxisRecord → AxisRecord)
    (g : AxisCounters → AxisCounters) :
    (s.modAxis a f).countAxis b g = (s.countAxis b g).modAxis a f := rfl

theorem cut_axes (s : State) (a : Fin 4) : (s.cut a).axes = s.axes := rfl

theorem trip_eq (s : State) (a : Fin 4) (k : TripKind) :
    s.trip a k = (axisRests ((s.cut a).countAxis a fun n => { n with trips := saturate n.trips }) a
      { s.axes[a] with staged := 0, tripKind := some k } .tripped .tripped).hand
        [.alarmSourceChange (tripSource a k) true] := by
  unfold State.trip
  rw [modAxis_countAxis, enterRest_modAxis, State.countAxis_axes, cut_axes]

theorem axesStep_trip (s : State) (a : Fin 4) (k : TripKind) : AxesStep s (s.trip a k) := by
  have before : AxesStep s ((s.cut a).countAxis a fun n => { n with trips := saturate n.trips }) :=
    (axesStep_cut s a).quietly within_countAxis
  rw [trip_eq]
  exact (before.trans (axesStep_axisRests (.inr rfl) (fun _ => rfl) fun _ => rfl)).quietly within_hand

theorem axesStep_checkPressure (s : State) (a : Fin 4) (p : Int) : AxesStep s (s.checkPressure a p) := by
  have checked (confirm : Option TripKind) (check : CheckRecord) :
      AxesStep s (s.modAxis a fun x => { x with check := some check, confirm := confirm }) :=
    axesStep_modAxis_alike ⟨rfl, rfl, rfl, rfl, rfl, rfl, rfl, rfl, rfl⟩
  unfold State.checkPressure
  dsimp only
  split
  · split
    · exact (checked _ _).trans (axesStep_trip _ _ _)
    · exact checked _ _
  · exact checked _ _

theorem axesStep_pressureNotice (s : State) (a : Fin 4) (p : Reading) :
    AxesStep s (s.pressureNotice a p) := by
  unfold State.pressureNotice
  split
  · exact axesStep_checkPressure s a _
  · exact axesStep_modAxis_alike ⟨rfl, rfl, rfl, rfl, rfl, rfl, rfl, rfl, rfl⟩

theorem axesStep_clearTrip {s : State} {a : Fin 4} (tripped : s.axes[a].state = .tripped) :
    AxesStep s (s.clearTrip a) := by
  have clears : (s.modAxis a fun x => { x with tripKind := none }).changeAxis a .idle none =
      axisGoes s a { s.axes[a] with tripKind := none, state := .idle } none :=
    changeAxis_modAxis rfl .idle none
  have step : AxisStep s.settings.axes[a] s.axes[a]
      { s.axes[a] with tripKind := none, state := .idle } := by
    refine ⟨fun law => ?_, fun law => ?_, .of_rest rfl⟩
    · exact ⟨fun _ => law.rest (.inr (.inr tripped)), fun _ => law.staged (by rw [tripped]; exact nofun),
        law.c_le, law.staged_le⟩
    · obtain ⟨direction, running, warning, motionTimer, stopOutcome, -⟩ := law
      rw [tripped] at direction running warning motionTimer stopOutcome
      exact ⟨direction, running, warning, motionTimer, stopOutcome, rfl⟩
  have goes : AxesStep s (axisGoes s a { s.axes[a] with tripKind := none, state := .idle } none) :=
    axesStep_axisGoes rfl step
  unfold State.clearTrip
  dsimp only
  rw [clears]
  exact goes.quietly within_hand

theorem axesStep_angleLost (s : State) (a : Fin 4) : AxesStep s (s.angleLost a) := by
  unfold State.angleLost
  split
  case h_1 warning =>
    exact axesStep_enterRest _ (by rw [warning]; exact nofun) (by rw [warning]; exact nofun)
  case h_2 moving => exact axesStep_enterStopping _ (by rw [moving]; rfl)
  case h_3 settling => exact axesStep_enterStopping _ (by rw [settling]; rfl)
  all_goals exact .refl s

/-! ### Manual service drive and AXIS STOP -/

/-- In MANUAL the command and the staged value may be any within Dmax. -/
theorem AxisStep.manual {set : AxisSettings} {x y : AxisRecord} (manual : x.state = .manual)
    (state : y.state = .manual) (alike : FieldsLawful x → FieldsLawful y)
    (c : CommandLawful set x → y.c.natAbs ≤ set.dMax)
    (staged : CommandLawful set x → y.staged.natAbs ≤ set.dMax) : AxisStep set x y where
  command law := ⟨by rw [state]; exact nofun, fun h => absurd state h, c law, staged law⟩
  fields := alike
  goes := by
    rw [manual, state]
    exact .refl _

theorem axesStep_stopAxis (s : State) (a : Fin 4) : AxesStep s (s.stopAxis a) := by
  unfold State.stopAxis
  split
  case isTrue manual =>
    rw [setC_modAxis]
    exact axesStep_withAxis (.manual manual manual
      (fun ⟨direction, running, warning, motionTimer, stopOutcome, tripKind⟩ =>
        ⟨direction, running, warning, motionTimer, stopOutcome, tripKind⟩)
      (fun _ => Nat.zero_le _) fun _ => Nat.zero_le _)
  case isFalse => exact axesStep_endTravel s a _

theorem axesStep_stopAll (s : State) : AxesStep s s.stopAll := by
  unfold State.stopAll
  refine .foldl (fun s a => ?_) s _
  split
  · exact axesStep_stopAxis s a
  · exact .refl s

theorem axesStep_ifFitted {s : State} {a : Fin 4} {f : State → State} (h : AxesStep s (f s)) :
    AxesStep s (s.ifFitted a f) := by
  unfold State.ifFitted
  split
  · exact h
  · exact .refl s

/-! ### The commands of the axes -/

theorem axesStep_taken (s : State) (i : Instr) : AxesStep s (s.taken i) :=
  within_noticeParts.axesStep (by decide)

theorem axesStep_runEvent {i : Instr} {f : State → State} {s t : State}
    (h : runEvent i s f = .next t) (act : ∀ u, AxesStep u (f u)) : AxesStep s t := by
  rcases runEvent_cases h with ⟨-, rfl⟩ | ⟨-, rfl⟩
  · exact ((axesStep_taken s i).trans (act _)).quietly within_pump
  · exact .refl t

theorem axesStep_runRequest {i : Instr} {l : Link} {tag : Byte} {f : State → State × ReplyData}
    {s t : State} (h : runRequest i l tag s f = .next t) (act : ∀ u, AxesStep u (f u).1) :
    AxesStep s t := by
  rcases runRequest_cases h with ⟨-, rfl⟩ | ⟨-, rfl⟩
  · have opened : AxesStep s (s.openRequest l i) := within_openRequest.axesStep (by simp)
    exact (opened.trans (act _)).quietly (within_placeReply.then within_pump)
  · exact .refl t

/-- Entry to STOPPING from a record changed first. -/
theorem enterStopping_modAxis {s : State} {a : Fin 4} {f : AxisRecord → AxisRecord} {o : MotionOutcome}
    (state : (f s.axes[a]).state = s.axes[a].state)
    (same : (f s.axes[a]).nowStopping o = s.axes[a].nowStopping o) :
    (s.modAxis a f).enterStopping a o = s.enterStopping a o := by
  have c : ((f s.axes[a]).nowStopping o).c = (s.axes[a].nowStopping o).c :=
    congrArg (fun x : AxisRecord => x.c) same
  replace c : (f s.axes[a]).c = s.axes[a].c := c
  have self : (s.modAxis a f).axes[a] = f s.axes[a] := by rw [State.modAxis_axes, upd_get_self]
  have goes : ((s.modAxis a f).modAxis a fun x =>
      { x with motionTimer := none, refresh := none, stopOutcome := some o }).changeAxis a .stopping
        (some o) = (s.modAxis a fun x =>
      { x with motionTimer := none, refresh := none, stopOutcome := some o }).changeAxis a .stopping
        (some o) := by
    have left : ((s.modAxis a f).modAxis a fun x =>
      { x with motionTimer := none, refresh := none, stopOutcome := some o }).changeAxis a .stopping
        (some o) = axisGoes s a ((f s.axes[a]).nowStopping o) (some o) := by
      rw [modAxis_modAxis]
      exact changeAxis_modAxis (f := fun x => { f x with
        motionTimer := none, refresh := none, stopOutcome := some o }) state .stopping (some o)
    rw [left, same]
    exact (changeAxis_modAxis (s := s) (a := a) (f := fun x => { x with
      motionTimer := none, refresh := none, stopOutcome := some o }) rfl .stopping (some o)).symm
  unfold State.enterStopping
  rw [goes, self, c]

theorem axesStep_warningTimerExpiry (s : State) (a : Fin 4) (warning : s.axes[a].state = .warning)
    (o : MotionOutcome) :
    AxesStep s ((s.modAxis a fun x => { x with warning := none }).enterRest a .idle o) := by
  rw [enterRest_modAxis]
  refine axesStep_axisRests (.inl rfl) (fun law => law.staged (by rw [warning]; exact nofun))
    fun law => ?_
  rw [law.tripKind, warning]
  rfl

/-- The warning ends in travel (R24). -/
theorem axesStep_warningEnds (s : State) (a : Fin 4) (timer : Nat) (warning : s.axes[a].state = .warning) :
    AxesStep s (((s.modAxis a fun x => { x with warning := none }).modAxis a fun x =>
      { x with motionTimer := some timer }).travel a .moving) := by
  have goes : ((s.modAxis a fun x => { x with warning := none }).modAxis a fun x =>
      { x with motionTimer := some timer }).travel a .moving =
      axisGoes s a { s.axes[a] with
        warning := none, motionTimer := some timer, settle := 0, state := .moving } none := by
    unfold State.travel
    rw [modAxis_modAxis, modAxis_modAxis]
    exact changeAxis_modAxis (f := fun x => { x with
      warning := none, motionTimer := some timer, settle := 0 }) rfl .moving none
  rw [goes]
  refine axesStep_axisGoes rfl ⟨fun law => ?_, fun law => ?_, ?_⟩
  · exact ⟨nofun, fun _ => law.staged (by rw [warning]; exact nofun), law.c_le, law.staged_le⟩
  · obtain ⟨direction, running, -, -, stopOutcome, tripKind⟩ := law
    rw [warning] at direction running stopOutcome tripKind
    exact ⟨direction, running, rfl, rfl, stopOutcome, tripKind⟩
  · rw [warning]
    exact fun _ => ⟨rfl, fun _ _ => ⟨nofun, nofun, nofun⟩⟩

theorem clampInt_natAbs_le {d : Nat} (v : Int) : (clampInt (-d) d v).natAbs ≤ d := by
  unfold clampInt
  omega

theorem appliedValue_natAbs_le {s : State} {a : Fin 4} {d : Nat} (h : s.axes[a].staged.natAbs ≤ d) :
    (s.appliedValue a).natAbs ≤ d := by
  unfold State.appliedValue
  split
  · split
    · exact Nat.zero_le _
    · exact h
  · exact h

theorem axesStep_inSession {s : State} {l : Link} {axis : Nat} {f : Fin 4 → State × ReplyData}
    (act : ∀ a : Fin 4, s.axes[a].state = .manual → AxesStep s (f a).1) :
    AxesStep s (s.inSession l axis f).1 := by
  unfold State.inSession
  cases s.fittedAxis? axis with
  | none => exact .refl s
  | some a =>
    dsimp only
    split
    · exact .refl s
    split
    · exact .refl s
    split
    · exact .refl s
    · exact act a (not_not.1 ‹_›)

theorem axesStep_retarget (s : State) (a : Fin 4) (target : Int) : AxesStep s (s.retarget a target).1 := by
  have alike : AxisAlike s.axes[a] (s.axes[a].retarget target) := by
    refine ⟨rfl, rfl, rfl, rfl, ?_, rfl, rfl, rfl, rfl⟩
    unfold AxisRecord.retarget AxisRecord.running?
    cases s.axes[a].motion with
    | none => rfl
    | some m =>
      simp only [Option.map_some]
      split <;> rfl
  have turned : AxesStep s (s.modAxis a (·.retarget target)) := axesStep_modAxis_alike alike
  unfold State.retarget
  dsimp only
  split
  · exact .refl s
  split
  · exact .refl s
  split
  case isTrue settling =>
    exact turned.trans (axesStep_travel (.inl rfl) (.inr ((modAxis_state rfl).trans settling.1)))
  case isFalse => exact turned

/-- The requests by which an axis leaves IDLE, and the write of its settings. -/
def startsAxis : Instr → Bool
  | .axisMove .. | .axisJog .. | .manualEnter .. | .settingsWriteAxis .. => true
  | _ => false

/-- Every other command lets the axes step on. -/
theorem axesStep_exec {i : Instr} {s t : State} (renew : renews i = false) (starts : startsAxis i = false)
    (h : exec i s = .next t) : AxesStep s t := by
  by_cases apart : ∀ p ∈ [Part.axisSettings, .valves, .axes], p ∉ touched i
  · obtain ⟨u, answer, rfl | acted⟩ := exec_within i s
    · exact Host.Outcome.next.inj (answer.symm.trans h) ▸ .refl _
    · exact Host.Outcome.next.inj (answer.symm.trans h) ▸
        (axesStep_taken s i).trans (acted.axesStep apart)
  cases i <;> simp only [touched, List.mem_cons, List.not_mem_nil, reduceCtorEq, or_false, or_true,
    not_true_eq_false, not_false_eq_true, forall_eq_or_imp, forall_eq, and_true, and_false, or_self,
    implies_true] at apart
  case axisUpdate a angle =>
    change execAxisUpdate a angle s = _ at h
    exact axesStep_runEvent h fun u => axesStep_ifFitted (axesStep_updateAxis u a angle)
  case pressureCheck a p =>
    change execPressureCheck a p s = _ at h
    exact axesStep_runEvent h fun u => axesStep_pressureNotice u a p
  case angleValidityChange a valid =>
    change execAngleValidityChange a valid s = _ at h
    refine axesStep_runEvent h fun u => axesStep_ifFitted ?_
    split
    · exact (AxesStep.refl u).quietly within_evalSensor
    · exact (axesStep_angleLost u a).quietly within_evalSensor
  case disablingNotice a =>
    change execDisablingNotice a s = _ at h
    refine axesStep_runEvent h fun u => axesStep_ifFitted ?_
    split
    case isTrue stopping =>
      exact axesStep_enterRest _ (by rw [stopping]; exact nofun) (by rw [stopping]; exact nofun)
    case isFalse => exact .refl u
  case limitSwitchChange a side asserted =>
    change execLimitSwitchChange a side asserted s = _ at h
    refine axesStep_runEvent h fun u => axesStep_ifFitted ?_
    split
    · exact axesStep_limitMet u a
    · exact .refl u
  case permissiveSlotChange a dir result =>
    change execPermissiveSlotChange a dir result s = _ at h
    refine axesStep_runEvent h fun u => axesStep_ifFitted ?_
    split
    case isTrue lost => exact axesStep_enterStopping _ (by rw [lost.2.1]; rfl)
    case isFalse => exact .refl u
  case holderChange a reason =>
    change execHolderChange a reason s = _ at h
    refine axesStep_runEvent h fun u => axesStep_ifFitted ?_
    split
    case isTrue manual => exact axesStep_endSession _ (by rw [manual]; exact nofun)
    case isFalse => exact axesStep_endTravel u a _
  case deckHoldNotice a =>
    change execDeckHoldNotice a s = _ at h
    refine axesStep_runEvent h fun u => axesStep_ifFitted ?_
    split
    case h_1 manual => exact axesStep_endSession _ (by rw [manual]; exact nofun)
    case h_2 stopping =>
      refine axesStep_modAxis rfl ⟨fun ⟨rest, staged, c, dMax⟩ => ⟨rest, staged, c, dMax⟩, fun law => ?_,
        .refl _⟩
      obtain ⟨direction, running, warning, motionTimer, -, tripKind⟩ := law
      exact ⟨direction, running, warning, motionTimer, by simp only [stopping]; rfl, tripKind⟩
    case h_3 => exact axesStep_endTravel u a _
  case lossOfServiceLevel a l =>
    change execLossOfServiceLevel a l s = _ at h
    refine axesStep_runEvent h fun u => axesStep_ifFitted ?_
    split
    case isTrue lost => exact axesStep_endSession _ (by rw [lost.1]; exact nofun)
    case isFalse => exact .refl u
  case stopLineChange a asserted =>
    change execStopLineChange a asserted s = _ at h
    refine axesStep_runEvent h fun u => axesStep_ifFitted ?_
    split
    case isTrue cuts =>
      have active : u.axes[a].state.active = true := (Bool.and_eq_true_iff.1 cuts).2
      refine (axesStep_cut u a).trans (axesStep_endSession _ ?_)
      rw [cut_axes]
      rintro tripped
      rw [tripped] at active
      exact absurd active nofun
    case isFalse => exact .refl u
  case warningTimerExpiry a =>
    change execWarningTimerExpiry a s = _ at h
    refine axesStep_runEvent h fun u => ?_
    dsimp only
    split
    · exact .refl u
    split
    case isTrue other =>
      refine axesStep_modAxis rfl ⟨fun ⟨rest, staged, c, dMax⟩ => ⟨rest, staged, c, dMax⟩, fun law => ?_,
        .refl _⟩
      obtain ⟨direction, running, -, motionTimer, stopOutcome, tripKind⟩ := law
      exact ⟨direction, running, by simp only [decide_eq_false other]; rfl, motionTimer, stopOutcome,
        tripKind⟩
    case isFalse warning =>
      split
      · exact axesStep_warningTimerExpiry u a (not_not.1 warning) _
      split
      · exact axesStep_warningTimerExpiry u a (not_not.1 warning) _
      · exact axesStep_warningEnds u a _ (not_not.1 warning)
  case motionTimerExpiry a =>
    change execMotionTimerExpiry a s = _ at h
    refine axesStep_runEvent h fun u => ?_
    have stops (travels : u.axes[a].state.travels = true) :
        AxesStep u (((u.modAxis a fun x => { x with motionTimer := none }).hand
          [.momentaryRaise (.axisTimeout a)]).enterStopping a .timeout) := by
      have told : AxesStep u (u.hand [.momentaryRaise (.axisTimeout a)]) :=
        (AxesStep.refl u).quietly within_hand
      have same := enterStopping_modAxis (s := u.hand [.momentaryRaise (.axisTimeout a)]) (a := a)
        (f := fun x => { x with motionTimer := none }) (o := .timeout) rfl rfl
      exact told.trans (same.symm ▸ axesStep_enterStopping _ travels)
    dsimp only
    split
    · exact .refl u
    split
    case h_1 moving => exact stops (by rw [moving]; rfl)
    case h_2 settling => exact stops (by rw [settling]; rfl)
    case h_3 jogging => exact stops (by rw [jogging]; rfl)
    case h_4 moving settling jogging =>
      refine axesStep_modAxis rfl ⟨fun ⟨rest, staged, c, dMax⟩ => ⟨rest, staged, c, dMax⟩, fun law => ?_,
        .refl _⟩
      obtain ⟨direction, running, warning, -, stopOutcome, tripKind⟩ := law
      have still : u.axes[a].state.travels = false := by
        rw [← Bool.not_eq_true, travels_iff]
        rintro (h | h | h)
        · exact moving h
        · exact settling h
        · exact jogging h
      exact ⟨direction, running, warning, by simp only [still]; rfl, stopOutcome, tripKind⟩
  case jogRefreshExpiry a =>
    change execJogRefreshExpiry a s = _ at h
    refine axesStep_runEvent h fun u => ?_
    have expired : AxesStep u (u.modAxis a fun x => { x with refresh := none }) :=
      axesStep_modAxis_alike ⟨rfl, rfl, rfl, rfl, rfl, rfl, rfl, rfl, rfl⟩
    dsimp only
    split
    · exact .refl u
    split
    case isTrue jogging =>
      exact expired.trans (axesStep_enterStopping _ (by rw [modAxis_state rfl, jogging]; rfl))
    case isFalse => exact expired
  case manualRefreshExpiry a =>
    change execManualRefreshExpiry a s = _ at h
    refine axesStep_runEvent h fun u => ?_
    have expired : AxesStep u (u.modAxis a fun x => { x with refresh := none }) :=
      axesStep_modAxis_alike ⟨rfl, rfl, rfl, rfl, rfl, rfl, rfl, rfl, rfl⟩
    split
    · exact expired.trans (axesStep_setC_zero _ a)
    · exact .refl u
  case axisStop l tag axis =>
    change execAxisStop l tag axis s = _ at h
    refine axesStep_runRequest h fun u => ?_
    split
    · exact axesStep_stopAll u
    cases u.fittedAxis? axis with
    | none => exact .refl u
    | some a => exact axesStep_stopAxis u a
  case tripReset l tag axis =>
    change execTripReset l tag axis s = _ at h
    refine axesStep_runRequest h fun u => ?_
    cases u.fittedAxis? axis with
    | none => exact .refl u
    | some a =>
      dsimp only
      split
      · exact .refl u
      split
      · exact .refl u
      · exact axesStep_clearTrip (not_not.1 ‹_›)
  case manualSet l tag axis value =>
    change execManualSet l tag axis value s = _ at h
    refine axesStep_runRequest h fun u => axesStep_inSession fun a manual => ?_
    refine axesStep_modAxis rfl (.manual manual manual
      (fun ⟨direction, running, warning, motionTimer, stopOutcome, tripKind⟩ =>
        ⟨direction, running, warning, motionTimer, stopOutcome, tripKind⟩) (fun law => law.c_le)
      fun _ => clampInt_natAbs_le value)
  case manualApply l tag axis =>
    change execManualApply l tag axis s = _ at h
    refine axesStep_runRequest h fun u => axesStep_inSession fun a manual => ?_
    dsimp only
    rw [done_fst, setC_modAxis]
    refine axesStep_withAxis (.manual manual manual
      (fun ⟨direction, running, warning, motionTimer, stopOutcome, tripKind⟩ =>
        ⟨direction, running, warning, motionTimer, stopOutcome, tripKind⟩)
      (fun law => appliedValue_natAbs_le law.staged_le) fun law => law.staged_le)
  case manualLeave l tag axis =>
    change execManualLeave l tag axis s = _ at h
    refine axesStep_runRequest h fun u => axesStep_inSession fun a manual => ?_
    exact axesStep_endSession _ (by rw [manual]; exact nofun)
  case axisMove | axisJog | manualEnter | settingsWriteAxis => exact absurd starts nofun
  all_goals exact absurd renew nofun

end Sys2Proof.Proofs
end

section
/-! SUPPORT. An axis leaves IDLE (R22, R36, R38), its settings are written (R17), and every axis comes to
rest at a reset or a start (R45, R46): what this does to the laws of an axis. -/

open Sys2Proof Sys2Proof.Machine

namespace Sys2Proof.Proofs

/-! ### An axis leaves IDLE -/

/-- From `s` to `t` axis `a` leaves IDLE by the authority of its holder, the STOP line released, and what
was handed to it in IDLE is taken. -/
structure AxisStarts (a : Fin 4) (s t : State) : Prop where
  fitted : s.settings.axes[a].fitted = true
  released : s.alarms.stop = false
  authority : t.axes[a].state ≠ .manual →
    ∃ l, s.holder a = some l ∧ (t.axes[a].state = .jogging → l = .localLink)
  valve : s.valves[a].command = s.axes[a].c → t.valves[a].command = t.axes[a].c
  command : CommandLawful s.settings.axes[a] s.axes[a] → CommandLawful s.settings.axes[a] t.axes[a]
  fields : FieldsLawful s.axes[a] → FieldsLawful t.axes[a]
  others : ∀ b : Fin 4, b ≠ a → t.axes[b] = s.axes[b] ∧ t.valves[b] = s.valves[b]
  apart : Within [.axes, .valves, .stopNotices, .holderNotices] s t
  notices : ∀ n ∈ s.handed, idleNotice a n = false → n ∈ t.handed

/-- What a request of an axis may leave: the axes step on, or one leaves IDLE. -/
def Leaves (s t : State) : Prop :=
  (AxesStep s t ∧ Within [.axes, .valves] s t) ∨ ∃ a, AxisStarts a s t

theorem Leaves.refl (s : State) : Leaves s s := .inl ⟨.refl s, .refl⟩

theorem axisGoes_axes (s : State) (a : Fin 4) (y : AxisRecord) (cause : Option MotionOutcome) :
    (axisGoes s a y cause).axes = s.axes.set a y := rfl

theorem axisGoes_valves (s : State) (a : Fin 4) (y : AxisRecord) (cause : Option MotionOutcome) :
    (axisGoes s a y cause).valves = s.valves := says_valves _ _

/-- A record set among the others. -/
theorem set_others {α : Type} {n : Nat} (v : Vector α n) (a b : Fin n) (x : α) (other : b ≠ a) :
    (v.set a x)[b] = v[b] := Vector.getElem_set_ne a.isLt b.isLt (Fin.val_ne_of_ne (Ne.symm other))

/-- An axis record set with a new state, from a state whose notices of the axis in IDLE are taken. -/
theorem leaves_idle {s u : State} {a : Fin 4} {y : AxisRecord} {g : Generator}
    (fitted : s.settings.axes[a].fitted = true) (released : s.alarms.stop = false)
    (authority : y.state ≠ .manual → ∃ l, s.holder a = some l ∧ (y.state = .jogging → l = .localLink))
    (axes : ∃ z, u.axes = s.axes.set a z) (valves : u.valves = s.valves.set a g)
    (apart : Within [.axes, .valves, .stopNotices, .holderNotices] s u)
    (handed : u.handed = (s.leaveIdle a).handed)
    (valve : s.valves[a].command = s.axes[a].c → g.command = y.c)
    (command : CommandLawful s.settings.axes[a] s.axes[a] → CommandLawful s.settings.axes[a] y)
    (fields : FieldsLawful s.axes[a] → FieldsLawful y) :
    AxisStarts a s (axisGoes u a y none) := by
  obtain ⟨z, axes⟩ := axes
  have set : (axisGoes u a y none).axes = s.axes.set a y := by
    rw [axisGoes_axes, axes]
    exact Vector.set_set _ _
  have record : (axisGoes u a y none).axes[a] = y := by
    rw [set]
    exact Vector.getElem_set_self a.isLt
  have generators : (axisGoes u a y none).valves = s.valves.set a g := (axisGoes_valves _ _ _ _).trans valves
  have generator : (axisGoes u a y none).valves[a] = g := by
    rw [generators]
    exact Vector.getElem_set_self a.isLt
  have kept (b : Fin 4) (other : b ≠ a) : (axisGoes u a y none).axes[b] = s.axes[b] := by
    rw [set]
    exact set_others _ _ _ _ other
  have goes : Within [.axes] u (axisGoes u a y none) := by
    have told : Within [] u (u.says [toBoth (.axisState a u.axes[a].state y.state none)]) := within_report
    have hands : Within [.axes] (u.says [toBoth (.axisState a u.axes[a].state y.state none)])
        (axisGoes u a y none) := by
      have handed : (u.says [toBoth (.axisState a u.axes[a].state y.state none)]).handed = u.handed :=
        says_handed _ _
      have told : axisGoes u a y none = ({ u.says [toBoth (.axisState a u.axes[a].state y.state none)] with
          axes := u.axes.set a y } : State).hand (axisNotices a u.axes[a].state y.state) := by
        unfold axisGoes State.hand
        dsimp only
        rw [handed]
      rw [told]
      refine Within.quietly (fun p hp => ?_) within_hand
      have kept := Part.Kept.refl p (u.says [toBoth (.axisState a u.axes[a].state y.state none)])
      cases p <;> first | exact kept | exact absurd (List.mem_singleton_self _) hp
    exact told.then hands
  refine ⟨fitted, released, ?_, ?_, ?_, ?_, fun b other => ⟨kept b other, ?_⟩, ?_, ?_⟩
  · rwa [record]
  · rwa [record, generator]
  · rwa [record]
  · rwa [record]
  · rw [generators]
    exact set_others _ _ _ _ other
  · exact (apart.then goes).mono (by decide)
  · intro n listed still
    have left : n ∈ (s.leaveIdle a).handed := mem_takenFirst.2 ⟨listed, still⟩
    exact List.mem_append_left _ (handed ▸ left)

theorem leaveIdle_axes (s : State) (a : Fin 4) : (s.leaveIdle a).axes = s.axes := rfl

/-- The record of an axis that AXIS MOVE starts (R22). -/
def warned (s : State) (l : Link) (a : Fin 4) (d : Direction) (target : Int) : AxisRecord :=
  { s.axes[a] with
    target := some target
    direction := some d
    warning := some (s.settings.axes[a].warningTime * 1000)
    motion := some ⟨l, .move, some target, s.clock, none, none⟩
    state := .warning }

/-- The record of an axis that AXIS JOG starts (R36). -/
def jogged (s : State) (l : Link) (a : Fin 4) (d : Direction) : AxisRecord :=
  { s.axes[a] with
    direction := some d
    motionTimer := some (s.settings.axes[a].motionLimit * 1000)
    refresh := some Config.refreshWindow
    motion := some ⟨l, .jog, none, s.clock, none, none⟩
    state := .jogging }

/-- The record of an axis whose session MANUAL ENTER opens (R38). -/
def inManual (x : AxisRecord) : AxisRecord :=
  { commanded x 0 with staged := 0, target := none, direction := none, refresh := none, state := .manual }

/-- AXIS MOVE starts a motion (R22). -/
def moveStarted (s : State) (l : Link) (a : Fin 4) (d : Direction) (target : Int) : State :=
  axisGoes (s.leaveIdle a) a (warned s l a d target) none

/-- The direction of a motion that AXIS MOVE starts (R22). -/
def moveDirection (s : State) (a : Fin 4) (target : Int) : Direction :=
  if (s.angle a).scaled < target then .raise else .lower

theorem moveStarted_eq (s : State) (l : Link) (a : Fin 4) (d : Direction) (target : Int) :
    (((s.leaveIdle a).modAxis a fun x => { x with
      target := some target
      direction := some d
      warning := some (s.settings.axes[a].warningTime * 1000) }).openMotion a l .move
        (some target)).changeAxis a .warning none = moveStarted s l a d target := by
  unfold State.openMotion moveStarted
  rw [modAxis_modAxis]
  exact changeAxis_modAxis (s := s.leaveIdle a) (f := fun x => { x with
    target := some target, direction := some d
    warning := some (s.settings.axes[a].warningTime * 1000)
    motion := some ⟨l, .move, some target, s.clock, none, none⟩ }) rfl .warning none

theorem moveFromIdle_eq (s : State) (l : Link) (a : Fin 4) (target : Int) :
    s.moveFromIdle l a target =
      if s.inBand a (target - (s.angle a).scaled) then done s (moveData target (some .reached))
      else if !s.permits a (moveDirection s a target) then deny s .notPermitted
      else (moveStarted s l a (moveDirection s a target) target, .accepted (moveData target none)) := by
  rw [← moveStarted_eq]
  rfl

theorem startJog_eq (s : State) (l : Link) (a : Fin 4) (d : Direction) :
    s.startJog l a d = axisGoes (s.leaveIdle a) a (jogged s l a d) none := by
  unfold State.startJog
  dsimp only
  unfold State.openMotion
  rw [modAxis_modAxis]
  exact changeAxis_modAxis (s := s.leaveIdle a) (f := fun x => { x with
    direction := some d
    motionTimer := some (s.settings.axes[a].motionLimit * 1000)
    refresh := some Config.refreshWindow
    motion := some ⟨l, .jog, none, s.clock, none, none⟩ }) rfl .jogging none

theorem startSession_eq (s : State) (a : Fin 4) :
    s.startSession a =
      axisGoes ((s.leaveIdle a).withAxis a (commanded s.axes[a] 0)) a (inManual s.axes[a]) none := by
  have self := withAxis_axes_self (s.leaveIdle a) a (commanded s.axes[a] 0)
  have goes := changeAxis_modAxis (s := (s.leaveIdle a).withAxis a (commanded s.axes[a] 0)) (a := a)
    (f := fun x => { x with staged := 0, target := none, direction := none, refresh := none }) rfl
    .manual none
  rw [self] at goes
  exact goes

theorem axisStarts_moveStarted {s : State} {l : Link} {a : Fin 4} {d : Direction} {target : Int}
    (fitted : s.settings.axes[a].fitted = true) (released : s.alarms.stop = false)
    (holder : s.holder a = some l) (idle : s.axes[a].state = .idle) :
    AxisStarts a s (moveStarted s l a d target) := by
  refine leaves_idle fitted released (fun _ => ⟨l, holder, nofun⟩)
    ⟨s.axes[a], (Vector.set_getElem_self a.isLt).symm⟩ (Vector.set_getElem_self a.isLt).symm
    (within_leaveIdle.mono (by decide)) rfl id (fun law => ?_) fun law => ?_
  · exact ⟨fun _ => law.rest (.inl idle), fun _ => law.staged (by rw [idle]; exact nofun), law.c_le,
      law.staged_le⟩
  · obtain ⟨-, -, -, motionTimer, stopOutcome, tripKind⟩ := law
    rw [idle] at motionTimer stopOutcome tripKind
    exact ⟨rfl, rfl, rfl, motionTimer, stopOutcome, tripKind⟩

theorem axisStarts_startJog {s : State} {a : Fin 4} {d : Direction}
    (fitted : s.settings.axes[a].fitted = true) (released : s.alarms.stop = false)
    (holder : s.holder a = some .localLink) (idle : s.axes[a].state = .idle) :
    AxisStarts a s (s.startJog .localLink a d) := by
  rw [startJog_eq]
  refine leaves_idle fitted released (fun _ => ⟨.localLink, holder, fun _ => rfl⟩)
    ⟨s.axes[a], (Vector.set_getElem_self a.isLt).symm⟩ (Vector.set_getElem_self a.isLt).symm
    (within_leaveIdle.mono (by decide)) rfl id (fun law => ?_) fun law => ?_
  · exact ⟨nofun, fun _ => law.staged (by rw [idle]; exact nofun), law.c_le, law.staged_le⟩
  · obtain ⟨-, -, warning, -, stopOutcome, tripKind⟩ := law
    rw [idle] at warning stopOutcome tripKind
    exact ⟨rfl, rfl, warning, rfl, stopOutcome, tripKind⟩

theorem axisStarts_startSession {s : State} {a : Fin 4} (fitted : s.settings.axes[a].fitted = true)
    (released : s.alarms.stop = false) (idle : s.axes[a].state = .idle) :
    AxisStarts a s (s.startSession a) := by
  have sets : Within [.axes, .valves, .stopNotices, .holderNotices] s
      ((s.leaveIdle a).withAxis a (commanded s.axes[a] 0)) := by
    have set : Within [.axes, .valves] (s.leaveIdle a) ((s.leaveIdle a).setC a 0) := within_setC
    exact (within_leaveIdle.then set).mono (by decide)
  rw [startSession_eq]
  refine leaves_idle fitted released (fun h => absurd rfl h) ⟨_, rfl⟩ rfl sets rfl (fun _ => rfl)
    (fun law => ?_) fun law => ?_
  · exact ⟨nofun, fun _ => rfl, Nat.zero_le _, Nat.zero_le _⟩
  · obtain ⟨direction, running, warning, motionTimer, stopOutcome, tripKind⟩ := law
    rw [idle] at running warning motionTimer stopOutcome tripKind
    exact ⟨rfl, running, warning, motionTimer, stopOutcome, tripKind⟩

/-! ### The requests by which one leaves it -/

theorem fittedAxis?_some {s : State} {n : Nat} {a : Fin 4} (h : s.fittedAxis? n = some a) :
    s.settings.axes[a].fitted = true := by
  unfold State.fittedAxis? at h
  split at h
  · split at h
    · exact Option.some.inj h ▸ ‹_›
    · exact absurd h nofun
  · exact absurd h nofun

theorem holds_iff {s : State} {l : Link} {a : Fin 4} : s.holds l a = true ↔ s.holder a = some l :=
  decide_eq_true_iff

theorem moveRefusal_none {s : State} {l : Link} {a : Fin 4} (h : s.moveRefusal l a = none) :
    s.holder a = some l ∧ s.alarms.stop = false := by
  unfold State.moveRefusal at h
  split at h
  · exact absurd h nofun
  split at h
  · exact absurd h nofun
  split at h
  · exact absurd h nofun
  · exact ⟨holds_iff.1 (by simpa using ‹¬(!s.holds l a) = true›), Bool.eq_false_iff.2 ‹_›⟩

theorem within_retarget {s : State} {a : Fin 4} {target : Int} :
    Within [.axes, .valves] s (s.retarget a target).1 := by
  have turned : Within [.axes] s (s.modAxis a (·.retarget target)) := within_modAxis
  unfold State.retarget
  dsimp only
  split
  · exact .refl
  split
  · exact .refl
  split
  · exact (turned.then within_travel).mono (by decide)
  · exact turned.mono (by decide)

theorem leaves_move {s : State} {l : Link} {a : Fin 4} {target : Int}
    (fitted : s.settings.axes[a].fitted = true) (released : s.alarms.stop = false)
    (holder : s.holder a = some l) : Leaves s (s.move l a target).1 := by
  unfold State.move
  dsimp only
  split
  case isTrue idle =>
    rw [moveFromIdle_eq]
    split
    · exact .refl s
    split
    · exact .refl s
    · exact .inr ⟨a, axisStarts_moveStarted fitted released holder idle⟩
  case isFalse => exact .inl ⟨axesStep_retarget s a _, within_retarget⟩

theorem jogRefusal_none {s : State} {l : Link} {a : Fin 4} (h : s.jogRefusal l a = none) :
    l = .localLink ∧ s.holder a = some .localLink ∧ s.alarms.stop = false ∧
      (s.axes[a].state = .idle ∨ s.axes[a].state = .jogging) := by
  unfold State.jogRefusal at h
  split at h
  · exact absurd h nofun
  case isFalse authority =>
  obtain ⟨link, holds⟩ := not_or.1 authority
  split at h
  · exact absurd h nofun
  split at h
  · exact absurd h nofun
  refine ⟨not_not.1 link, holds_iff.1 (by simpa using holds), Bool.eq_false_iff.2 ‹_›, ?_⟩
  split at h
  case h_7 idle => exact .inl idle
  case h_8 jogging => exact .inr jogging
  all_goals exact absurd h nofun

theorem leaves_jog {s : State} {l : Link} {a : Fin 4} {d : Direction}
    (fitted : s.settings.axes[a].fitted = true) (passed : s.jogRefusal l a = none) :
    Leaves s (s.jog l a d).1 := by
  obtain ⟨rfl, holder, released, state⟩ := jogRefusal_none passed
  have alike : AxisAlike s.axes[a] { s.axes[a] with refresh := some Config.refreshWindow } :=
    ⟨rfl, rfl, rfl, rfl, rfl, rfl, rfl, rfl, rfl⟩
  unfold State.jog
  split
  case isTrue =>
    split
    · exact .inl ⟨axesStep_modAxis_alike alike, (within_modAxis_alike alike).mono (by simp)⟩
    · exact .refl s
  case isFalse other =>
    split
    · exact .refl s
    split
    · exact .refl s
    · exact .inr ⟨a, axisStarts_startJog fitted released holder (state.resolve_right other)⟩

theorem manualRefusal_none {s : State} {l : Link} {a : Fin 4} (h : s.manualRefusal l a = none) :
    s.alarms.stop = false := by
  unfold State.manualRefusal at h
  iterate 3
    split at h
    · exact absurd h nofun
  split at h
  · exact absurd h nofun
  · exact Bool.eq_false_iff.2 ‹_›

/-- The requests by which an axis leaves IDLE. -/
def leavesIdle : Instr → Bool
  | .axisMove .. | .axisJog .. | .manualEnter .. => true
  | _ => false

/-- What AXIS MOVE, AXIS JOG and MANUAL ENTER leave. -/
theorem leaves_exec {i : Instr} {s t : State}
    (starts : leavesIdle i = true) (h : exec i s = .next t) :
    t = s ∨ ∃ u v, Within [] s u ∧ Leaves u v ∧ Within [] v t := by
  have request {i : Instr} {l : Link} {tag : Byte} {f : State → State × ReplyData}
      (h : runRequest i l tag s f = .next t) (act : ∀ u, Leaves u (f u).1) :
      t = s ∨ ∃ u v, Within [] s u ∧ Leaves u v ∧ Within [] v t := by
    rcases runRequest_cases h with ⟨-, rfl⟩ | ⟨-, rfl⟩
    · exact .inr ⟨s.openRequest l i, (f (s.openRequest l i)).1, within_openRequest, act _,
        within_placeReply.then within_pump⟩
    · exact .inl rfl
  cases i <;> simp only [leavesIdle, Bool.false_eq_true] at starts
  case axisMove l tag axis target =>
    change execAxisMove l tag axis target s = _ at h
    refine request h fun u => ?_
    cases named : u.fittedAxis? axis with
    | none => exact .refl u
    | some a =>
      dsimp only
      cases refusal : u.moveRefusal l a with
      | some code => exact .refl u
      | none =>
        obtain ⟨holder, released⟩ := moveRefusal_none refusal
        exact leaves_move (fittedAxis?_some named) released holder
  case axisJog l tag axis direction =>
    change execAxisJog l tag axis direction s = _ at h
    refine request h fun u => ?_
    cases named : u.fittedAxis? axis with
    | none => exact .refl u
    | some a =>
      cases Direction.ofCode direction with
      | none => exact .refl u
      | some d =>
        dsimp only
        cases refusal : u.jogRefusal l a with
        | some code => exact .refl u
        | none => exact leaves_jog (fittedAxis?_some named) refusal
  case manualEnter l tag axis =>
    change execManualEnter l tag axis s = _ at h
    refine request h fun u => ?_
    cases named : u.fittedAxis? axis with
    | none => exact .refl u
    | some a =>
      dsimp only
      cases refusal : u.manualRefusal l a with
      | some code => exact .refl u
      | none =>
        dsimp only
        split
        case h_1 => exact .refl u
        case h_2 idle =>
          exact .inr ⟨a, axisStarts_startSession (fittedAxis?_some named) (manualRefusal_none refusal) idle⟩
        case h_3 => exact .refl u

end Sys2Proof.Proofs
end

section
/-! SUPPORT. The law of the axes' commands and fields over every step (02, 03). -/

open Sys2Proof Sys2Proof.Machine

namespace Sys2Proof.Proofs

/-! ### The two laws, axis by axis -/

theorem valveLaw_iff (s : State) : s.ValveLaw ↔
    ∀ a : Fin 4, s.valves[a].command = s.axes[a].c ∧ CommandLawful s.settings.axes[a] s.axes[a] := by
  refine forall_congr' fun a => and_congr_right fun _ => ⟨?_, ?_⟩
  · exact fun ⟨rest, staged, c_le, staged_le⟩ => ⟨rest, staged, c_le, staged_le⟩
  · exact fun ⟨rest, staged, c_le, staged_le⟩ => ⟨rest, staged, c_le, staged_le⟩

theorem axisLaw_iff (s : State) : s.AxisLaw ↔ ∀ a : Fin 4, FieldsLawful s.axes[a] := by
  refine forall_congr' fun a => ⟨?_, ?_⟩
  · exact fun ⟨direction, running, warning, motionTimer, stopOutcome, tripKind⟩ =>
      ⟨direction, running, warning, motionTimer, stopOutcome, tripKind⟩
  · exact fun ⟨direction, running, warning, motionTimer, stopOutcome, tripKind⟩ =>
      ⟨direction, running, warning, motionTimer, stopOutcome, tripKind⟩

theorem valveLaw_axesStep {s t : State} (law : s.ValveLaw) (h : AxesStep s t) : t.ValveLaw := by
  rw [valveLaw_iff] at law ⊢
  intro a
  obtain ⟨command, lawful⟩ := law a
  exact ⟨h.valves a command, h.settings ▸ (h.axes a).command lawful⟩

theorem axisLaw_axesStep {s t : State} (law : s.AxisLaw) (h : AxesStep s t) : t.AxisLaw :=
  (axisLaw_iff t).2 fun a => (h.axes a).fields ((axisLaw_iff s).1 law a)

theorem valveLaw_reads : Reads [.axisSettings, .axes, .valves] State.ValveLaw := by
  intro s t kept law
  refine valveLaw_axesStep law ⟨kept .axisSettings (by decide), fun a same => ?_,
    fun a => .of_alike (kept .axes (by decide) a)⟩
  rw [kept .valves (by decide) a, (kept .axes (by decide) a).c, same]

theorem axisLaw_reads : Reads [.axes] State.AxisLaw := by
  intro s t kept law
  rw [axisLaw_iff] at law ⊢
  exact fun a => (AxisStep.of_alike (set := s.settings.axes[a]) (kept .axes (by decide) a)).fields (law a)

theorem valveLaw_leaves {s t : State} (law : s.ValveLaw) (h : Leaves s t) : t.ValveLaw := by
  obtain ⟨steps, -⟩ | ⟨a, starts⟩ := h
  · exact valveLaw_axesStep law steps
  · have settings : t.settings.axes = s.settings.axes := starts.apart .axisSettings (by decide)
    rw [valveLaw_iff] at law ⊢
    intro b
    obtain ⟨command, lawful⟩ := law b
    by_cases at' : b = a
    · subst at'
      exact ⟨starts.valve command, settings ▸ starts.command lawful⟩
    · obtain ⟨axis, valve⟩ := starts.others b at'
      rw [settings, axis, valve]
      exact law b

theorem axisLaw_leaves {s t : State} (law : s.AxisLaw) (h : Leaves s t) : t.AxisLaw := by
  obtain ⟨steps, -⟩ | ⟨a, starts⟩ := h
  · exact axisLaw_axesStep law steps
  · rw [axisLaw_iff] at law ⊢
    intro b
    by_cases at' : b = a
    · subst at'
      exact starts.fields (law b)
    · rw [(starts.others b at').1]
      exact law b

/-! ### A write of an axis's settings (R17, R176) -/

/-- The state with other settings of an axis. -/
def withAxisSettings (s : State) (a : Fin 4) (x : AxisSettings) : State :=
  { s with settings := { s.settings with axes := s.settings.axes.set a x } }

theorem axesStep_unfitAxis (s : State) (a : Fin 4) : AxesStep s (s.unfitAxis a) := by
  unfold State.unfitAxis
  split
  · exact axesStep_clearTrip ‹_›
  · exact .refl s

theorem axesStep_rewriteAxis (s : State) (a : Fin 4) (x : AxisSettings) :
    AxesStep (withAxisSettings s a x) (s.rewriteAxis a x) := by
  have unfits : AxesStep (withAxisSettings s a x)
      (if s.settings.axes[a].fitted && !x.fitted then (withAxisSettings s a x).unfitAxis a
        else withAxisSettings s a x) := by
    split
    · exact axesStep_unfitAxis _ a
    · exact .refl _
  unfold State.rewriteAxis
  dsimp only
  split
  · exact unfits
  · exact unfits.quietly within_evalSensor

theorem atRest_of_axisBusy {s : State} {a : Fin 4} (free : s.axisBusy a = false) :
    s.axes[a].state = .idle ∨ s.axes[a].state = .tripped := by
  unfold State.axisBusy at free
  cases state : s.axes[a].state <;> rw [state] at free
  case idle => exact .inl rfl
  case tripped => exact .inr rfl
  all_goals exact absurd free nofun

theorem valveLaw_withAxisSettings {s : State} {a : Fin 4} {x : AxisSettings} (law : s.ValveLaw)
    (free : s.axisBusy a = false) : (withAxisSettings s a x).ValveLaw := by
  rw [valveLaw_iff] at law ⊢
  intro b
  obtain ⟨command, lawful⟩ := law b
  refine ⟨command, ?_⟩
  change CommandLawful (s.settings.axes.set a x)[b] s.axes[b]
  by_cases at' : b = a
  · subst at'
    have rest := atRest_of_axisBusy free
    have still : s.axes[b].c = 0 := lawful.rest (by tauto)
    have staged : s.axes[b].staged = 0 :=
      lawful.staged (by rcases rest with rest | rest <;> rw [rest] <;> exact nofun)
    exact ⟨fun _ => still, fun _ => staged, still ▸ Nat.zero_le _, staged ▸ Nat.zero_le _⟩
  · rw [set_others _ _ _ _ at']
    exact lawful

theorem both_some {α β : Type} {x : Option α} {y : Option β} {p : α × β} (h : both x y = some p) :
    x = some p.1 ∧ y = some p.2 := by
  unfold both at h
  split at h
  · obtain rfl := Option.some.inj h
    exact ⟨rfl, rfl⟩
  · exact absurd h nofun

/-! ### Every axis at rest -/

/-- A record in IDLE, as a reset leaves it (R45, R46). -/
structure Rested (x : AxisRecord) : Prop where
  idle : x.state = .idle
  c : x.c = 0
  staged : x.staged = 0
  fields : FieldsLawful x

/-- Axis `a` rests, its generator with it. -/
def RestsAt (a : Fin 4) (s : State) : Prop := Rested s.axes[a] ∧ s.valves[a].command = 0

theorem Rested.alike {x y : AxisRecord} (h : Rested x) (k : AxisAlike x y) : Rested y :=
  ⟨k.state.trans h.idle, k.c.trans h.c, k.staged.trans h.staged, h.fields.alike k⟩

theorem restsAt_reads (a : Fin 4) : Reads [.axes, .valves] (RestsAt a) := by
  intro s t kept law
  exact ⟨law.1.alike (kept .axes (by decide) a), (kept .valves (by decide) a).trans law.2⟩

theorem valveLaw_of_rest {s : State} (rest : ∀ a, RestsAt a s) : s.ValveLaw := by
  rw [valveLaw_iff]
  intro a
  obtain ⟨rested, command⟩ := rest a
  exact ⟨command.trans rested.c.symm, fun _ => rested.c, fun _ => rested.staged,
    rested.c ▸ Nat.zero_le _, rested.staged ▸ Nat.zero_le _⟩

theorem axisLaw_of_rest {s : State} (rest : ∀ a, RestsAt a s) : s.AxisLaw :=
  (axisLaw_iff s).2 fun a => (rest a).1.fields

/-- What each step of a fold over a bank makes of its item, and later steps keep, holds of every item. -/
theorem foldl_each {n : Nat} {f : State → Fin n → State} {P : Fin n → State → Prop}
    (makes : ∀ s i, P i (f s i)) (keeps : ∀ s i j, P i s → P i (f s j)) (s : State) (i : Fin n) :
    P i ((List.finRange n).foldl f s) := by
  have kept (js : List (Fin n)) (s : State) (h : P i s) : P i (js.foldl f s) := by
    induction js generalizing s with
    | nil => exact h
    | cons j js ih => exact ih _ (keeps s i j h)
  have made (js : List (Fin n)) (s : State) (h : i ∈ js) : P i (js.foldl f s) := by
    induction js generalizing s with
    | nil => exact absurd h List.not_mem_nil
    | cons j js ih =>
      obtain rfl | later := List.mem_cons.1 h
      · exact kept js _ (makes s i)
      · exact ih _ later
  exact made _ s (List.mem_finRange i)

/-- The record that the end of a motion leaves. -/
theorem endMotion_eq (s : State) (a : Fin 4) (o : MotionOutcome) :
    ∃ y : AxisRecord, y.running? = none ∧ y.c = s.axes[a].c ∧
      (s.endMotion a o).axes = s.axes.set a y ∧ (s.endMotion a o).valves = s.valves := by
  unfold State.endMotion
  cases runs : s.axes[a].running? with
  | none => exact ⟨_, runs, rfl, (Vector.set_getElem_self a.isLt).symm, rfl⟩
  | some m => exact ⟨{ s.axes[a] with motion := some (m.completed s.clock o) }, rfl, rfl, rfl, rfl⟩

theorem rested_reset {x : AxisRecord} (still : x.running? = none) (c : x.c = 0) : Rested x.reset := by
  have running : x.reset.running? = x.running? := rfl
  exact ⟨rfl, c, rfl, rfl, by rw [running, still]; rfl, rfl, rfl, rfl, rfl⟩

/-- One axis at a command reset rests, and the others stand. -/
theorem restsAt_resetAxis (s : State) (a b : Fin 4) (rests : b = a ∨ RestsAt b s) :
    RestsAt b (s.resetAxis a) := by
  obtain ⟨y, still, c, axes, valves⟩ := endMotion_eq (s.setC a 0) a .reset
  have record : (s.setC a 0).axes[a] = commanded s.axes[a] 0 := by
    rw [setC_eq]
    exact withAxis_axes_self _ _ _
  have set : (((s.setC a 0).endMotion a .reset).modAxis a AxisRecord.reset).axes =
      s.axes.set a y.reset := by
    rw [State.modAxis_axes, axes, setC_eq]
    simp [upd, State.withAxis]
  have generators : (((s.setC a 0).endMotion a .reset).modAxis a AxisRecord.reset).valves =
      s.valves.set a { s.valves[a] with command := 0 } := valves
  have rest : RestsAt b (((s.setC a 0).endMotion a .reset).modAxis a AxisRecord.reset) := by
    unfold RestsAt
    rw [set, generators]
    by_cases at' : b = a
    · subst at'
      have self := Vector.getElem_set_self (xs := s.axes) (x := y.reset) b.isLt
      have self' := Vector.getElem_set_self (xs := s.valves) (x := { s.valves[b] with command := 0 }) b.isLt
      refine ⟨?_, ?_⟩
      · rw [Fin.getElem_fin, self]
        exact rested_reset still (c.trans (by rw [record]; rfl))
      · rw [Fin.getElem_fin, self']
    · rw [set_others _ _ _ _ at', set_others _ _ _ _ at']
      exact rests.resolve_left at'
  have quiet : Within [] (((s.setC a 0).endMotion a .reset).modAxis a AxisRecord.reset)
      (s.resetAxis a) := by
    unfold State.resetAxis
    dsimp only
    exact (Within.ite .refl within_hand).quietly within_evalSensor
  exact (restsAt_reads b).within quiet rest (by simp)

/-- After a command reset every axis rests (R46). -/
theorem restsAt_commandReset (s : State) (a : Fin 4) : RestsAt a s.commandReset := by
  have axes := foldl_each (f := State.resetAxis) (P := RestsAt)
    (fun s i => restsAt_resetAxis s i i (.inl rfl)) (fun s i j h => restsAt_resetAxis s j i (.inr h))
    (s.dropOvertaken.reload.resetChannels (Image.loaded s.store.image)) a
  have blocks : RestsAt a s.resetBlocks := by
    unfold State.resetBlocks
    exact (restsAt_reads a).within (within_resetStation.then within_resetDoors
      |>.then within_dropOvertaken |>.then within_resetCalls |>.then within_resetAlarms
      |>.then within_resetSlots |>.then within_postAlarmZones |>.then within_hand) axes (by decide)
  exact (restsAt_reads a).within within_commandReset_links blocks (by decide)

theorem rested_powerOn : Rested .powerOn := ⟨rfl, rfl, rfl, rfl, rfl, rfl, rfl, rfl, rfl⟩

theorem restsAt_image (image : Image) (power : Power) (rest : List Instr) (a : Fin 4) :
    RestsAt a { State.powerOn image with power := power, pending := rest } := by
  have axis : (State.powerOn image).axes[a] = .powerOn := Vector.getElem_replicate a.isLt
  have valve : (State.powerOn image).valves[a] = .powerOn := Vector.getElem_replicate a.isLt
  refine ⟨?_, ?_⟩
  · change Rested (State.powerOn image).axes[a]
    rw [axis]
    exact rested_powerOn
  · change (State.powerOn image).valves[a].command = 0
    rw [valve]
    rfl

/-- At the end of the settings load every axis rests (R45). -/
theorem restsAt_start (s : State) (inputs : InputLevels) (doors : Vector DoorInputs 32) (a : Fin 4) :
    RestsAt a (s.start inputs doors) := by
  have axis : (s.takeLoad inputs doors).axes[a] = .powerOn := Vector.getElem_replicate a.isLt
  have valve : (s.takeLoad inputs doors).valves[a] = { Generator.powerOn with
      position := Config.frameTicks } := Vector.getElem_replicate a.isLt
  have loaded : RestsAt a (s.takeLoad inputs doors) := by
    unfold RestsAt
    rw [axis, valve]
    exact ⟨rested_powerOn, rfl⟩
  exact (restsAt_reads a).within within_startBlocks loaded (by decide)

/-! ### Every step -/

theorem valveLaw_command (i : Instr) (s t : State) (renew : renews i = false) (law : s.ValveLaw)
    (h : exec i s = .next t) : t.ValveLaw := by
  by_cases starts : startsAxis i = false
  · exact valveLaw_axesStep law (axesStep_exec renew starts h)
  by_cases leaves : leavesIdle i = true
  · obtain rfl | ⟨u, v, before, act, after⟩ := leaves_exec leaves h
    · exact law
    · exact valveLaw_reads.within after
        (valveLaw_leaves (valveLaw_reads.within before law (by simp)) act) (by simp)
  cases i <;> simp only [startsAxis, leavesIdle, not_true_eq_false] at starts leaves
  case settingsWriteAxis l tag index data =>
    change execSettingsWriteAxis l tag index data s = _ at h
    exact valveLaw_reads.runRequest h (fun u law => valveLaw_reads.settingsWrite law
      fun x free => valveLaw_axesStep (valveLaw_withAxisSettings law free) (axesStep_rewriteAxis u _ _)) law

theorem axisLaw_command (i : Instr) (s t : State) (renew : renews i = false) (law : s.AxisLaw)
    (h : exec i s = .next t) : t.AxisLaw := by
  by_cases starts : startsAxis i = false
  · exact axisLaw_axesStep law (axesStep_exec renew starts h)
  by_cases leaves : leavesIdle i = true
  · obtain rfl | ⟨u, v, before, act, after⟩ := leaves_exec leaves h
    · exact law
    · exact axisLaw_reads.within after
        (axisLaw_leaves (axisLaw_reads.within before law (by simp)) act) (by simp)
  cases i <;> simp only [startsAxis, leavesIdle, not_true_eq_false] at starts leaves
  case settingsWriteAxis l tag index data =>
    change execSettingsWriteAxis l tag index data s = _ at h
    refine axisLaw_reads.runRequest h (fun u law => axisLaw_reads.settingsWrite law fun x _ => ?_) law
    have written : (withAxisSettings u x.1 x.2).AxisLaw := law
    exact axisLaw_axesStep written (axesStep_rewriteAxis u _ _)

/-- Settles O54: the axes step on by laws of one axis, and rest after a reset. -/
theorem stepKeepsAxisLaws : Obligations.StepKeepsAxisLaws := by
  have valves := valveLaw_reads.commands (fun _ _ _ => valveLaw_of_rest (restsAt_image _ _ _))
    (fun _ _ _ _ => valveLaw_of_rest (restsAt_start _ _ _))
    (fun _ _ => valveLaw_of_rest (restsAt_commandReset _)) valveLaw_command
  have axes := axisLaw_reads.commands (fun _ _ _ => axisLaw_of_rest (restsAt_image _ _ _))
    (fun _ _ _ _ => axisLaw_of_rest (restsAt_start _ _ _))
    (fun _ _ => axisLaw_of_rest (restsAt_commandReset _)) axisLaw_command
  exact fun s t h => ⟨fun law => valveLaw_reads.step (by decide) valves law h,
    fun law => axisLaw_reads.step (by decide) axes law h⟩

end Sys2Proof.Proofs
end

section
/-! SUPPORT. The law of the station controller (04): authority, deck hold and service level. -/

open Sys2Proof Sys2Proof.Machine

namespace Sys2Proof.Proofs

/-! ### The parts of the law -/

/-- A pending request stands against a holder that is the other link (R70). -/
def AuthLawful (x : Authority) : Prop :=
  ∀ r : AuthorityRequest, x.request = some r → x.holder = some r.requester.other

/-- The hold status is NONE exactly while the claim set is empty (R77, R79). -/
def HoldLawful (x : Station) : Prop := x.held = false ↔ x.hold = .none

/-- The two links are not both at SERVICE (R80). -/
def LevelLawful (p : Pair Level) : Prop := ¬(p.bridge = .service ∧ p.localLink = .service)

/-- No link is at SERVICE with the key released, but while the notice of it is on its way (R81). -/
def KeyLawful (s : State) : Prop :=
  ∀ l : Link, s.station.level.get l = .service →
    s.inputs.levels.serviceKey = true ∨ .serviceKeyRelease ∈ s.handed

theorem stationLaw_iff (s : State) : s.StationLaw ↔ (∀ a : Fin 4, AuthLawful s.station.auth[a]) ∧
    LevelLawful s.station.level ∧ KeyLawful s ∧ HoldLawful s.station := Iff.rfl

theorem AuthLawful.alike {x y : Authority} (law : AuthLawful x) (holder : y.holder = x.holder)
    (requester : y.request.map (·.requester) = x.request.map (·.requester)) : AuthLawful y := by
  intro r pending
  rw [pending, Option.map_some] at requester
  cases before : x.request with
  | none =>
    rw [before] at requester
    exact absurd requester nofun
  | some q =>
    rw [before, Option.map_some] at requester
    rw [holder, law q before, Option.some.inj requester]

theorem authLawful_none {x : Authority} (none : x.request = none) : AuthLawful x :=
  fun _ pending => absurd (none.symm.trans pending) nofun

theorem keyLawful_level {s t : State} (law : KeyLawful s) (level : t.station.level = s.station.level)
    (inputs : t.inputs = s.inputs) (notices : KeepsNotices keyNotice s t) : KeyLawful t := by
  intro l service
  rw [level] at service
  exact (law l service).imp (fun key => inputs ▸ key) fun listed => notices _ listed rfl

theorem stationLaw_reads : Reads [.station, .inputs, .keyReleases] State.StationLaw := by
  intro s t kept law
  obtain ⟨auth, level, key, hold⟩ := law
  have station := kept .station (by decide)
  have held : t.station.held = s.station.held := by
    unfold Station.held
    rw [station.claims]
  refine ⟨fun a => AuthLawful.alike (auth a) (station.holder a) (station.requester a), ?_, ?_, ?_⟩
  · rwa [station.level]
  · exact keyLawful_level key station.level (kept .inputs (by decide)) (kept .keyReleases (by decide))
  · rwa [held, station.hold]

/-! ### Authority -/

theorem stationLaw_modAuth {s : State} {a : Fin 4} {f : Authority → Authority} (law : s.StationLaw)
    (lawful : AuthLawful (f s.station.auth[a])) : (s.modAuth a f).StationLaw := by
  obtain ⟨auth, level, key, hold⟩ := law
  refine ⟨fun b => ?_, level, key, hold⟩
  change AuthLawful (upd s.station.auth a f)[b]
  by_cases at' : b = a
  · subst at'
    rwa [upd_get_self]
  · rw [upd_get_other _ _ _ _ at']
    exact auth b

/-- What is not seen by the law. -/
theorem stationLaw_quietly {s t : State} (law : s.StationLaw) (h : Within [] s t) : t.StationLaw :=
  stationLaw_reads.within h law (by simp)

theorem stationLaw_passHolder {s : State} {a : Fin 4} {new : Option Link} {cause : StationCause}
    {reason : HolderReason} (law : s.StationLaw) : (s.passHolder a new cause reason).StationLaw :=
  stationLaw_quietly (stationLaw_modAuth law (authLawful_none rfl)) (within_report.then within_hand)

theorem stationLaw_answerRequest {s : State} {a : Fin 4} {l : Link} {answer : StationAnswer}
    (law : s.StationLaw) : (s.answerRequest a l answer).StationLaw :=
  stationLaw_quietly (stationLaw_modAuth law (authLawful_none rfl)) within_reportOn

theorem stationLaw_lossAtAxis {s : State} {l : Link} {a : Fin 4} (law : s.StationLaw) :
    (s.lossAtAxis l a).StationLaw := by
  unfold State.lossAtAxis
  split
  · exact law
  · split
    · exact stationLaw_passHolder law
    · exact law
  · split
    · exact stationLaw_passHolder law
    split
    · exact stationLaw_answerRequest law
    · exact law

theorem stationLaw_loseLink {s : State} (l : Link) (law : s.StationLaw) : (s.loseLink l).StationLaw := by
  have folded (as : List (Fin 4)) (s : State) (law : s.StationLaw) :
      (as.foldl (fun s a => s.lossAtAxis l a) s).StationLaw := by
    induction as generalizing s with
    | nil => exact law
    | cons a as ih => exact ih _ (stationLaw_lossAtAxis law)
  exact folded _ s law

theorem stationLaw_endLoss {s : State} (l : Link) (law : s.StationLaw) : (s.endLoss l).StationLaw := by
  unfold State.endLoss
  split
  · exact stationLaw_loseLink l (stationLaw_quietly law (within_taken_unread rfl rfl rfl rfl))
  · exact law

theorem stationLaw_takeAxis {s : State} {l : Link} {a : Fin 4} (law : s.StationLaw) :
    (s.takeAxis l a).1.StationLaw := by
  unfold State.takeAxis
  split
  · exact stationLaw_passHolder law
  split
  · exact stationLaw_passHolder law
  case h_2 h holder =>
  split
  · exact law
  split
  · exact law
  split
  · exact law
  case isFalse other _ _ =>
  refine stationLaw_quietly (stationLaw_modAuth law ?_) within_reportOn
  intro r pending
  obtain rfl := Option.some.inj pending
  change s.holder a = some l.other
  rw [holder]
  cases h <;> cases l <;> first | rfl | exact absurd rfl other

/-! ### Deck hold -/

/-- A station with other claims and another status. -/
theorem stationLaw_hold {s t : State} (law : s.StationLaw) {x : Station} (auth : x.auth = s.station.auth)
    (level : x.level = s.station.level) (hold : HoldLawful x)
    (quiet : Within [] { s with station := x } t) : t.StationLaw := by
  obtain ⟨authority, levels, key, -⟩ := law
  have set : { s with station := x }.StationLaw :=
    ⟨fun a => by
      change AuthLawful x.auth[a]
      rw [auth]
      exact authority a, by simpa only [level] using levels,
      keyLawful_level (s := s) key level rfl (KeepsNotices.refl _ s), hold⟩
  exact stationLaw_quietly set quiet

theorem holdLawful_of_held {x : Station} (held : x.held = true) (hold : x.hold ≠ .none) : HoldLawful x :=
  ⟨fun h => absurd (held.symm.trans h) nofun, fun h => absurd h hold⟩

theorem held_set_true (c : Pair Bool) (l : Link) (x : Station) (claims : x.claims = c.set l true) :
    x.held = true := by
  unfold Station.held
  rw [claims]
  cases l <;> simp [Pair.set]

theorem hold_ne_none {x : Station} (law : HoldLawful x) (held : x.held = true) : x.hold ≠ .none :=
  fun h => absurd ((law.2 h).symm.trans held) nofun

theorem stationLaw_setHold {s : State} {h : HoldStatus}
    (law : (∀ a : Fin 4, AuthLawful s.station.auth[a]) ∧ LevelLawful s.station.level ∧ KeyLawful s)
    (lawful : HoldLawful { s.station with hold := h }) : (s.setHold h).StationLaw := by
  obtain ⟨auth, level, key⟩ := law
  have set : { s with station := { s.station with hold := h } }.StationLaw := ⟨auth, level, key, lawful⟩
  exact stationLaw_quietly set within_hand

theorem stationLaw_claim {s : State} (l : Link) (law : s.StationLaw) : (s.claim l).StationLaw := by
  obtain ⟨-, -, -, hold⟩ := id law
  have held : ({ s.station with claims := s.station.claims.set l true } : Station).held = true :=
    held_set_true _ l _ rfl
  unfold State.claim
  dsimp only
  split
  case isTrue before =>
    exact stationLaw_hold law (x := { s.station with claims := s.station.claims.set l true }) rfl rfl
      (holdLawful_of_held held (hold_ne_none (x := s.station) hold before)) within_reportClaims
  case isFalse =>
    have claimed (h : HoldStatus) (apart : h ≠ .none) :
        (((s.setClaims (s.station.claims.set l true)).hearAxes.hand
          ((List.finRange 4).map Instr.deckHoldNotice)).setHold h).StationLaw := by
      have heard : Within [] (s.setClaims (s.station.claims.set l true))
          ((s.setClaims (s.station.claims.set l true)).hearAxes.hand
            ((List.finRange 4).map Instr.deckHoldNotice)) := within_hearAxes.then within_hand
      obtain ⟨auth, levels, keys, -⟩ := law
      refine stationLaw_setHold ?_ (holdLawful_of_held (held_set_true s.station.claims l _ ?_) apart)
      · exact ⟨fun a => AuthLawful.alike (auth a) ((heard .station List.not_mem_nil).holder a)
          ((heard .station List.not_mem_nil).requester a), by
            rw [(heard .station List.not_mem_nil).level]; exact levels,
          keyLawful_level (s := s) keys (heard .station List.not_mem_nil).level
            (heard .inputs List.not_mem_nil) (heard .keyReleases List.not_mem_nil)⟩
      · exact (heard .station List.not_mem_nil).claims
    split
    · exact stationLaw_quietly (claimed .pending nofun) within_reportClaims
    · exact stationLaw_quietly (claimed .established nofun) (within_reportClaims.then within_report)

theorem stationLaw_resume {s : State} (l : Link) (both : Bool) (law : s.StationLaw) :
    (s.resume l both).StationLaw := by
  obtain ⟨-, -, -, hold⟩ := id law
  unfold State.resume
  dsimp only
  split
  · exact law
  case isFalse changes =>
  have before : s.station.held = true := by
    unfold resumed at changes
    unfold Station.held
    cases bridge : s.station.claims.bridge <;> cases localLink : s.station.claims.localLink <;> try rfl
    have none : s.station.claims = ⟨false, false⟩ := (congrArg₂ Pair.mk bridge localLink :)
    rw [none] at changes
    cases l <;> cases both <;> exact absurd rfl changes
  split
  case isTrue held =>
    exact stationLaw_hold law (x := { s.station with claims := resumed s.station.claims l both }) rfl rfl
      (holdLawful_of_held held (hold_ne_none (x := s.station) hold before)) within_reportClaims
  case isFalse free =>
    exact stationLaw_hold law (x := { s.station with
        claims := resumed s.station.claims l both, hold := .none }) rfl rfl
      ⟨fun _ => rfl, fun _ => Bool.eq_false_iff.2 free⟩ (within_hand.then within_reportClaims)

theorem stationLaw_sees {s : State} (a : Fin 4) (new : AxisState) (law : s.StationLaw) :
    { s with station := s.station.sees a new }.StationLaw :=
  stationLaw_hold law (x := s.station.sees a new) rfl rfl law.2.2.2 .refl

/-! ### Service level (R80, R81) -/

/-- A station with other levels. -/
theorem stationLaw_level {s t : State} (law : s.StationLaw) {p : Pair Level} (level : LevelLawful p)
    (key : ∀ l : Link, p.get l = .service → s.station.level.get l = .service)
    (quiet : Within [] { s with station := { s.station with level := p } } t) : t.StationLaw := by
  obtain ⟨authority, -, keys, hold⟩ := law
  have set : { s with station := { s.station with level := p } }.StationLaw :=
    ⟨authority, level, fun l service => keys l (key l service), hold⟩
  exact stationLaw_quietly set quiet

theorem fallLevel_station (s : State) (l : Link) (cause : LevelCause) :
    (s.fallLevel l cause).station = { s.station with level := s.station.level.set l .operate } := by
  unfold State.fallLevel
  rw [State.hand_station, State.report_station]

theorem levelLawful_set_operate (p : Pair Level) (l : Link) : LevelLawful (p.set l .operate) := by
  cases l <;> simp [LevelLawful, Pair.set]

theorem stationLaw_fallLevel {s : State} (l : Link) (cause : LevelCause) (law : s.StationLaw) :
    (s.fallLevel l cause).StationLaw := by
  refine stationLaw_level law (levelLawful_set_operate _ l) (fun m service => ?_)
    (within_report.then within_hand)
  by_cases same : m = l
  · subst same
    rw [pair_get_set_self] at service
    exact absurd service nofun
  · rwa [pair_get_set_other _ _ _ _ same] at service

theorem stationLaw_dropLevel {s : State} (l : Link) (cause : LevelCause) (law : s.StationLaw) :
    (s.dropLevel l cause).StationLaw := by
  unfold State.dropLevel
  split
  · exact stationLaw_fallLevel l cause law
  · exact law

/-- With the key asserted no notice of its release is asked for. -/
theorem stationLaw_raiseLevel {s : State} (l : Link) (law : s.StationLaw)
    (key : s.inputs.levels.serviceKey = true) (other : s.atService l.other = false) :
    (s.raiseLevel l).StationLaw := by
  obtain ⟨authority, -, -, hold⟩ := law
  have raised : ({ s.takenFirst keyNotice with
      station := { s.station with level := s.station.level.set l .service } } : State).StationLaw := by
    refine ⟨authority, ?_, fun _ _ => .inl key, hold⟩
    rintro ⟨bridge, localLink⟩
    unfold State.atService at other
    have free := of_decide_eq_false other
    cases l
    · exact free localLink
    · exact free bridge
  exact stationLaw_quietly raised within_report

theorem dropLevel_operates (s : State) (l m : Link) (cause : LevelCause)
    (h : l = m ∨ s.station.level.get m ≠ .service) :
    (s.dropLevel l cause).station.level.get m ≠ .service := by
  unfold State.dropLevel
  split
  case isTrue =>
    rw [fallLevel_station]
    by_cases same : m = l
    · subst same
      rw [pair_get_set_self]
      exact nofun
    · rw [pair_get_set_other _ _ _ _ same]
      exact h.resolve_left (Ne.symm same)
  case isFalse operates =>
    rcases h with rfl | h
    · exact fun service => operates (decide_eq_true service)
    · exact h

/-! ### Every step -/

theorem stationLaw_sampleInput {s : State} (x : Input) (b : Bool) (law : s.StationLaw) :
    (s.sampleInput x b).StationLaw := by
  obtain ⟨auth, level, key, hold⟩ := law
  have sampled (notices : List Instr) (key' : KeyLawful
      (({ s with inputs := s.inputs.sample x b } : State).hand notices)) :
      (({ s with inputs := s.inputs.sample x b } : State).hand notices).StationLaw :=
    ⟨auth, level, key', hold⟩
  have stays (notices : List Instr)
      (same : (s.inputs.sample x b).levels.serviceKey = s.inputs.levels.serviceKey) :
      KeyLawful (({ s with inputs := s.inputs.sample x b } : State).hand notices) := fun l service =>
    (key l service).imp (fun asserted => same.trans asserted) fun listed => List.mem_append_left _ listed
  unfold State.sampleInput
  dsimp only
  split
  case isTrue same =>
    have quiet := sampled [] (stays [] ?_)
    · exact stationLaw_reads _ _ (fun p _ => by
        have kept := Part.Kept.refl p ({ s with inputs := s.inputs.sample x b } : State)
        simpa [State.hand] using kept) quiet
    · cases x <;> first | rfl | exact same
  case isFalse changes =>
    refine sampled _ ?_
    by_cases other : x = .serviceKey
    · subst other
      cases b
      · exact fun l _ => .inr (List.mem_append_right _ (List.mem_singleton_self _))
      · refine fun l _ => .inl ?_
        change debounce s.inputs.levels.serviceKey s.inputs.last.serviceKey true = true
        change ¬debounce s.inputs.levels.serviceKey s.inputs.last.serviceKey true =
          s.inputs.levels.serviceKey at changes
        unfold debounce at changes ⊢
        split
        · rfl
        · rw [if_neg ‹_›] at changes
          exact absurd rfl changes
    · exact stays _ (by cases x <;> first | rfl | exact absurd rfl other)

theorem stationLaw_supervise {s : State} (l : Link) (law : s.StationLaw) : (s.supervise l).StationLaw := by
  have fed := stationLaw_reads.within (within_modLink (l := l) (f := fun c =>
    { c with state := .up, timer := some (s.settings.supervision.get l) })) (stationLaw_endLoss l law)
    (by decide)
  unfold State.supervise
  dsimp only
  split
  · exact stationLaw_quietly fed within_hand
  · exact fed

theorem stationLaw_completeFrame {s : State} (l : Link) (f : Frame) (crc : BitVec 16)
    (law : s.StationLaw) : (s.completeFrame l f crc).StationLaw := by
  have hunting : (s.modLink l (·.hunt)).StationLaw := stationLaw_reads.within within_modLink law (by decide)
  unfold State.completeFrame
  dsimp only
  split
  · exact stationLaw_reads.within within_acceptFrame
      (stationLaw_supervise l (stationLaw_quietly hunting within_countLink)) (by decide)
  · exact stationLaw_quietly hunting within_countLink

theorem stationLaw_restartLink {s : State} (l : Link) (law : s.StationLaw) :
    (s.restartLink l).StationLaw := by
  have cleared : (s.modLink l (·.restarted l)).StationLaw :=
    stationLaw_reads.within within_modLink law (by decide)
  refine stationLaw_dropLevel l _ ?_
  split
  · exact stationLaw_quietly cleared within_hand
  · exact cleared

theorem stationLaw_answering {s : State} {l : Link} {axis : Nat}
    {f : Fin 4 → AuthorityRequest → State × ReplyData} (law : s.StationLaw)
    (act : ∀ a r, (f a r).1.StationLaw) : (s.answering l axis f).1.StationLaw := by
  unfold State.answering
  cases s.fittedAxis? axis with
  | none => exact law
  | some a =>
    dsimp only
    split
    · exact law
    · split
      · exact law
      · exact act _ _

/-- The law of a station but for the key. -/
def KeylessLawful (x : Station) : Prop :=
  (∀ a : Fin 4, AuthLawful x.auth[a]) ∧ LevelLawful x.level ∧ HoldLawful x

theorem stationLaw_command (i : Instr) (s t : State) (renew : renews i = false) (law : s.StationLaw)
    (h : exec i s = .next t) : t.StationLaw := by
  have taken {i : Instr} (other : keyNotice i = false) {s : State} (law : s.StationLaw) :
      (s.taken i).StationLaw := by
    refine stationLaw_reads s (s.taken i) (fun p hp => ?_) law
    simp only [List.mem_cons, List.not_mem_nil, or_false] at hp
    rcases hp with rfl | rfl | rfl
    · exact StationAlike.refl _
    · rfl
    · exact keepsNotices_taken s other
  have event {i : Instr} {f : State → State} (other : keyNotice i = false)
      (h : runEvent i s f = .next t) (act : ∀ u, u.StationLaw → (f u).StationLaw) : t.StationLaw :=
    stationLaw_reads.runEvent_taken h (act _ (taken other law)) law
  have request {i : Instr} {l : Link} {tag : Byte} {f : State → State × ReplyData}
      (h : runRequest i l tag s f = .next t) (act : ∀ u, u.StationLaw → (f u).1.StationLaw) :
      t.StationLaw := stationLaw_reads.runRequest h act law
  by_cases key : i = .serviceKeyRelease
  · subst key
    change execServiceKeyRelease s = _ at h
    refine stationLaw_reads.runEvent_taken h ?_ law
    obtain ⟨auth, levels, -, hold⟩ := law
    have falls (u : State) (l : Link) (lawful : KeylessLawful u.station) :
        KeylessLawful (u.dropLevel l .keyReleased).station := by
      unfold State.dropLevel
      split
      · rw [fallLevel_station]
        exact ⟨lawful.1, levelLawful_set_operate _ l, lawful.2.2⟩
      · exact lawful
    have fallen := falls _ .localLink (falls (s.taken .serviceKeyRelease) .bridge ⟨auth, levels, hold⟩)
    refine ⟨fallen.1, fallen.2.1, fun l service => ?_, fallen.2.2⟩
    refine absurd service (dropLevel_operates _ _ _ _ ?_)
    cases l
    · exact .inr (dropLevel_operates _ _ _ _ (.inl rfl))
    · exact .inl rfl
  have other : keyNotice i = false := by
    cases i <;> first | rfl | exact absurd rfl key
  by_cases apart : ∀ p ∈ [Part.station, .inputs, .keyReleases], p ∉ touched i
  · exact stationLaw_reads.exec_taken law (taken other law) h apart
  cases i <;> simp only [touched, List.mem_cons, List.not_mem_nil, reduceCtorEq, or_false, or_true,
    not_true_eq_false, not_false_eq_true, forall_eq_or_imp, forall_eq, and_true, and_false, or_self,
    implies_true, and_self] at apart
  case discreteInputChange x samples =>
    change execDiscreteInputChange x samples s = _ at h
    refine event rfl h fun u law => ?_
    have folded (bs : List Bool) (u : State) (law : u.StationLaw) :
        (bs.foldl (fun s b => s.sampleInput x b) u).StationLaw := by
      induction bs generalizing u with
      | nil => exact law
      | cons b bs ih => exact ih _ (stationLaw_sampleInput x b law)
    exact folded samples u law
  case axisStateChangeSeen a new =>
    change execAxisStateChangeSeen a new s = _ at h
    refine event rfl h fun u law => ?_
    have seen := stationLaw_sees a new law
    dsimp only
    split
    case isTrue ends =>
      obtain ⟨auth, level, key, hold⟩ := id seen
      refine stationLaw_quietly (stationLaw_setHold ⟨auth, level, key⟩ ?_) within_report
      refine holdLawful_of_held ?_ nofun
      change u.station.held = true
      by_contra free
      have none : u.station.hold = .none := law.2.2.2.1 (Bool.eq_false_iff.2 free)
      have pending : u.station.hold = .pending := ends.1
      exact absurd (none.symm.trans pending) nofun
    case isFalse => exact seen
  case deadlineExpiry a =>
    change execDeadlineExpiry a s = _ at h
    refine event rfl h fun u law => ?_
    split
    · exact law
    · exact stationLaw_answerRequest law
  case stationLinkLoss l =>
    change execStationLinkLoss l s = _ at h
    exact event rfl h fun u law => stationLaw_loseLink l law
  case byteReceived l b =>
    change execByteReceived l b s = _ at h
    refine event rfl h fun u law => ?_
    have links {f : LinkController → LinkController} : (u.modLink l f).StationLaw :=
      stationLaw_reads.within within_modLink law (by decide)
    have discards : (u.discardFrame l).StationLaw :=
      stationLaw_reads.within within_discardFrame law (by decide)
    split
    · split
      · exact links
      · exact law
    · split
      · exact links
      · exact discards
    · unfold State.bodyByte
      split
      · exact links
      · exact stationLaw_completeFrame l _ _ law
  case frameComplete l kind tag payload crc =>
    change execFrameComplete l kind tag payload crc s = _ at h
    exact event rfl h fun u law => stationLaw_completeFrame l _ _ law
  case receiveBreak l =>
    change execReceiveBreak l s = _ at h
    exact event rfl h fun u law => stationLaw_restartLink l law
  case linkRestart l tag =>
    change execLinkRestart l tag s = _ at h
    exact request h fun u law => stationLaw_restartLink l law
  case takeStation l tag axis =>
    change execTakeStation l tag axis s = _ at h
    refine request h fun u law => ?_
    cases u.fittedAxis? axis with
    | none => exact law
    | some a => exact stationLaw_takeAxis law
  case yieldStation l tag axis =>
    change execYieldStation l tag axis s = _ at h
    exact request h fun u law => stationLaw_answering law fun a r => stationLaw_passHolder law
  case refuseStation l tag axis =>
    change execRefuseStation l tag axis s = _ at h
    exact request h fun u law => stationLaw_answering law fun a r => stationLaw_answerRequest law
  case deckHold l tag =>
    change execDeckHold l tag s = _ at h
    refine request h fun u law => ?_
    dsimp only
    rw [done_fst]
    split
    · exact law
    · exact stationLaw_claim l law
  case deckResume l tag both =>
    change execDeckResume l tag both s = _ at h
    refine request h fun u law => ?_
    cases boolOfCode both with
    | none => exact law
    | some b =>
      dsimp only
      split
      · exact law
      · exact stationLaw_resume l b law
  case serviceEnter l tag =>
    change execServiceEnter l tag s = _ at h
    refine request h fun u law => ?_
    split
    · exact law
    split
    case isTrue enters =>
      obtain ⟨key, free⟩ := Bool.and_eq_true_iff.1 enters
      exact stationLaw_raiseLevel l law key (by simpa using free)
    case isFalse => exact law
  case serviceLeave l tag =>
    change execServiceLeave l tag s = _ at h
    exact request h fun u law => stationLaw_dropLevel l _ law
  case serviceKeyRelease => exact absurd rfl key
  all_goals exact absurd renew nofun

/-- A station as a reset leaves it: no request, no claim and no level (R83). -/
def StationRests (s : State) : Prop := StationAlike .powerOn s.station

theorem stationRests_reads : Reads [.station] StationRests :=
  fun _ _ kept law => StationAlike.trans law (kept .station (List.mem_singleton_self _))

theorem stationLaw_of_rests {s : State} (law : StationRests s) : s.StationLaw := by
  refine ⟨fun a r pending => ?_, ?_, fun l service => ?_, ?_⟩
  · have none : Station.powerOn.auth[a] = ⟨none, none⟩ := Vector.getElem_replicate a.isLt
    have requester := law.requester a
    rw [none, pending] at requester
    exact absurd requester nofun
  · rw [law.level]
    decide
  · rw [law.level] at service
    cases l <;> exact absurd service (by decide)
  · unfold Station.held
    rw [law.claims, law.hold]
    decide

theorem stationLaw_start (s : State) (inputs : InputLevels) (doors : Vector DoorInputs 32) :
    (s.start inputs doors).StationLaw := by
  have loaded : StationRests (s.takeLoad inputs doors) := StationAlike.refl _
  exact stationLaw_of_rests (stationRests_reads.within within_startBlocks loaded (by decide))

theorem stationRests_resetStation (s : State) : StationRests s.resetStation := by
  have set : StationRests { s with station := .powerOn } := StationAlike.refl _
  unfold State.resetStation
  dsimp only
  split
  · exact set
  · exact stationRests_reads.within within_hand set (by simp)

theorem stationRests_commandReset (s : State) : StationRests s.commandReset := by
  have blocks : StationRests s.resetBlocks := by
    unfold State.resetBlocks
    exact stationRests_reads.within (within_resetDoors.then within_dropOvertaken |>.then within_resetCalls
      |>.then within_resetAlarms |>.then within_resetSlots |>.then within_postAlarmZones
      |>.then within_hand) (stationRests_resetStation _) (by decide)
  exact stationRests_reads.within within_commandReset_links blocks (by decide)

theorem stationLaw_step {s t : State} (law : s.StationLaw) (h : step s = .next t) : t.StationLaw :=
  stationLaw_reads.step (by decide) (stationLaw_reads.commands
    (fun _ _ _ => stationLaw_of_rests (StationAlike.refl _)) (fun _ _ _ _ => stationLaw_start _ _ _)
    (fun _ _ => stationLaw_of_rests (stationRests_commandReset _)) stationLaw_command) law h

end Sys2Proof.Proofs
end

section
/-! SUPPORT. The law of motion (02): an active axis is fitted, has its authority and stands in no STOP line,
but while the notice that ends it is on its way. -/

open Sys2Proof Sys2Proof.Machine

namespace Sys2Proof.Proofs

/-! ### The law of one axis -/

/-- A notice of a change of holder of the axis is on its way. -/
def HolderOnWay (s : State) (a : Fin 4) : Prop := ∃ r, .holderChange a r ∈ s.handed

/-- What the law asks of an axis. -/
def MotionLawful (s : State) (a : Fin 4) : Prop :=
  s.axes[a].state.active = true →
    s.settings.axes[a].fitted = true ∧
    (s.alarms.stop = true → .stopLineChange a true ∈ s.handed) ∧
    (s.axes[a].state ≠ .stopping → s.axes[a].state ≠ .manual →
      (∃ l, s.holder a = some l ∧ (s.axes[a].state = .jogging → l = .localLink)) ∨ HolderOnWay s a)

theorem motionLaw_iff (s : State) : s.MotionLaw ↔ ∀ a, MotionLawful s a := Iff.rfl

/-- The STOP line as it stands and the notices of it for axis `a`. -/
structure StopTold (a : Fin 4) (s t : State) : Prop where
  line : t.alarms.stop = true → s.alarms.stop = true ∨ .stopLineChange a true ∈ t.handed
  kept : .stopLineChange a true ∈ s.handed → .stopLineChange a true ∈ t.handed

/-- The holder as it stands and the notices of it for axis `a`. -/
structure HolderTold (a : Fin 4) (s t : State) : Prop where
  holder : t.holder a = s.holder a ∨ HolderOnWay t a
  kept : HolderOnWay s a → HolderOnWay t a

/-- An axis that goes on in its motion keeps the law where it has been told of the STOP line and of its
holder. -/
theorem MotionLawful.goes {s t : State} {a : Fin 4} (law : MotionLawful s a)
    (goes : GoesOn s.axes[a].state t.axes[a].state)
    (fitted : t.settings.axes[a].fitted = s.settings.axes[a].fitted) (stop : StopTold a s t)
    (holder : HolderTold a s t) : MotionLawful t a := by
  intro active
  obtain ⟨before, motion⟩ := goes active
  obtain ⟨wasFitted, line, authority⟩ := law before
  refine ⟨fitted.trans wasFitted, fun asserted => ?_, fun moving session => ?_⟩
  · exact (stop.line asserted).elim (fun was => stop.kept (line was)) id
  · obtain ⟨moved, wasSession, jogging⟩ := motion moving session
    rcases authority moved wasSession with ⟨l, held, byLocal⟩ | onWay
    · exact holder.holder.imp (fun same => ⟨l, same.trans held, fun jogs => byLocal (jogging jogs)⟩) id
    · exact .inr (holder.kept onWay)

/-- An axis at rest keeps the law. -/
theorem MotionLawful.rest {s : State} {a : Fin 4} (rest : s.axes[a].state.active = false) :
    MotionLawful s a := fun active => absurd (rest.symm.trans active) nofun

theorem StopTold.refl (a : Fin 4) (s : State) : StopTold a s s := ⟨.inl, id⟩

theorem StopTold.trans {a : Fin 4} {s t u : State} (h : StopTold a s t) (k : StopTold a t u) :
    StopTold a s u where
  line asserted := (k.line asserted).elim (fun was => (h.line was).imp id k.kept) .inr
  kept := k.kept ∘ h.kept

theorem HolderTold.refl (a : Fin 4) (s : State) : HolderTold a s s := ⟨.inl rfl, id⟩

theorem HolderTold.trans {a : Fin 4} {s t u : State} (h : HolderTold a s t) (k : HolderTold a t u) :
    HolderTold a s u where
  holder := by
    rcases k.holder with same | told
    · exact h.holder.imp (fun before => same.trans before) k.kept
    · exact .inr told
  kept := k.kept ∘ h.kept

theorem HolderTold.foldl {α : Type} {f : State → α → State} {a : Fin 4}
    (h : ∀ s x, HolderTold a s (f s x)) (s : State) (xs : List α) : HolderTold a s (xs.foldl f s) := by
  induction xs generalizing s with
  | nil => exact .refl a s
  | cons x xs ih => exact (h s x).trans (ih _)

theorem Within.stopTold {ps : List Part} {s t : State} (h : Within ps s t)
    (apart : ∀ p ∈ [Part.alarms, .stopNotices], p ∉ ps) (a : Fin 4) : StopTold a s t where
  line asserted := .inl ((h .alarms (apart _ (by decide))).2.2.2 ▸ asserted)
  kept listed := h .stopNotices (apart _ (by decide)) _ listed rfl

theorem Within.holderTold {ps : List Part} {s t : State} (h : Within ps s t)
    (apart : ∀ p ∈ [Part.station, .holderNotices], p ∉ ps) (a : Fin 4) : HolderTold a s t where
  holder := .inl ((h .station (apart _ (by decide))).holder a)
  kept := fun ⟨r, listed⟩ => ⟨r, h .holderNotices (apart _ (by decide)) _ listed rfl⟩

theorem motionLaw_reads : Reads [.axisSettings, .axes, .alarms, .station, .stopNotices, .holderNotices]
    State.MotionLaw := by
  intro s t kept law a
  have alike := kept .axes (by decide) a
  have settings : t.settings.axes = s.settings.axes := kept .axisSettings (by decide)
  have lawful : MotionLawful s a := law a
  refine lawful.goes (by rw [alike.state]; exact .refl _) (by rw [settings]) ⟨?_, ?_⟩ ⟨?_, ?_⟩
  · exact fun asserted => .inl ((kept .alarms (by decide)).2.2.2 ▸ asserted)
  · exact fun listed => kept .stopNotices (by decide) _ listed rfl
  · exact .inl ((kept .station (by decide)).holder a)
  · exact fun ⟨r, listed⟩ => ⟨r, kept .holderNotices (by decide) _ listed rfl⟩

/-! ### The STOP line is told (R158) -/

theorem stopTold_evalLines (s : State) (a : Fin 4) : StopTold a s s.evalLines := by
  have level : Within [.alarms] s (s.setAlarmLine s.alarmNow) := within_setAlarmLine
  unfold State.evalLines
  extract_lets t u v
  have lines : Within [.alarms] s u := (level.then within_setStopLine).mono (by decide)
  have kept (n : Instr) (stop : isStopNotice n = true) (listed : n ∈ s.handed) : n ∈ u.handed :=
    lines .stopNotices (by decide) n listed stop
  have told : StopTold a s v := by
    by_cases same : u.alarms.stop = s.alarms.stop
    · have stays : v = u := if_pos same
      rw [stays]
      exact ⟨fun asserted => .inl (same ▸ asserted), kept _ rfl⟩
    · have hands : v = u.hand ((List.finRange 4).map fun a => .stopLineChange a u.alarms.stop) :=
        if_neg same
      rw [hands]
      refine ⟨fun asserted => .inr (List.mem_append_right _ ?_),
        fun listed => List.mem_append_left _ (kept _ rfl listed)⟩
      have on : u.alarms.stop = true := asserted
      rw [on]
      exact List.mem_map.2 ⟨a, List.mem_finRange a, rfl⟩
  split
  · exact told
  · exact told.trans (within_driveFollowers.stopTold (by simp) a)

/-- An alarm list and flags that change leave the STOP line to the evaluation after them. -/
theorem stopTold_changeEntry (s : State) (code : Fin 60) (new : Option AlarmEntry) (cause : AlarmCause)
    (a : Fin 4) : StopTold a s (s.changeEntry code new cause) := by
  unfold State.changeEntry
  dsimp only
  split
  · exact .refl a s
  · have set : StopTold a s { s with alarms := { s.alarms with list := putEntry s.alarms.list code new } } :=
      ⟨.inl, id⟩
    exact set.trans (within_report.stopTold (by simp) a)

theorem stopTold_setFlag (s : State) (src : CondSource) (active : Bool) (a : Fin 4) :
    StopTold a s (s.setFlag src active) := by
  unfold State.setFlag
  dsimp only
  split
  · exact .refl a s
  · have set : StopTold a s { s with alarms := { s.alarms with
        flags := s.alarms.flags.set src.code active } } := ⟨.inl, id⟩
    exact (set.trans (stopTold_changeEntry _ _ _ _ a)).trans (stopTold_evalLines _ a)

theorem stopTold_raiseMomentary (s : State) (src : MomentarySource) (a : Fin 4) :
    StopTold a s (s.raiseMomentary src) :=
  (stopTold_changeEntry _ _ _ _ a).trans (stopTold_evalLines _ a)

theorem stopTold_ackEntries (s : State) (codes : List (Fin 60)) (a : Fin 4) :
    StopTold a s (s.ackEntries codes) := by
  have acked : StopTold a s (codes.foldl State.ackEntry s) := by
    induction codes generalizing s with
    | nil => exact .refl a s
    | cons c cs ih => exact (stopTold_changeEntry s _ _ _ a).trans (ih _)
  exact acked.trans (stopTold_evalLines _ a)

/-! ### A change of holder is told (R69) -/

theorem holderTold_passHolder (s : State) (a b : Fin 4) (new : Option Link) (cause : StationCause)
    (reason : HolderReason) : HolderTold b s (s.passHolder a new cause reason) := by
  have kept : ∀ n ∈ s.handed, n ∈ (s.passHolder a new cause reason).handed := by
    intro n listed
    unfold State.passHolder
    rw [State.hand_handed, State.report_handed]
    exact List.mem_append_left _ listed
  refine ⟨?_, fun ⟨r, listed⟩ => ⟨r, kept _ listed⟩⟩
  by_cases at' : b = a
  · subst at'
    exact .inr ⟨reason, List.mem_append_right _ (List.mem_singleton_self _)⟩
  · refine .inl ?_
    have station : (s.passHolder a new cause reason).station = (s.modAuth a fun _ => ⟨new, none⟩).station := by
      unfold State.passHolder
      rw [State.hand_station, State.report_station]
    unfold State.holder
    rw [station]
    exact congrArg Authority.holder (upd_get_other _ _ _ _ at')

theorem holderTold_answerRequest (s : State) (a b : Fin 4) (l : Link) (answer : StationAnswer) :
    HolderTold b s (s.answerRequest a l answer) := by
  have freed : HolderTold b s (s.modAuth a fun x => { x with request := none }) := by
    refine ⟨.inl ?_, id⟩
    change (upd s.station.auth a _)[b].holder = s.station.auth[b].holder
    by_cases at' : b = a
    · subst at'
      rw [upd_get_self]
    · rw [upd_get_other _ _ _ _ at']
  exact freed.trans (within_reportOn.holderTold (by simp) b)

theorem holderTold_requestStation (s : State) (l h : Link) (a b : Fin 4) :
    HolderTold b s (s.requestStation l h a) := by
  have recorded : HolderTold b s (s.modAuth a fun x =>
      { x with request := some ⟨l, s.clock, Config.stationDeadline⟩ }) := by
    refine ⟨.inl ?_, id⟩
    change (upd s.station.auth a _)[b].holder = s.station.auth[b].holder
    by_cases at' : b = a
    · subst at'
      rw [upd_get_self]
    · rw [upd_get_other _ _ _ _ at']
  exact recorded.trans (within_reportOn.holderTold (by simp) b)

theorem holderTold_loseLink (s : State) (l : Link) (b : Fin 4) : HolderTold b s (s.loseLink l) := by
  refine .foldl (fun s a => ?_) s _
  unfold State.lossAtAxis
  split
  · exact .refl b s
  · split
    · exact holderTold_passHolder _ _ _ _ _ _
    · exact .refl b s
  · split
    · exact holderTold_passHolder _ _ _ _ _ _
    split
    · exact holderTold_answerRequest _ _ _ _ _
    · exact .refl b s

theorem holderTold_supervise (s : State) (l : Link) (b : Fin 4) : HolderTold b s (s.supervise l) := by
  have ended : HolderTold b s (s.endLoss l) := by
    unfold State.endLoss
    split
    · exact ((within_taken_unread rfl rfl rfl rfl).holderTold (by simp) b).trans
        (holderTold_loseLink _ l b)
    · exact .refl b s
  have fed := ended.trans ((within_modLink (l := l) (f := fun c =>
    { c with state := .up, timer := some (s.settings.supervision.get l) })).holderTold (by decide) b)
  unfold State.supervise
  dsimp only
  split
  · exact fed.trans (within_hand.holderTold (by simp) b)
  · exact fed

theorem holderTold_completeFrame (s : State) (l : Link) (f : Frame) (crc : BitVec 16) (b : Fin 4) :
    HolderTold b s (s.completeFrame l f crc) := by
  have hunting : HolderTold b s (s.modLink l (·.hunt)) := within_modLink.holderTold (by decide) b
  unfold State.completeFrame
  dsimp only
  split
  · exact ((hunting.trans (within_countLink.holderTold (by simp) b)).trans
      (holderTold_supervise _ l b)).trans (within_acceptFrame.holderTold (by decide) b)
  · exact hunting.trans (within_countLink.holderTold (by simp) b)

/-- A station with other claims, status and levels. -/
theorem holderTold_of_auth {s t : State} (auth : t.station.auth = s.station.auth)
    (kept : ∀ n ∈ s.handed, n ∈ t.handed) (b : Fin 4) : HolderTold b s t :=
  ⟨.inl (by unfold State.holder; rw [auth]), fun ⟨r, listed⟩ => ⟨r, kept _ listed⟩⟩

theorem holderTold_quiet {s t : State} (h : Within [] s t) (b : Fin 4) : HolderTold b s t :=
  h.holderTold (by simp) b

theorem holderTold_setHold (s : State) (h : HoldStatus) (b : Fin 4) : HolderTold b s (s.setHold h) :=
  holderTold_of_auth (by rfl) (fun _ listed => List.mem_append_left _ listed) b

theorem holderTold_claim (s : State) (l : Link) (b : Fin 4) : HolderTold b s (s.claim l) := by
  have claimed : HolderTold b s (s.setClaims (s.station.claims.set l true)) :=
    ⟨.inl rfl, id⟩
  have heard := claimed.trans (holderTold_quiet (within_hearAxes.then
    (within_hand (ns := (List.finRange 4).map Instr.deckHoldNotice))) b)
  unfold State.claim
  dsimp only
  split
  · exact claimed.trans (holderTold_quiet within_reportClaims b)
  split
  · exact (heard.trans (holderTold_setHold _ _ b)).trans (holderTold_quiet within_reportClaims b)
  · exact (heard.trans (holderTold_setHold _ _ b)).trans
      (holderTold_quiet (within_reportClaims.then within_reportEstablished) b)

theorem holderTold_resume (s : State) (l : Link) (both : Bool) (b : Fin 4) :
    HolderTold b s (s.resume l both) := by
  have claimed : HolderTold b s (s.setClaims (resumed s.station.claims l both)) :=
    ⟨.inl rfl, id⟩
  unfold State.resume
  dsimp only
  split
  · exact .refl b s
  refine HolderTold.trans ?_ (holderTold_quiet within_reportClaims b)
  split
  · exact claimed
  · exact claimed.trans (holderTold_setHold _ _ b)

theorem holderTold_dropLevel (s : State) (l : Link) (cause : LevelCause) (b : Fin 4) :
    HolderTold b s (s.dropLevel l cause) := by
  have fallen : HolderTold b s { s with station :=
      { s.station with level := s.station.level.set l .operate } } :=
    ⟨.inl rfl, id⟩
  unfold State.dropLevel
  split
  · exact fallen.trans (holderTold_quiet (within_report.then within_hand) b)
  · exact .refl b s

theorem holderTold_raiseLevel (s : State) (l : Link) (b : Fin 4) : HolderTold b s (s.raiseLevel l) := by
  have kept : HolderOnWay s b → HolderOnWay (s.takenFirst keyNotice) b :=
    fun ⟨r, listed⟩ => ⟨r, mem_takenFirst.2 ⟨listed, rfl⟩⟩
  have raised : HolderTold b s { s.takenFirst keyNotice with
      station := { s.station with level := s.station.level.set l .service } } := ⟨.inl rfl, kept⟩
  exact raised.trans (holderTold_quiet within_report b)

theorem holderTold_restartLink (s : State) (l : Link) (b : Fin 4) : HolderTold b s (s.restartLink l) := by
  have cleared : HolderTold b s (s.modLink l (·.restarted l)) := within_modLink.holderTold (by decide) b
  refine HolderTold.trans ?_ (holderTold_dropLevel _ l _ b)
  split
  · exact cleared.trans (holderTold_quiet within_hand b)
  · exact cleared

theorem holderTold_answering {s : State} {l : Link} {axis : Nat} {b : Fin 4}
    {f : Fin 4 → AuthorityRequest → State × ReplyData} (act : ∀ a r, HolderTold b s (f a r).1) :
    HolderTold b s (s.answering l axis f).1 := by
  unfold State.answering
  cases s.fittedAxis? axis with
  | none => exact .refl b s
  | some a =>
    dsimp only
    split
    · exact .refl b s
    · split
      · exact .refl b s
      · exact act _ _

theorem holderTold_takeAxis (s : State) (l : Link) (a b : Fin 4) : HolderTold b s (s.takeAxis l a).1 := by
  unfold State.takeAxis
  split
  · exact holderTold_passHolder _ _ _ _ _ _
  split
  · exact holderTold_passHolder _ _ _ _ _ _
  split
  · exact .refl b s
  split
  · exact .refl b s
  split
  · exact .refl b s
  · exact holderTold_requestStation _ _ _ _ _

/-! ### What ends a motion (R33, R41) -/

theorem enterRest_state (s : State) (a : Fin 4) (into : AxisState) (o : MotionOutcome) :
    (s.enterRest a into o).axes[a].state = into := by
  have axes : (axisRests s a s.axes[a] into o).axes = s.axes.set a (s.axes[a].atRest into s.clock o) := by
    unfold axisRests State.withAxisAtRest
    dsimp only
    rw [says_axes, says_clock]
  rw [enterRest_eq, axes]
  exact congrArg AxisRecord.state (Vector.getElem_set_self a.isLt)

theorem enterStopping_state (s : State) (a : Fin 4) (o : MotionOutcome) :
    (s.enterStopping a o).axes[a].state = .idle ∨ (s.enterStopping a o).axes[a].state = .stopping := by
  unfold State.enterStopping
  dsimp only
  split
  · exact .inl (enterRest_state _ _ _ _)
  · exact .inr (congrArg AxisRecord.state (Vector.getElem_set_self a.isLt))

/-- After the end of travel an active axis is STOPPING or in MANUAL. -/
theorem endTravel_state (s : State) (a : Fin 4) (o : MotionOutcome)
    (active : (s.endTravel a o).axes[a].state.active = true) :
    (s.endTravel a o).axes[a].state = .stopping ∨ (s.endTravel a o).axes[a].state = .manual := by
  unfold State.endTravel at active ⊢
  have stops : (s.enterStopping a o).axes[a].state.active = true →
      (s.enterStopping a o).axes[a].state = .stopping ∨ (s.enterStopping a o).axes[a].state = .manual := by
    intro active
    rcases enterStopping_state s a o with idle | stopping
    · rw [idle] at active
      exact absurd active nofun
    · exact .inl stopping
  cases state : s.axes[a].state <;> rw [state] at active <;> dsimp only at active ⊢
  case warning =>
    rw [enterRest_state] at active
    exact absurd active nofun
  case moving | settling | jogging => exact stops active
  case stopping => exact .inl state
  case manual => exact .inr state
  case idle | tripped =>
    rw [state] at active
    exact absurd active nofun

/-! ### Every step -/

/-- Commands that let the axes step on and tell them of the STOP line and of their holders keep the law. -/
theorem motionLaw_told {s t : State} (law : s.MotionLaw) (steps : AxesStep s t)
    (stop : ∀ a, StopTold a s t) (holder : ∀ a, HolderTold a s t) : t.MotionLaw := fun a =>
  MotionLawful.goes (s := s) (law a) (steps.axes a).goes (by rw [steps.settings]) (stop a) (holder a)

theorem motionLaw_leaves {s t : State} (law : s.MotionLaw) (h : Leaves s t) : t.MotionLaw := by
  obtain ⟨steps, within⟩ | ⟨a, starts⟩ := h
  · exact motionLaw_told law steps (within.stopTold (by decide)) (within.holderTold (by decide))
  · have settings : t.settings.axes = s.settings.axes := starts.apart .axisSettings (by decide)
    have line : t.alarms.stop = s.alarms.stop := (starts.apart .alarms (by decide)).2.2.2
    have holders (b : Fin 4) : t.holder b = s.holder b := (starts.apart .station (by decide)).holder b
    intro b
    by_cases at' : b = a
    · subst at'
      refine fun _ => ⟨settings ▸ starts.fitted, fun asserted => ?_, fun _ session => .inl ?_⟩
      · exact absurd (line.symm.trans asserted) (by rw [starts.released]; exact nofun)
      · obtain ⟨l, holds, jogs⟩ := starts.authority session
        exact ⟨l, (holders b).trans holds, jogs⟩
    · have others := (starts.others b at').1
      have apart : decide (b = a) = false := decide_eq_false at'
      refine MotionLawful.goes (s := s) (law b) (by rw [others]; exact .refl _) (by rw [settings])
        ⟨fun asserted => .inl (line ▸ asserted), fun listed => starts.notices _ listed apart⟩
        ⟨.inl (holders b), fun ⟨r, listed⟩ => ⟨r, starts.notices _ listed apart⟩⟩

theorem motionLaw_rewriteAxis {s : State} {a : Fin 4} {x : AxisSettings} (law : s.MotionLaw)
    (free : s.axisBusy a = false) : (s.rewriteAxis a x).MotionLaw := by
  have written : (withAxisSettings s a x).MotionLaw := by
    intro b
    by_cases at' : b = a
    · subst at'
      exact MotionLawful.rest free
    · have settings : (withAxisSettings s a x).settings.axes[b] = s.settings.axes[b] :=
        set_others _ _ _ _ at'
      exact MotionLawful.goes (s := s) (law b) (.refl _) (by rw [settings]) ⟨.inl, id⟩
        ⟨.inl rfl, id⟩
  have act : Within [.axes] (withAxisSettings s a x) (s.rewriteAxis a x) := by
    have unfits : Within [.axes] (withAxisSettings s a x)
        (if s.settings.axes[a].fitted && !x.fitted then (withAxisSettings s a x).unfitAxis a
          else withAxisSettings s a x) := .ite within_unfitAxis .refl
    exact .ite unfits (unfits.quietly within_evalSensor)
  exact motionLaw_told written (axesStep_rewriteAxis s a x) (act.stopTold (by decide))
    (act.holderTold (by decide))

theorem motionLaw_of_rest {s : State} (rest : ∀ a, RestsAt a s) : s.MotionLaw := fun a =>
  MotionLawful.rest (by rw [(rest a).1.idle]; rfl)

/-- A notice to axis `a` taken, and the act on it, leave the others their notices. -/
theorem motionLaw_noticed {a : Fin 4} {i : Instr} {f : State → State} {s t : State} (law : s.MotionLaw)
    (h : runEvent i s f = .next t) (steps : AxesStep s t) (within : ∀ u, Within [.axes, .valves] u (f u))
    (stop : ∀ b, b ≠ a → i ≠ .stopLineChange b true) (holder : ∀ b, b ≠ a → ∀ r, i ≠ .holderChange b r)
    (own : GoesOn s.axes[a].state (f (s.taken i)).axes[a].state → MotionLawful (f (s.taken i)) a) :
    t.MotionLaw := by
  rcases runEvent_cases h with ⟨-, rfl⟩ | ⟨-, rfl⟩
  · have acts : Within [.axes, .valves] (s.taken i) (f (s.taken i)).pump := (within _).quietly within_pump
    intro b
    by_cases at' : b = a
    · subst at'
      exact own (steps.axes b).goes
    · have stopped : StopTold b s (s.taken i) :=
        ⟨.inl, fun listed => (List.mem_erase_of_ne (stop b at').symm).2 listed⟩
      have held : HolderTold b s (s.taken i) :=
        ⟨.inl rfl, fun ⟨r, listed⟩ => ⟨r, (List.mem_erase_of_ne (holder b at' r).symm).2 listed⟩⟩
      exact MotionLawful.goes (s := s) (law b) (steps.axes b).goes (by rw [steps.settings])
        (stopped.trans (acts.stopTold (by decide) b)) (held.trans (acts.holderTold (by decide) b))
  · exact law

/-- A change of holder ends the motion of its axis (R41). -/
theorem motionLaw_holderChange {a : Fin 4} {r : HolderReason} {s t : State} (law : s.MotionLaw)
    (h : execHolderChange a r s = .next t) : t.MotionLaw := by
  have within (u : State) : Within [.axes, .valves] u (u.ifFitted a fun s =>
      if s.axes[a].state = .manual then s.endSession a r.outcome else s.endTravel a r.outcome) :=
    within_ifFitted (.ite within_endSession within_endTravel)
  refine motionLaw_noticed (a := a) law h (axesStep_exec (i := .holderChange a r) rfl rfl h) within
    (fun _ _ => nofun) (fun b other q same => other (Instr.holderChange.inj same).1.symm) ?_
  intro goes active
  have acts := within (s.taken (.holderChange a r))
  obtain ⟨wasFitted, line, -⟩ := law a (goes active).1
  have settings : (s.taken (.holderChange a r)).settings.axes[a].fitted = true := wasFitted
  refine ⟨?_, fun asserted => ?_, fun moving session => absurd active ?_⟩
  · rw [acts .axisSettings (by decide)]
    exact wasFitted
  · have before : s.alarms.stop = true := (acts .alarms (by decide)).2.2.2 ▸ asserted
    exact acts .stopNotices (by decide) _ ((List.mem_erase_of_ne (by simp)).2 (line before)) rfl
  · unfold State.ifFitted at moving session ⊢
    rw [if_pos settings] at moving session ⊢
    dsimp only at moving session ⊢
    split at moving
    · rw [if_pos ‹_›]
      unfold State.endSession
      rw [enterRest_state]
      exact nofun
    · rw [if_neg ‹_›] at session ⊢
      exact fun active => (endTravel_state _ a _ active).elim moving session

/-- The STOP line brings its axis to rest (R33). -/
theorem motionLaw_stopLineChange {a : Fin 4} {asserted : Bool} {s t : State} (law : s.MotionLaw)
    (h : execStopLineChange a asserted s = .next t) : t.MotionLaw := by
  have within (u : State) : Within [.axes, .valves] u (u.ifFitted a fun s =>
      if asserted && s.axes[a].state.active then (s.cut a).endSession a .pumpStop else s) :=
    within_ifFitted (.ite ((within_modValve.then within_endSession).mono (by decide)) .refl)
  refine motionLaw_noticed (a := a) law h (axesStep_exec (i := .stopLineChange a asserted) rfl rfl h) within
    (fun b other same => other (Instr.stopLineChange.inj same).1.symm) (fun _ _ _ => nofun) ?_
  intro goes
  cases asserted with
  | false =>
    have stays : ((s.taken (.stopLineChange a false)).ifFitted a fun s =>
        if false && s.axes[a].state.active then (s.cut a).endSession a .pumpStop else s) =
        s.taken (.stopLineChange a false) := ite_self _
    rw [stays]
    exact MotionLawful.goes (s := s) (law a) (.refl _) rfl
      ⟨.inl, fun listed => (List.mem_erase_of_ne (by simp)).2 listed⟩
      ⟨.inl rfl, fun ⟨r, listed⟩ => ⟨r, (List.mem_erase_of_ne (by simp)).2 listed⟩⟩
  | true =>
    intro active
    obtain ⟨before, -⟩ := goes active
    obtain ⟨wasFitted, -⟩ := law a before
    have rests : ((s.taken (.stopLineChange a true)).ifFitted a fun s =>
        if true && s.axes[a].state.active then (s.cut a).endSession a .pumpStop else s) =
        ((s.taken (.stopLineChange a true)).cut a).endSession a .pumpStop :=
      (if_pos wasFitted).trans (if_pos before)
    rw [rests] at active
    unfold State.endSession at active
    rw [enterRest_state] at active
    exact absurd active nofun

/-- Commands that change no station tell of no holder. -/
theorem holderTold_exec {i : Instr} {s t : State} (h : exec i s = .next t)
    (holder : isHolderNotice i = false) (apart : ∀ p ∈ [Part.station, .holderNotices], p ∉ touched i)
    (a : Fin 4) : HolderTold a s t := by
  obtain ⟨u, answer, rfl | acted⟩ := exec_within i s
  · exact Host.Outcome.next.inj (answer.symm.trans h) ▸ .refl a _
  · have taken : HolderTold a s (s.taken i) :=
      ⟨.inl rfl, fun ⟨r, listed⟩ => ⟨r, keepsNotices_taken s holder _ listed rfl⟩⟩
    exact Host.Outcome.next.inj (answer.symm.trans h) ▸ taken.trans (acted.holderTold apart a)

/-- Commands that change no trip line tell of none. -/
theorem stopTold_exec {i : Instr} {s t : State} (h : exec i s = .next t)
    (stop : isStopNotice i = false) (apart : ∀ p ∈ [Part.alarms, .stopNotices], p ∉ touched i)
    (a : Fin 4) : StopTold a s t := by
  obtain ⟨u, answer, rfl | acted⟩ := exec_within i s
  · exact Host.Outcome.next.inj (answer.symm.trans h) ▸ .refl a _
  · have taken : StopTold a s (s.taken i) := ⟨.inl, fun listed => keepsNotices_taken s stop _ listed rfl⟩
    exact Host.Outcome.next.inj (answer.symm.trans h) ▸ taken.trans (acted.stopTold apart a)

theorem holderTold_runEvent {i : Instr} {f : State → State} {s t : State} {a : Fin 4}
    (h : runEvent i s f = .next t) (holder : isHolderNotice i = false)
    (act : ∀ u, HolderTold a u (f u)) : HolderTold a s t := by
  rcases runEvent_cases h with ⟨-, rfl⟩ | ⟨-, rfl⟩
  · have taken : HolderTold a s (s.taken i) :=
      ⟨.inl rfl, fun ⟨r, listed⟩ => ⟨r, keepsNotices_taken s holder _ listed rfl⟩⟩
    exact (taken.trans (act _)).trans (holderTold_quiet within_pump a)
  · exact .refl a _

theorem holderTold_runRequest {i : Instr} {l : Link} {tag : Byte} {f : State → State × ReplyData}
    {s t : State} {a : Fin 4} (h : runRequest i l tag s f = .next t)
    (act : ∀ u, HolderTold a u (f u).1) : HolderTold a s t := by
  rcases runRequest_cases h with ⟨-, rfl⟩ | ⟨-, rfl⟩
  · exact ((holderTold_quiet within_openRequest a).trans (act _)).trans
      (holderTold_quiet (within_placeReply.then within_pump) a)
  · exact .refl a _

theorem stopTold_runEvent {i : Instr} {f : State → State} {s t : State} {a : Fin 4}
    (h : runEvent i s f = .next t) (stop : isStopNotice i = false)
    (act : ∀ u, StopTold a u (f u)) : StopTold a s t := by
  rcases runEvent_cases h with ⟨-, rfl⟩ | ⟨-, rfl⟩
  · have taken : StopTold a s (s.taken i) := ⟨.inl, fun listed => keepsNotices_taken s stop _ listed rfl⟩
    exact (taken.trans (act _)).trans (within_pump.stopTold (by simp) a)
  · exact .refl a _

theorem stopTold_runRequest {i : Instr} {l : Link} {tag : Byte} {f : State → State × ReplyData}
    {s t : State} {a : Fin 4} (h : runRequest i l tag s f = .next t)
    (act : ∀ u, StopTold a u (f u).1) : StopTold a s t := by
  rcases runRequest_cases h with ⟨-, rfl⟩ | ⟨-, rfl⟩
  · exact ((within_openRequest.stopTold (by simp) a).trans (act _)).trans
      ((within_placeReply.then within_pump).stopTold (by simp) a)
  · exact .refl a _

/-- The axes are told of every change of the STOP line. -/
theorem stopTold_command {i : Instr} {s t : State} (renew : renews i = false)
    (leaves : leavesIdle i = false) (stop : isStopNotice i = false) (h : exec i s = .next t)
    (a : Fin 4) : StopTold a s t := by
  by_cases apart : ∀ p ∈ [Part.alarms, .stopNotices], p ∉ touched i
  · exact stopTold_exec h stop apart a
  cases i <;> simp only [touched, List.mem_cons, List.not_mem_nil, reduceCtorEq, or_false, or_true,
    not_true_eq_false, not_false_eq_true, forall_eq_or_imp, forall_eq, and_true, and_false, or_self,
    implies_true, and_self] at apart
  case alarmSourceChange src active =>
    change execAlarmSourceChange src active s = _ at h
    exact stopTold_runEvent h rfl fun u => stopTold_setFlag u src active a
  case momentaryRaise src =>
    change execMomentaryRaise src s = _ at h
    exact stopTold_runEvent h rfl fun u => stopTold_raiseMomentary u src a
  case alarmAck l tag source =>
    change execAlarmAck l tag source s = _ at h
    refine stopTold_runRequest h fun u => ?_
    split
    · exact stopTold_ackEntries u _ a
    cases finOf? 60 source with
    | none => exact .refl a u
    | some code =>
      dsimp only
      split
      · exact .refl a u
      · exact stopTold_ackEntries u _ a
  case settingsWriteRouting l tag index data =>
    change execSettingsWriteRouting l tag index data s = _ at h
    refine stopTold_runRequest h fun u => ?_
    unfold State.settingsWrite
    split
    · exact .refl a u
    cases both (finOf? 1 index) data.taken with
    | none => exact .refl a u
    | some x =>
      dsimp only
      split
      · exact .refl a u
      have routed : StopTold a u { u with settings := { u.settings with routing := x.2 } } := ⟨.inl, id⟩
      have lines := routed.trans (stopTold_evalLines _ a)
      have stored : StopTold a u (done { ({ u with settings := { u.settings with routing := x.2 } } :
          State).evalLines with store := { ({ u with settings := { u.settings with routing := x.2 } } :
          State).evalLines.store with unstored := true } } (objectData 6 0 x.2.data)).1 :=
        lines.trans ⟨.inl, id⟩
      exact stored
  case axisMove | axisJog | manualEnter => exact absurd leaves nofun
  all_goals exact absurd renew nofun

/-- The axes are told of every change of holder. -/
theorem holderTold_command {i : Instr} {s t : State} (renew : renews i = false)
    (leaves : leavesIdle i = false) (holder : isHolderNotice i = false) (h : exec i s = .next t)
    (a : Fin 4) : HolderTold a s t := by
  by_cases apart : ∀ p ∈ [Part.station, .holderNotices], p ∉ touched i
  · exact holderTold_exec h holder apart a
  cases i <;> simp only [touched, List.mem_cons, List.not_mem_nil, reduceCtorEq, or_false, or_true,
    not_true_eq_false, not_false_eq_true, forall_eq_or_imp, forall_eq, and_true, and_false, or_self,
    implies_true, and_self] at apart
  case axisStateChangeSeen b new =>
    change execAxisStateChangeSeen b new s = _ at h
    refine holderTold_runEvent h rfl fun u => ?_
    have seen : HolderTold a u { u with station := u.station.sees b new } := ⟨.inl rfl, id⟩
    dsimp only
    split
    · exact (seen.trans (holderTold_setHold _ _ a)).trans (holderTold_quiet within_report a)
    · exact seen
  case deadlineExpiry b =>
    change execDeadlineExpiry b s = _ at h
    refine holderTold_runEvent h rfl fun u => ?_
    split
    · exact .refl a u
    · exact holderTold_answerRequest _ _ _ _ _
  case stationLinkLoss l =>
    change execStationLinkLoss l s = _ at h
    exact holderTold_runEvent h rfl fun u => holderTold_loseLink u l a
  case serviceKeyRelease =>
    change execServiceKeyRelease s = _ at h
    exact holderTold_runEvent h rfl fun u =>
      (holderTold_dropLevel u _ _ a).trans (holderTold_dropLevel _ _ _ a)
  case byteReceived l b =>
    change execByteReceived l b s = _ at h
    refine holderTold_runEvent h rfl fun u => ?_
    have links {f : LinkController → LinkController} : HolderTold a u (u.modLink l f) :=
      within_modLink.holderTold (by decide) a
    split
    · split
      · exact links
      · exact .refl a u
    · split
      · exact links
      · exact within_discardFrame.holderTold (by decide) a
    · unfold State.bodyByte
      split
      · exact links
      · exact holderTold_completeFrame u l _ _ a
  case frameComplete l kind tag payload crc =>
    change execFrameComplete l kind tag payload crc s = _ at h
    exact holderTold_runEvent h rfl fun u => holderTold_completeFrame u l _ _ a
  case receiveBreak l =>
    change execReceiveBreak l s = _ at h
    exact holderTold_runEvent h rfl fun u => holderTold_restartLink u l a
  case linkRestart l tag =>
    change execLinkRestart l tag s = _ at h
    exact holderTold_runRequest h fun u => holderTold_restartLink u l a
  case takeStation l tag axis =>
    change execTakeStation l tag axis s = _ at h
    refine holderTold_runRequest h fun u => ?_
    cases u.fittedAxis? axis with
    | none => exact .refl a u
    | some b => exact holderTold_takeAxis u l b a
  case yieldStation l tag axis =>
    change execYieldStation l tag axis s = _ at h
    exact holderTold_runRequest h fun u => holderTold_answering fun _ _ => holderTold_passHolder _ _ _ _ _ _
  case refuseStation l tag axis =>
    change execRefuseStation l tag axis s = _ at h
    exact holderTold_runRequest h fun u => holderTold_answering fun _ _ => holderTold_answerRequest _ _ _ _ _
  case deckHold l tag =>
    change execDeckHold l tag s = _ at h
    refine holderTold_runRequest h fun u => ?_
    dsimp only
    rw [done_fst]
    split
    · exact .refl a u
    · exact holderTold_claim u l a
  case deckResume l tag both =>
    change execDeckResume l tag both s = _ at h
    refine holderTold_runRequest h fun u => ?_
    cases boolOfCode both with
    | none => exact .refl a u
    | some b =>
      dsimp only
      split
      · exact .refl a u
      · exact holderTold_resume u l b a
  case serviceEnter l tag =>
    change execServiceEnter l tag s = _ at h
    refine holderTold_runRequest h fun u => ?_
    split
    · exact .refl a u
    split
    · exact holderTold_raiseLevel u l a
    · exact .refl a u
  case serviceLeave l tag =>
    change execServiceLeave l tag s = _ at h
    exact holderTold_runRequest h fun u => holderTold_dropLevel u l _ a
  case axisMove | axisJog | manualEnter => exact absurd leaves nofun
  all_goals exact absurd renew nofun

theorem motionLaw_command (i : Instr) (s t : State) (renew : renews i = false) (law : s.MotionLaw)
    (h : exec i s = .next t) : t.MotionLaw := by
  by_cases leaves : leavesIdle i = true
  · obtain rfl | ⟨u, v, before, act, after⟩ := leaves_exec leaves h
    · exact law
    · exact motionLaw_reads.within after
        (motionLaw_leaves (motionLaw_reads.within before law (by simp)) act) (by simp)
  rw [Bool.not_eq_true] at leaves
  by_cases writes : startsAxis i = true
  · cases i <;> simp only [startsAxis, leavesIdle, Bool.false_eq_true, reduceCtorEq] at writes leaves
    case settingsWriteAxis l tag index data =>
      change execSettingsWriteAxis l tag index data s = _ at h
      exact motionLaw_reads.runRequest h (fun u law => motionLaw_reads.settingsWrite law
        fun x free => motionLaw_rewriteAxis law free) law
  rw [Bool.not_eq_true] at writes
  by_cases holder : isHolderNotice i = true
  · cases i <;> simp only [isHolderNotice, Bool.false_eq_true] at holder
    case holderChange a r => exact motionLaw_holderChange law h
  by_cases stop : isStopNotice i = true
  · cases i <;> simp only [isStopNotice, Bool.false_eq_true] at stop
    case stopLineChange a asserted => exact motionLaw_stopLineChange law h
  rw [Bool.not_eq_true] at holder stop
  exact motionLaw_told law (axesStep_exec renew writes h) (stopTold_command renew leaves stop h)
    (holderTold_command renew leaves holder h)

/-- Settles O55: the station controller by its own commands; the axes step on, and are told of the STOP
line and of their holders. -/
theorem stepKeepsStationAndMotionLaws : Obligations.StepKeepsStationAndMotionLaws := by
  have commands := motionLaw_reads.commands (fun _ _ _ => motionLaw_of_rest (restsAt_image _ _ _))
    (fun _ _ _ _ => motionLaw_of_rest (restsAt_start _ _ _))
    (fun _ _ => motionLaw_of_rest (restsAt_commandReset _)) motionLaw_command
  exact fun s t h => ⟨fun law => stationLaw_step law h,
    fun law => motionLaw_reads.step (by decide) commands law h⟩

end Sys2Proof.Proofs
end

section
/-! SUPPORT. The step itself (00), the state right after reset (11), and what a link queues and transmits
(10). -/

open Sys2Proof Sys2Proof.Machine

namespace Sys2Proof.Proofs

/-! ### The part's own act -/

theorem takes_eq_some {c : LinkController} {f : Frame} :
    c.takes = some f ↔ c.waiting = some f ∧ c.slot = none := by
  unfold LinkController.takes
  cases waiting : c.waiting <;> cases slot : c.slot <;> simp

theorem takes_eq_none {c : LinkController} (h : ∀ f, ¬(c.waiting = some f ∧ c.slot = none)) :
    c.takes = none := by
  cases takes : c.takes with
  | none => rfl
  | some f => exact absurd (takes_eq_some.1 takes) (h f)

section
variable {s : State} (running : s.power = .running)
include running

theorem ownAct_notice {i : Instr} {rest : List Instr} (handed : s.handed = i :: rest) :
    s.ownAct = .command i := by
  unfold State.ownAct
  rw [if_neg (not_not.2 running), handed]

/-- The bridge's frame goes first. -/
theorem ownAct_frame (handed : s.handed = []) {l : Link} {f : Frame}
    (takes : (s.links.get l).takes = some f)
    (first : l = .localLink → (s.links.get .bridge).takes = none) : s.ownAct = s.actOfFrame l f := by
  have bridge := first
  unfold State.ownAct
  rw [if_neg (not_not.2 running), handed]
  cases l with
  | bridge =>
    have takes : s.links.bridge.takes = some f := takes
    rw [takes]
  | localLink =>
    have takes : s.links.localLink.takes = some f := takes
    have none : s.links.bridge.takes = none := first rfl
    rw [takes, none]

theorem ownAct_idle (handed : s.handed = []) (none : ∀ l, (s.links.get l).takes = none) :
    (∀ i rest, s.due = i :: rest → s.ownAct = .command i) ∧ (s.due = [] → s.ownAct = .tick) := by
  have bridge : s.links.bridge.takes = .none := none .bridge
  have localLink : s.links.localLink.takes = .none := none .localLink
  unfold State.ownAct
  rw [if_neg (not_not.2 running), handed, bridge, localLink]
  exact ⟨fun i rest due => by rw [due], fun due => by rw [due]⟩

end

theorem idleStep_of_command {s : State} {i : Instr} (h : s.ownAct = .command i) : idleStep s = exec i s := by
  unfold idleStep
  rw [h]

theorem idleStep_of_refuse {s : State} {l : Link} {f : Frame} {code : RefusalCode}
    (h : s.ownAct = .refuse l f code) : idleStep s = .next (s.refuseFrame l f code) := by
  unfold idleStep
  rw [h]

theorem refuseFrame_eq (s : State) (l : Link) (f : Frame) (code : RefusalCode) :
    s.refuseFrame l f code = { s with
      links := s.links.set l { s.links.get l with
        waiting := none
        slot := some ⟨f.kind, f.tag, .refused code⟩ } }.pump := by
  cases l <;> rfl

/-- Settles O1. -/
theorem stepRunsFrontCommandElseOwnAct : Obligations.StepRunsFrontCommandElseOwnAct := by
  refine ⟨fun c rest s queue => step_of_pending queue, fun s queue => ?_⟩
  intro takes refuses out due
  have idle := step_of_idle queue
  have dues : s.due = due := by
    have calls (xs ys zs : List Instr) : xs ++ (ys ++ zs) = xs ++ ys ++ zs := (List.append_assoc ..).symm
    unfold State.due State.dueOfCalls
    rw [calls]
    rfl
  refine ⟨fun stopped => ?_, fun running i rest handed => ?_, fun running handed => ⟨?frame, ?idle⟩⟩
  · rw [idle]
    unfold idleStep State.ownAct
    rw [if_pos stopped]
  · exact idle.trans <| idleStep_of_command (ownAct_notice running handed)
  case frame =>
    intro l f taken first
    have act := ownAct_frame running handed (takes_eq_some.2 taken)
      fun isLocal => takes_eq_none fun g => first isLocal g
    unfold State.actOfFrame at act
    refine ⟨fun i spells => ?_, fun code spells => ?_, fun spells => ?_⟩ <;> rw [spells] at act
    · exact idle.trans (idleStep_of_command act)
    · exact (idle.trans (idleStep_of_refuse act)).trans (congrArg _ (refuseFrame_eq s l f code))
    · have code : s.undefinedObject l =
          if s.station.level.get l = .service then .badField else .level := by
        simp only [State.undefinedObject, State.atService, decide_eq_true_eq]
      rw [code] at act
      exact (idle.trans (idleStep_of_refuse act)).trans (congrArg _ (refuseFrame_eq s l f _))
  case idle =>
    intro none
    obtain ⟨next, tick⟩ := ownAct_idle running handed fun l => takes_eq_none (none l)
    refine ⟨fun i rest isDue => idle.trans (idleStep_of_command (next i rest (dues.trans isDue))), fun nothing => ?_⟩
    rw [idle]
    unfold idleStep
    rw [tick (dues.trans nothing)]
    rfl

/-! ### The state right after reset -/

/-- Settles O60: no axis moves, and the other laws are of empty tables. -/
theorem lawsHoldAtReset : Obligations.LawsHoldAtReset := by
  have rest (a : Fin 4) : RestsAt a State.reset := restsAt_image blankImage .loading [] a
  exact ⟨valveLaw_of_rest rest, axisLaw_of_rest rest, stationLaw_of_rests (StationAlike.refl _),
    motionLaw_of_rest rest, alarmLaw_none rfl, fireDoorLaw_image blankImage .loading [], recallLaw_none rfl,
    callLaw_image blankImage .loading [], linkLaw_image blankImage .loading []⟩

/-- Settles O5. -/
theorem resetValues : Obligations.ResetValues := by
  refine ⟨fun a => ?_, ⟨rfl, rfl, rfl, rfl, rfl, rfl⟩, fun k => Vector.getElem_replicate k.isLt,
    fun a => Vector.getElem_replicate a.isLt, rfl, rfl, fun b => Vector.getElem_replicate b.isLt, rfl, rfl,
    rfl, rfl, rfl, rfl, rfl⟩
  have valve : State.reset.valves[a] = .powerOn := Vector.getElem_replicate a.isLt
  have axis : State.reset.axes[a] = .powerOn := Vector.getElem_replicate a.isLt
  rw [valve, axis]
  decide

/-! ### Queue and transmitter -/

theorem pair_set_get {α : Type} (p : Pair α) (l : Link) : p.set l (p.get l) = p := by
  cases l <;> rfl

theorem withLink_self (s : State) (l : Link) :
    s.withLink l (s.links.get l) (s.counters.links.get l) = s := by
  unfold State.withLink
  rw [pair_set_get, pair_set_get]

theorem reportOn_withLink (s : State) (l : Link) (b : ReportBody) :
    s.reportOn l b = s.withLink l ((s.links.get l).enqueue ⟨s.clock, b⟩)
      { s.counters.links.get l with
        discarded := if (s.links.get l).selects b && (s.links.get l).full then
            saturate (s.counters.links.get l).discarded
          else (s.counters.links.get l).discarded } := rfl

section
variable {s : State} {l : Link} {b : ReportBody}

/-- A report of a class not selected is not queued (R170). -/
theorem reportOn_unselected (not : (s.links.get l).selection[b.cls.code] = false) : s.reportOn l b = s := by
  have selects : (s.links.get l).selects b = false := not
  have same : (s.links.get l).enqueue ⟨s.clock, b⟩ = s.links.get l := by
    unfold LinkController.enqueue
    dsimp only
    rw [selects, Bool.false_and, Bool.false_and, Bool.or_false]
    rfl
  rw [reportOn_withLink, same, selects]
  exact withLink_self s l

/-- A report selected joins a queue with room (R170). -/
theorem reportOn_room (selected : (s.links.get l).selection[b.cls.code] = true)
    (room : (s.links.get l).queue.length < 32) :
    s.reportOn l b = s.withLink l { s.links.get l with queue := (s.links.get l).queue ++ [⟨s.clock, b⟩] }
      (s.counters.links.get l) := by
  have selects : (s.links.get l).selects b = true := selected
  have full : (s.links.get l).full = false := decide_eq_false (Nat.not_le.2 room)
  have joined : (s.links.get l).enqueue ⟨s.clock, b⟩ =
      { s.links.get l with queue := (s.links.get l).queue ++ [⟨s.clock, b⟩] } := by
    unfold LinkController.enqueue
    dsimp only
    rw [selects, full, Bool.and_false, Bool.or_false]
    rfl
  rw [reportOn_withLink, joined, selects, full]
  rfl

/-- A report selected is lost to a full queue, and counted (R170). -/
theorem reportOn_full (selected : (s.links.get l).selection[b.cls.code] = true)
    (full : 32 ≤ (s.links.get l).queue.length) :
    s.reportOn l b = s.withLink l { s.links.get l with lost := true }
      { s.counters.links.get l with discarded := saturate (s.counters.links.get l).discarded } := by
  have selects : (s.links.get l).selects b = true := selected
  have full : (s.links.get l).full = true := decide_eq_true full
  have lost : (s.links.get l).enqueue ⟨s.clock, b⟩ = { s.links.get l with lost := true } := by
    unfold LinkController.enqueue
    dsimp only
    rw [selects, full, Bool.and_true, Bool.or_true]
    rfl
  rw [reportOn_withLink, lost, selects, full]
  rfl

end

section
variable {c : LinkController}

/-- A free transmitter with no reply to send (R171). -/
theorem transmit_of_free (line : c.line = none) (slot : c.slot = none) :
    c.transmit = match c.queue with
      | [] => c
      | r :: rest =>
        if c.state = .up ∧ c.waiting = none then
          { c with line := some (.report r c.lost), queue := rest, lost := false }
        else c := by
  unfold LinkController.transmit
  rw [line, slot] <;> rfl

end

/-- Settles O47. -/
theorem queueAndTransmitterChoose : Obligations.QueueAndTransmitterChoose := by
  refine ⟨fun l b s => ⟨reportOn_unselected, fun selected =>
      ⟨fun room => reportOn_room selected room, fun full => reportOn_full selected full⟩⟩,
    fun c => ⟨fun x line => transmit_of_busy line, fun line r slot => transmit_of_reply line slot,
      fun line slot => ⟨fun waits => ?_, fun up free r rest queue => ?_⟩⟩⟩
  · rw [transmit_of_free line slot]
    cases queue : c.queue with
    | nil => rfl
    | cons r rest =>
      refine if_neg fun ⟨up, free⟩ => ?_
      rcases waits with down | empty | waiting
      · exact down up
      · exact absurd (queue.symm.trans empty) nofun
      · exact waiting free
  · rw [transmit_of_free line slot, queue]
    exact if_pos ⟨up, free⟩

end Sys2Proof.Proofs
end

section
/-! SUPPORT. The events and requests of the door controller (05). -/

open Sys2Proof Sys2Proof.Machine

namespace Sys2Proof.Proofs

/-! ### Two changes in one act -/

/-- Two records of a door that are open or not alike. -/
def OpenAlike (x y : DoorRecord) : Prop :=
  (x.state = .closed ↔ y.state = .closed) ∧ (x.state = .isolated ↔ y.state = .isolated)

theorem set_state_iff {doors : Vector DoorRecord 32} {d e : Fin 32} {x y : DoorRecord} {st : DoorState}
    (alike : x.state = st ↔ y.state = st) :
    (doors.set d x)[e].state = st ↔ (doors.set d y)[e].state = st := by
  by_cases at' : e = d
  · subst at'
    have left : (doors.set e x)[e] = x := Vector.getElem_set_self e.isLt
    have right : (doors.set e y)[e] = y := Vector.getElem_set_self e.isLt
    rw [left, right, alike]
  · rw [set_others _ _ _ _ at', set_others _ _ _ _ at']

/-- The open-door counts see only whether a door is CLOSED or ISOLATED (R101). -/
theorem withDoor_openCounts (s : State) (d : Fin 32) {x y : DoorRecord} (alike : OpenAlike x y) :
    (s.withDoor d x).openCounts = (s.withDoor d y).openCounts := by
  have closed (e : Fin 32) : decide ((s.doors.set d x)[e].state ≠ .closed) =
      decide ((s.doors.set d y)[e].state ≠ .closed) := decide_eq_decide.2 (not_congr (set_state_iff alike.1))
  have isolated (e : Fin 32) : decide ((s.doors.set d x)[e].state ≠ .isolated) =
      decide ((s.doors.set d y)[e].state ≠ .isolated) := decide_eq_decide.2 (not_congr (set_state_iff alike.2))
  unfold State.withDoor State.zoneOpenCount State.seaOpenCount
  dsimp only
  simp only [closed, isolated]
  rfl

theorem countNotices_self (c : OpenCounts) : countNotices c c = [] := by
  unfold countNotices
  simp

theorem withDoor_withDoor (s : State) (d : Fin 32) (x y : DoorRecord) :
    (s.withDoor d x).withDoor d y = s.withDoor d y := by
  have doors : (s.doors.set d x).set d y = s.doors.set d y := Vector.set_set _ _
  have outputs (o p : DoorOutputs) : (s.chain.outputs.set d o).set d p = s.chain.outputs.set d p :=
    Vector.set_set _ _
  unfold State.withDoor
  dsimp only
  rw [doors, outputs]
  rfl

theorem OpenAlike.symm {x y : DoorRecord} (h : OpenAlike x y) : OpenAlike y x := ⟨h.1.symm, h.2.symm⟩

theorem says_withDoor (s : State) (d : Fin 32) (y : DoorRecord) (handed : List Instr)
    (rs : List (Option Link × ReportBody)) :
    ({ s.withDoor d y with handed := handed } : State).says rs =
      { (s.says rs).withDoor d y with handed := handed } := by
  rw [says_eq, says_eq]
  rfl

/-- A door goes on, its door open as before, from where it has just gone. -/
theorem doorGoes_withDoor {s : State} {d : Fin 32} {x y : DoorRecord} {handed : List Instr}
    {cause : DoorCause} (alike : OpenAlike x y) (moves : x.state ≠ y.state)
    (fault : faultNotices d x.state y.state = []) :
    ({ s.withDoor d x with handed := handed } : State).doorGoes d y cause =
      { (s.says [toBoth (.doorState d x.state y.state cause)]).withDoor d y with
        handed := handed ++ [.sourceChange (.doorState d) ⟨y.state.code, true⟩] } := by
  have state : ({ s.withDoor d x with handed := handed } : State).doors[d] = x :=
    Vector.getElem_set_self d.isLt
  have reports : doorReports d x.state y.state cause = [toBoth (.doorState d x.state y.state cause)] :=
    if_neg moves
  have counts : (({ s.withDoor d x with handed := handed } : State).withDoor d y).openCounts =
      (s.withDoor d x).openCounts :=
    (congrArg State.openCounts (withDoor_withDoor s d x y)).trans (withDoor_openCounts s d alike).symm
  have notices : ({ s.withDoor d x with handed := handed } : State).doorNotices d y =
      [.sourceChange (.doorState d) ⟨y.state.code, true⟩] := by
    unfold State.doorNotices
    rw [state, counts, fault, if_neg moves, countNotices_self]
    rfl
  unfold State.doorGoes
  rw [state, reports, notices, says_withDoor]
  have twice : (({ (s.says [toBoth (.doorState d x.state y.state cause)]).withDoor d x with
      handed := handed } : State).withDoor d y) =
      { (s.says [toBoth (.doorState d x.state y.state cause)]).withDoor d y with handed := handed } :=
    congrArg (fun t : State => ({ t with handed := handed } : State)) (withDoor_withDoor _ d x y)
  rw [twice]

/-- What a sliding door that goes on from CLOSING to OBSTRUCTED hands on. -/
def obstructedNotices (s : State) (d : Fin 32) (y : DoorRecord) : List Instr :=
  s.doorNotices d (s.closingRecord d y) ++ [.sourceChange (.doorState d) ⟨5, true⟩]

/-- `s` after a sliding door, struck as it closes, has gone on to OBSTRUCTED (R93, R95). -/
def doorStruck (s : State) (d : Fin 32) (y : DoorRecord) (cause : DoorCause) : State :=
  { ((s.says [toBoth (.doorState d s.doors[d].state .closing cause),
        toBoth (.doorState d .closing .obstructed .edge)]).countDoor d
          fun k => { k with obstructions := saturate k.obstructions }).withDoor d
      (s.obstructedRecord d (s.closingRecord d y)) with
    handed := s.handed ++ obstructedNotices s d y }

section
variable {s : State} {d : Fin 32} {y : DoorRecord} {cause : DoorCause} {edge : Bool}

theorem doorCloses_free (free : ¬(s.settings.doors[d].kind = .sliding ∧ edge = true)) :
    s.doorCloses d y cause edge = s.doorGoes d (s.closingRecord d y) cause := if_neg free

theorem doorCloses_struck (struck : s.settings.doors[d].kind = .sliding ∧ edge = true)
    (opens : s.doors[d].state ≠ .closing) : s.doorCloses d y cause edge = doorStruck s d y cause := by
  have closes : s.doorCloses d y cause edge =
      ((s.doorGoes d (s.closingRecord d y) cause).countDoor d fun k =>
        { k with obstructions := saturate k.obstructions }).doorGoes d
          (s.obstructedRecord d (s.closingRecord d y)) .edge := if_pos struck
  have first : doorReports d s.doors[d].state .closing cause =
      [toBoth (.doorState d s.doors[d].state .closing cause)] := if_neg opens
  have alike : OpenAlike (s.obstructedRecord d (s.closingRecord d y)) (s.closingRecord d y) := by
    constructor <;> exact ⟨nofun, nofun⟩
  have second : (s.doorGoes d (s.closingRecord d y) cause).doorGoes d
      (s.obstructedRecord d (s.closingRecord d y)) .edge =
      { (s.says [toBoth (.doorState d s.doors[d].state .closing cause),
          toBoth (.doorState d .closing .obstructed .edge)]).withDoor d
          (s.obstructedRecord d (s.closingRecord d y)) with
        handed := s.handed ++ obstructedNotices s d y } := by
    have goes : s.doorGoes d (s.closingRecord d y) cause =
        { (s.says [toBoth (.doorState d s.doors[d].state .closing cause)]).withDoor d
            (s.closingRecord d y) with handed := s.handed ++ s.doorNotices d (s.closingRecord d y) } := by
      unfold State.doorGoes
      rw [show doorReports d s.doors[d].state (s.closingRecord d y).state cause =
        [toBoth (.doorState d s.doors[d].state .closing cause)] from first]
    have moves : (s.closingRecord d y).state ≠ (s.obstructedRecord d (s.closingRecord d y)).state := nofun
    rw [goes, doorGoes_withDoor alike.symm moves rfl, List.append_assoc, ← says_append]
    rfl
  rw [closes, doorGoes_countDoor, second]
  rfl

end

/-! ### A door goes somewhere as an event or a request ends -/

theorem actedBy_congr {s : State} {i : Instr} {f g : State → State} (h : f (s.taken i) = g (s.taken i)) :
    s.actedBy i f = s.actedBy i g := congrArg State.pump h

theorem answeredBy_congr {s : State} {l : Link} {tag : Byte} {i : Instr} {data : ReplyData}
    {f g : State → State} (h : f (s.openRequest l i) = g (s.openRequest l i)) :
    s.answeredBy l tag i data f = s.answeredBy l tag i data g :=
  congrArg (fun t : State => (t.placeReply l ⟨i.kind, tag, data⟩).pump) h

/-- An event in the words of Safety, its act in other words. -/
theorem runEvent_eq {i : Instr} {s : State} {f g : State → State} (running : s.power = .running)
    (h : f (s.taken i) = g (s.taken i)) : runEvent i s f = .next (s.actedBy i g) :=
  (runEvent_actedBy running).trans (congrArg _ (actedBy_congr h))

section
variable {s : State} {i : Instr} {d : Fin 32} {f : State → State} (running : s.power = .running)
include running

theorem runEvent_doorGoes (y : DoorRecord) (cause : DoorCause)
    (h : f (s.taken i) = (s.taken i).doorGoes d y cause) :
    runEvent i s f = .next
      { (s.acted i (doorReports d s.doors[d].state y.state cause)).withDoor d y with
        handed := s.handed.erase i ++ s.doorNotices d y } := by
  rw [runEvent_of_running running, h]
  rfl

theorem runEvent_doorGoes_count (y : DoorRecord) (cause : DoorCause) (k : DoorCounters → DoorCounters)
    (h : f (s.taken i) = ((s.taken i).countDoor d k).doorGoes d y cause) :
    runEvent i s f = .next
      { ((s.acted i (doorReports d s.doors[d].state y.state cause)).countDoor d k).withDoor d y with
        handed := s.handed.erase i ++ s.doorNotices d y } := by
  rw [runEvent_of_running running, h, doorGoes_countDoor]
  rfl

theorem runEvent_doorStruck (y : DoorRecord) (cause : DoorCause)
    (h : f (s.taken i) = doorStruck (s.taken i) d y cause) :
    runEvent i s f = .next
      { ((s.acted i [toBoth (.doorState d s.doors[d].state .closing cause),
            toBoth (.doorState d .closing .obstructed .edge)]).countDoor d
              fun k => { k with obstructions := saturate k.obstructions }).withDoor d
          (s.obstructedRecord d (s.closingRecord d y)) with
        handed := s.handed.erase i ++ (s.doorNotices d (s.closingRecord d y) ++
          [.sourceChange (.doorState d) ⟨5, true⟩]) } := by
  rw [runEvent_of_running running, h]
  rfl

/-- An event that only sets the record of a door. -/
theorem runEvent_modDoor (k : DoorRecord → DoorRecord) (h : f (s.taken i) = (s.taken i).modDoor d k) :
    runEvent i s f = .next { s.acted i [] with doors := s.doors.set d (k s.doors[d]) } := by
  rw [runEvent_of_running running, h]
  rfl

theorem runEvent_stays (h : f (s.taken i) = s.taken i) : runEvent i s f = .next (s.acted i []) := by
  rw [runEvent_of_running running, h]
  rfl

end

/-! ### Timers (R90, R94, R96, R98) -/

/-- TRAVEL_TIMER_EXPIRY, its notice taken. -/
def travelExpires (d : Fin 32) (s : State) : State :=
  if s.doors[d].travel = none then s
  else
    let t := s.modDoor d fun x => { x with travel := none }
    match s.doors[d].state with
    | .closing => t.faultDoor d .closeTime
    | .opening => t.faultDoor d .openTime
    | _ => t

/-- PAUSE_TIMER_EXPIRY, its notice taken. -/
def pauseExpires (d : Fin 32) (s : State) : State :=
  if s.doors[d].pause = none then s
  else
    let t := s.modDoor d fun x => { x with pause := none }
    if s.doors[d].state ≠ .obstructed then t
    else if s.doors[d].retry < s.settings.doors[d].maxRetries then
      (t.modDoor d fun x => { x with retry := x.retry + 1 }).startClosing d .retry s.doors[d].seen.edge
    else t.faultDoor d .retries

/-- CONFLICT_TIMER_EXPIRY, its notice taken. -/
def conflictExpires (d : Fin 32) (s : State) : State :=
  if s.doors[d].conflict = none then s
  else
    let t := s.modDoor d fun x => { x with conflict := none }
    match s.doors[d].state with
    | .fault => t
    | .isolated => t
    | _ => t.faultDoor d .switches

/-- The record of a door that enters FAULT (R99). -/
def faulted (y : DoorRecord) (c : FaultCause) : DoorRecord :=
  { y with state := .fault, travel := none, pause := none, cause := some c }

section
variable {d : Fin 32} {u : State}

theorem ne_none_of_isSome {α : Type} {x : Option α} (h : x.isSome = true) : x ≠ none := by
  rintro rfl
  exact absurd h nofun

theorem travelExpires_closing (runs : u.doors[d].travel.isSome = true)
    (closing : u.doors[d].state = .closing) :
    travelExpires d u = u.doorGoes d (faulted u.doors[d] .closeTime) .closeTime := by
  unfold travelExpires
  rw [if_neg (ne_none_of_isSome runs), closing]
  exact faultDoor_modDoor (f := fun x => { x with travel := none }) rfl .closeTime

theorem travelExpires_opening (runs : u.doors[d].travel.isSome = true)
    (opening : u.doors[d].state = .opening) :
    travelExpires d u = u.doorGoes d (faulted u.doors[d] .openTime) .openTime := by
  unfold travelExpires
  rw [if_neg (ne_none_of_isSome runs), opening]
  exact faultDoor_modDoor (f := fun x => { x with travel := none }) rfl .openTime

theorem pauseExpires_retries (runs : u.doors[d].pause.isSome = true)
    (obstructed : u.doors[d].state = .obstructed)
    (most : u.settings.doors[d].maxRetries ≤ u.doors[d].retry) :
    pauseExpires d u = u.doorGoes d (faulted u.doors[d] .retries) .retries := by
  unfold pauseExpires
  dsimp only
  rw [if_neg (ne_none_of_isSome runs), if_neg (not_not.2 obstructed), if_neg (Nat.not_lt.2 most)]
  exact faultDoor_modDoor (f := fun x => { x with pause := none }) rfl .retries

theorem pauseExpires_again (runs : u.doors[d].pause.isSome = true)
    (obstructed : u.doors[d].state = .obstructed)
    (less : u.doors[d].retry < u.settings.doors[d].maxRetries) :
    pauseExpires d u = u.doorCloses d { u.doors[d] with pause := none, retry := u.doors[d].retry + 1 }
      .retry u.doors[d].seen.edge := by
  unfold pauseExpires
  dsimp only
  rw [if_neg (ne_none_of_isSome runs), if_neg (not_not.2 obstructed), if_pos less, modDoor_modDoor]
  exact startClosing_modDoor (f := fun x => { x with pause := none, retry := x.retry + 1 }) rfl .retry _

theorem conflictExpires_acts (runs : u.doors[d].conflict.isSome = true)
    (fault : u.doors[d].state ≠ .fault) (isolated : u.doors[d].state ≠ .isolated) :
    conflictExpires d u =
      u.doorGoes d { faulted u.doors[d] .switches with conflict := none } .switches := by
  have acts : (u.modDoor d fun x => { x with conflict := none }).faultDoor d .switches =
      u.doorGoes d { faulted u.doors[d] .switches with conflict := none } .switches :=
    faultDoor_modDoor (f := fun x => { x with conflict := none }) rfl .switches
  unfold conflictExpires
  rw [if_neg (ne_none_of_isSome runs)]
  split
  · exact absurd ‹_› fault
  · exact absurd ‹_› isolated
  · exact acts

theorem conflictExpires_stays (runs : u.doors[d].conflict.isSome = true)
    (stays : u.doors[d].state = .fault ∨ u.doors[d].state = .isolated) :
    conflictExpires d u = u.modDoor d fun x => { x with conflict := none } := by
  unfold conflictExpires
  rw [if_neg (ne_none_of_isSome runs)]
  rcases stays with fault | isolated
  · rw [fault]
  · rw [isolated]

end

/-- Settles O32. -/
theorem doorTimersFaultOrRetry : Obligations.DoorTimersFaultOrRetry := by
  intro d s running travel pause conflict x goes faulty again blocked
  refine ⟨fun runs closing => ?_, fun runs opening => ?_, fun none => ?_, fun runs obstructed most => ?_,
    fun runs obstructed less => ⟨fun free => ?_, fun struck => ?_⟩, fun none => ?_,
    fun runs fault isolated => ?_, fun runs stays => ?_, fun none => ?_⟩
  · exact runEvent_doorGoes (f := travelExpires d) running _ _
      (travelExpires_closing (u := s.taken travel) runs closing)
  · exact runEvent_doorGoes (f := travelExpires d) running _ _
      (travelExpires_opening (u := s.taken travel) runs opening)
  · exact runEvent_stays (f := travelExpires d) running (if_pos none)
  · exact runEvent_doorGoes (f := pauseExpires d) running _ _
      (pauseExpires_retries (u := s.taken pause) runs obstructed most)
  · exact runEvent_doorGoes (f := pauseExpires d) running _ _
      ((pauseExpires_again (u := s.taken pause) runs obstructed less).trans (doorCloses_free free))
  · have opens : (s.taken pause).doors[d].state ≠ .closing := fun closing =>
      absurd (obstructed.symm.trans closing) nofun
    have act := runEvent_doorStruck (f := pauseExpires d) running _ _
      ((pauseExpires_again (u := s.taken pause) runs obstructed less).trans (doorCloses_struck struck opens))
    have state : s.doors[d].state = .obstructed := obstructed
    rw [state] at act
    exact act
  · exact runEvent_stays (f := pauseExpires d) running (if_pos none)
  · exact runEvent_doorGoes (f := conflictExpires d) running _ _
      (conflictExpires_acts (u := s.taken conflict) runs fault isolated)
  · exact runEvent_modDoor (f := conflictExpires d) running _
      (conflictExpires_stays (u := s.taken conflict) runs stays)
  · exact runEvent_stays (f := conflictExpires d) running (if_pos none)

/-! ### Door input change events (R89 to R99) -/

theorem modDoor_self (u : State) (d : Fin 32) (k : DoorRecord → DoorRecord) :
    (u.modDoor d k).doors[d] = k u.doors[d] := by
  rw [State.modDoor_doors, upd_get_self]

/-- A change of the record before the door closes is lost, but for its state. -/
theorem doorCloses_modDoor {s : State} {d : Fin 32} {k : DoorRecord → DoorRecord}
    (state : (k s.doors[d]).state = s.doors[d].state) (y : DoorRecord) (cause : DoorCause) (edge : Bool) :
    (s.modDoor d k).doorCloses d y cause edge = s.doorCloses d y cause edge := by
  have goes := doorGoes_modDoor state (s.closingRecord d y) cause
  exact congrArg (fun t : State => if s.settings.doors[d].kind = .sliding ∧ edge = true then
    (t.countDoor d fun k => { k with obstructions := saturate k.obstructions }).doorGoes d
      (s.obstructedRecord d (s.closingRecord d y)) .edge else t) goes

/-- The record of a door after a door input change event, before it acts (R98). -/
def sees (now : DoorInputs) (x : DoorRecord) : DoorRecord :=
  { x with seen := now, conflict := conflictTimer x.seen now x.conflict }

/-- DOOR_INPUT_CHANGE, its notice taken. -/
def inputsChange (d : Fin 32) (inputs : DoorInputs) (s : State) : State :=
  let was := s.doors[d].seen
  let t := s.modDoor d fun x => { x with seen := inputs }
  if !s.doorFitted d || decide (s.doors[d].state = .isolated) then t
  else
    (t.modDoor d fun x => { x with conflict := conflictTimer was inputs x.conflict }).doorEvent d
      was inputs

theorem inputsChange_apart {d : Fin 32} {now : DoorInputs} {u : State}
    (apart : ¬u.settings.doors[d].kind ≠ .absent ∨ u.doors[d].state = .isolated) :
    inputsChange d now u = u.modDoor d fun x => { x with seen := now } := by
  unfold inputsChange State.doorFitted
  refine if_pos ?_
  rcases apart with absent | isolated
  · rw [decide_eq_false absent]
    rfl
  · rw [decide_eq_true isolated, Bool.or_true]

theorem inputsChange_acts {d : Fin 32} {now : DoorInputs} {u : State}
    (fitted : u.settings.doors[d].kind ≠ .absent) (acts : u.doors[d].state ≠ .isolated) :
    inputsChange d now u = (u.modDoor d fun _ => sees now u.doors[d]).doorEvent d u.doors[d].seen now := by
  have fused : upd u.doors d (fun x => { x with
      seen := now, conflict := conflictTimer u.doors[d].seen now x.conflict }) =
      upd u.doors d fun _ => sees now u.doors[d] := rfl
  have joined : (u.modDoor d fun x => { x with
      seen := now, conflict := conflictTimer u.doors[d].seen now x.conflict }) =
      u.modDoor d fun _ => sees now u.doors[d] := by
    unfold State.modDoor
    rw [fused]
  unfold inputsChange State.doorFitted
  dsimp only
  rw [decide_eq_true fitted, decide_eq_false acts, if_neg nofun, modDoor_modDoor, joined]

section
variable {v : State} {d : Fin 32} {was now : DoorInputs}

theorem doorEvent_closed (closed : v.doors[d].state = .closed) :
    v.doorEvent d was now = if was.closedSwitch && !now.closedSwitch then
      v.doorCloses d { v.doors[d] with retry := 0 } .passage now.edge else v := by
  unfold State.doorEvent
  rw [closed]
  dsimp only
  rw [startClosing_modDoor (f := fun x => { x with retry := 0 }) rfl]

theorem doorEvent_armed (armed : v.doors[d].state = .armed) :
    v.doorEvent d was now = if now.openCond then
      v.doorGoes d { v.doors[d] with state := .openHeld } .openSwitch else v := by
  unfold State.doorEvent
  rw [armed]
  dsimp only
  rw [enterDoor_eq_doorGoes]

theorem doorEvent_opening (opening : v.doors[d].state = .opening) :
    v.doorEvent d was now = if now.openCond then
      v.doorGoes d { v.doors[d] with state := .openHeld, travel := none } .openSwitch else v := by
  unfold State.doorEvent
  rw [opening]
  dsimp only
  rw [enterDoor_modDoor (f := fun x => { x with travel := none }) rfl]

theorem doorEvent_openHeld (openHeld : v.doors[d].state = .openHeld) :
    v.doorEvent d was now = if now.closedCond then
        (v.countDoor d fun k => { k with closures := saturate k.closures }).doorGoes d
          { v.doors[d] with state := .closed, lastClosed := v.clock } .closedSwitch
      else if was.openSwitch && !now.openSwitch then v.doorCloses d v.doors[d] .lostHold now.edge
      else v := by
  unfold State.doorEvent
  rw [openHeld]
  dsimp only
  rw [shutByHand_eq, startClosing_eq]

/-- The record of a door whose closing is timed (R93, R95). -/
def closedRecord (v : State) (x : DoorRecord) : DoorRecord :=
  { x with
    state := .closed
    travel := none
    pause := none
    lastClosed := v.clock
    closeDuration := some (v.uptime - x.mark)
    retry := 0 }

theorem doorEvent_closing (closing : v.doors[d].state = .closing) :
    v.doorEvent d was now = if now.closedCond then
        (v.countDoor d fun k => { k with closures := saturate k.closures }).doorGoes d
          (closedRecord v v.doors[d]) .closedSwitch
      else if v.sliding d && now.edge && !was.edge then
        (v.countDoor d fun k => { k with obstructions := saturate k.obstructions }).doorGoes d
          (v.obstructedRecord d v.doors[d]) .edge
      else v := by
  unfold State.doorEvent
  rw [closing]
  dsimp only
  rw [closeTimed_eq, obstruct_eq]
  rfl

theorem doorEvent_obstructed (obstructed : v.doors[d].state = .obstructed) :
    v.doorEvent d was now = if now.closedCond then
        (v.countDoor d fun k => { k with closures := saturate k.closures }).doorGoes d
          (closedRecord v v.doors[d]) .closedSwitch
      else v := by
  unfold State.doorEvent
  rw [obstructed]
  dsimp only
  rw [closeTimed_eq]
  rfl

theorem doorEvent_fault (fault : v.doors[d].state = .fault) :
    v.doorEvent d was now = if now.closedCond then
        (v.countDoor d fun k => { k with closures := saturate k.closures }).doorGoes d
          { v.doors[d] with state := .closed, cause := none, lastClosed := v.clock, retry := 0 }
          .closedSwitch
      else v := by
  unfold State.doorEvent
  rw [fault]
  dsimp only
  rw [closeFault_eq]

end

/-- The state in which the event acts. -/
def seen (s : State) (d : Fin 32) (now : DoorInputs) : State :=
  (s.taken (.doorInputChange d now)).modDoor d fun _ => sees now s.doors[d]

theorem seen_self (s : State) (d : Fin 32) (now : DoorInputs) : (seen s d now).doors[d] = sees now s.doors[d] :=
  modDoor_self _ _ _

section
variable {s : State} {d : Fin 32} {now : DoorInputs} (running : s.power = .running)
  (fitted : s.settings.doors[d].kind ≠ .absent)
include running fitted

theorem exec_inputs_stays (acts : s.doors[d].state ≠ .isolated)
    (h : (seen s d now).doorEvent d s.doors[d].seen now = seen s d now) :
    exec (.doorInputChange d now) s = .next { s.acted (.doorInputChange d now) [] with
      doors := s.doors.set d (sees now s.doors[d]) } :=
  runEvent_modDoor (f := inputsChange d now) running (fun _ => sees now s.doors[d])
    ((inputsChange_acts (u := s.taken _) fitted acts).trans h)

theorem exec_inputs_goes (acts : s.doors[d].state ≠ .isolated) (y : DoorRecord) (cause : DoorCause)
    (h : (seen s d now).doorEvent d s.doors[d].seen now = (seen s d now).doorGoes d y cause) :
    exec (.doorInputChange d now) s = .next
      { (s.acted (.doorInputChange d now) (doorReports d s.doors[d].state y.state cause)).withDoor d y with
        handed := s.handed.erase (.doorInputChange d now) ++ s.doorNotices d y } :=
  runEvent_doorGoes (f := inputsChange d now) running y cause
    ((inputsChange_acts (u := s.taken _) fitted acts).trans (h.trans (doorGoes_modDoor rfl y cause)))

theorem exec_inputs_counts (acts : s.doors[d].state ≠ .isolated) (y : DoorRecord) (cause : DoorCause)
    (k : DoorCounters → DoorCounters)
    (h : (seen s d now).doorEvent d s.doors[d].seen now =
      ((seen s d now).countDoor d k).doorGoes d y cause) :
    exec (.doorInputChange d now) s = .next
      { ((s.acted (.doorInputChange d now)
          (doorReports d s.doors[d].state y.state cause)).countDoor d k).withDoor d y with
        handed := s.handed.erase (.doorInputChange d now) ++ s.doorNotices d y } :=
  runEvent_doorGoes_count (f := inputsChange d now) running y cause k
    ((inputsChange_acts (u := s.taken _) fitted acts).trans
      (h.trans (doorGoes_modDoor (s := (s.taken _).countDoor d k) rfl y cause)))

theorem exec_inputs_closes (acts : s.doors[d].state ≠ .isolated) (y : DoorRecord) (cause : DoorCause)
    (opens : s.doors[d].state ≠ .closing)
    (h : (seen s d now).doorEvent d s.doors[d].seen now =
      (seen s d now).doorCloses d y cause now.edge) :
    (¬(s.settings.doors[d].kind = .sliding ∧ now.edge = true) →
      exec (.doorInputChange d now) s = .next
        { (s.acted (.doorInputChange d now) (doorReports d s.doors[d].state .closing cause)).withDoor d
            (s.closingRecord d y) with
          handed := s.handed.erase (.doorInputChange d now) ++ s.doorNotices d (s.closingRecord d y) }) ∧
    (s.settings.doors[d].kind = .sliding ∧ now.edge = true →
      exec (.doorInputChange d now) s = .next
        { ((s.acted (.doorInputChange d now) [toBoth (.doorState d s.doors[d].state .closing cause),
              toBoth (.doorState d .closing .obstructed .edge)]).countDoor d
              fun k => { k with obstructions := saturate k.obstructions }).withDoor d
            (s.obstructedRecord d (s.closingRecord d y)) with
          handed := s.handed.erase (.doorInputChange d now) ++ (s.doorNotices d (s.closingRecord d y) ++
            [.sourceChange (.doorState d) ⟨5, true⟩]) }) := by
  have closes : inputsChange d now (s.taken (.doorInputChange d now)) =
      (s.taken (.doorInputChange d now)).doorCloses d y cause now.edge :=
    (inputsChange_acts (u := s.taken _) fitted acts).trans (h.trans (doorCloses_modDoor rfl y cause _))
  exact ⟨fun free => runEvent_doorGoes (f := inputsChange d now) running _ _
      (closes.trans (doorCloses_free free)),
    fun struck => runEvent_doorStruck (f := inputsChange d now) running _ _
      (closes.trans (doorCloses_struck struck opens))⟩

end

theorem conflictTimer_eq (was now : DoorInputs) (t : Option Nat) : conflictTimer was now t =
    if ¬(now.openSwitch = true ∧ now.closedSwitch = true) then none
    else if was.openSwitch = true ∧ was.closedSwitch = true then t else some 1000 := by
  unfold conflictTimer DoorInputs.conflict
  simp only [Bool.not_eq_true', Bool.and_eq_true, ← Bool.not_eq_true]
  congr 1

theorem openCond_iff {i : DoorInputs} :
    i.openCond = true ↔ i.openSwitch = true ∧ i.closedSwitch = false := by
  simp [DoorInputs.openCond]

theorem closedCond_iff {i : DoorInputs} :
    i.closedCond = true ↔ i.closedSwitch = true ∧ i.openSwitch = false := by
  simp [DoorInputs.closedCond]

theorem falls_iff {x y : Bool} : (x && !y) = true ↔ x = true ∧ y = false := by simp

section
variable {s : State} {d : Fin 32} {now : DoorInputs} {st : DoorState}

theorem seen_state (state : s.doors[d].state = st) : (seen s d now).doors[d].state = st := by
  rw [seen_self]
  exact state

theorem acts_of_state (state : s.doors[d].state = st) (other : st ≠ .isolated) :
    s.doors[d].state ≠ .isolated := state ▸ other

end

/-- The notices of a change see only its state. -/
theorem doorNotices_state (s : State) (d : Fin 32) {x y : DoorRecord} (same : x.state = y.state) :
    s.doorNotices d x = s.doorNotices d y := by
  have counts : (s.withDoor d x).openCounts = (s.withDoor d y).openCounts :=
    withDoor_openCounts s d ⟨by rw [same], by rw [same]⟩
  unfold State.doorNotices
  rw [counts, same]

/-- A result with its notices in other words. -/
theorem next_handed {o : Result} {t : State} {h k : List Instr}
    (e : o = .next { t with handed := h }) (same : h = k) : o = .next { t with handed := k } := same ▸ e

/-- Settles O31: one event, by the state of the door. -/
theorem doorInputsMoveTheDoor : Obligations.DoorInputsMoveTheDoor := by
  constructor
  · intro d now s running i was both x isOpen isClosed stays goes closes acts
    have same : sees now s.doors[d] = x := congrArg (fun c => ({ s.doors[d] with
      seen := now, conflict := c } : DoorRecord)) (conflictTimer_eq _ _ _)
    have self : (seen s d now).doors[d] = x := (seen_self s d now).trans same
    have stay (fitted : acts) (active : s.doors[d].state ≠ .isolated)
        (h : (seen s d now).doorEvent d was now = seen s d now) : stays := by
      have act := exec_inputs_stays running fitted active h
      rw [same] at act
      exact act
    refine ⟨fun apart => ?_, fun fitted closed => ⟨fun parts => ?_, fun parts => ?_⟩,
      fun fitted armed => ⟨fun opens => ?_, fun opens => ?_⟩,
      fun fitted opening => ⟨fun opens => ?_, fun opens => ?_⟩,
      fun fitted openHeld => ⟨fun shut => ?_, fun shut falls => ?_, fun shut falls => ?_⟩⟩
    · exact runEvent_modDoor (f := inputsChange d now) running (fun x => { x with seen := now })
        (inputsChange_apart (u := s.taken i) apart)
    · have event := doorEvent_closed (was := was) (now := now) (seen_state (now := now) closed)
      rw [if_pos (falls_iff.2 parts), self] at event
      exact exec_inputs_closes running fitted (acts_of_state closed nofun) _ _
        (fun closing => absurd (closed.symm.trans closing) nofun) event
    · refine stay fitted (acts_of_state closed nofun) ?_
      rw [doorEvent_closed (seen_state closed), if_neg (mt falls_iff.1 parts)]
    · have event := doorEvent_armed (was := was) (now := now) (seen_state (now := now) armed)
      rw [if_pos (openCond_iff.2 opens), self] at event
      exact exec_inputs_goes running fitted (acts_of_state armed nofun) _ _ event
    · refine stay fitted (acts_of_state armed nofun) ?_
      rw [doorEvent_armed (seen_state armed), if_neg (mt openCond_iff.1 opens)]
    · have event := doorEvent_opening (was := was) (now := now) (seen_state (now := now) opening)
      rw [if_pos (openCond_iff.2 opens), self] at event
      exact exec_inputs_goes running fitted (acts_of_state opening nofun) _ _ event
    · refine stay fitted (acts_of_state opening nofun) ?_
      rw [doorEvent_opening (seen_state opening), if_neg (mt openCond_iff.1 opens)]
    · have event := doorEvent_openHeld (was := was) (now := now) (seen_state (now := now) openHeld)
      rw [if_pos (closedCond_iff.2 shut), self] at event
      have act := exec_inputs_counts running fitted (acts_of_state openHeld nofun) _ _ _ event
      rw [openHeld] at act
      exact next_handed act (congrArg (s.handed.erase i ++ ·) (doorNotices_state s d rfl))
    · have event := doorEvent_openHeld (was := was) (now := now) (seen_state (now := now) openHeld)
      rw [if_neg (mt closedCond_iff.1 shut), if_pos (falls_iff.2 falls), self] at event
      exact exec_inputs_closes running fitted (acts_of_state openHeld nofun) _ _
        (fun closing => absurd (openHeld.symm.trans closing) nofun) event
    · refine stay fitted (acts_of_state openHeld nofun) ?_
      rw [doorEvent_openHeld (seen_state openHeld), if_neg (mt closedCond_iff.1 shut),
        if_neg (mt falls_iff.1 falls)]
  · intro d now s running fitted i was both x isClosed struck goes closed
    have same : sees now s.doors[d] = x := congrArg (fun c => ({ s.doors[d] with
      seen := now, conflict := c } : DoorRecord)) (conflictTimer_eq _ _ _)
    have self : (seen s d now).doors[d] = x := (seen_self s d now).trans same
    have strikes : ((seen s d now).sliding d && now.edge && !was.edge) = true ↔
        s.settings.doors[d].kind = .sliding ∧ now.edge = true ∧ was.edge = false := by
      have sliding : (seen s d now).sliding d = decide (s.settings.doors[d].kind = .sliding) := rfl
      rw [sliding]
      simp [and_assoc]
    refine ⟨fun state shut => ?_, fun fault shut => ?_, fun shut hit => ?_, fun state shut free => ?_⟩
    · rcases state with closing | obstructed
      · have event := doorEvent_closing (was := was) (now := now) (seen_state (now := now) closing)
        rw [if_pos (closedCond_iff.2 shut), self] at event
        exact exec_inputs_counts running fitted (acts_of_state closing nofun) _ _ _ event
      · have event := doorEvent_obstructed (was := was) (now := now) (seen_state (now := now) obstructed)
        rw [if_pos (closedCond_iff.2 shut), self] at event
        exact exec_inputs_counts running fitted (acts_of_state obstructed nofun) _ _ _ event
    · have event := doorEvent_fault (was := was) (now := now) (seen_state (now := now) fault)
      rw [if_pos (closedCond_iff.2 shut), self] at event
      exact exec_inputs_counts running fitted (acts_of_state fault nofun) _ _ _ event
    · have event := doorEvent_closing (was := was) (now := now) (seen_state (now := now) hit.1)
      rw [if_neg (mt closedCond_iff.1 shut), if_pos (strikes.2 hit.2), self] at event
      exact exec_inputs_counts running fitted (acts_of_state hit.1 nofun) _ _ _ event
    · have stays (h : (seen s d now).doorEvent d was now = seen s d now)
          (active : s.doors[d].state ≠ .isolated) : exec i s = .next { s.acted i [] with
            doors := s.doors.set d x } := by
        have act := exec_inputs_stays running fitted active h
        rw [same] at act
        exact act
      rcases state with closing | obstructed | fault
      · refine stays ?_ (acts_of_state closing nofun)
        rw [doorEvent_closing (seen_state closing), if_neg (mt closedCond_iff.1 shut),
          if_neg fun hit => free ⟨closing, strikes.1 hit⟩]
      · refine stays ?_ (acts_of_state obstructed nofun)
        rw [doorEvent_obstructed (seen_state obstructed), if_neg (mt closedCond_iff.1 shut)]
      · refine stays ?_ (acts_of_state fault nofun)
        rw [doorEvent_fault (seen_state fault), if_neg (mt closedCond_iff.1 shut)]

/-! ### Requests (R87, R92, R100) -/

/-- The reply placed and the transmitters run leave a door and the notices. -/
theorem finish_withDoor (t : State) (l : Link) (r : Reply) (d : Fin 32) (y : DoorRecord)
    (h : List Instr) :
    (({ t.withDoor d y with handed := h } : State).placeReply l r).pump =
      { (t.placeReply l r).pump.withDoor d y with handed := h } := rfl

theorem finish_countDoor (t : State) (l : Link) (r : Reply) (d : Fin 32)
    (k : DoorCounters → DoorCounters) :
    ((t.countDoor d k).placeReply l r).pump = ((t.placeReply l r).pump).countDoor d k := rfl

theorem withDoor_countDoor (t : State) (d : Fin 32) (k : DoorCounters → DoorCounters) (y : DoorRecord)
    (h : List Instr) :
    ({ t.withDoor d y with handed := h } : State).countDoor d k =
      { (t.countDoor d k).withDoor d y with handed := h } := rfl

theorem openRequest_doors (s : State) (l : Link) (i : Instr) : (s.openRequest l i).doors = s.doors := rfl

theorem openRequest_handed (s : State) (l : Link) (i : Instr) :
    (s.openRequest l i).handed = s.handed := rfl

theorem openRequest_doorNotices (s : State) (l : Link) (i : Instr) (d : Fin 32) (y : DoorRecord) :
    (s.openRequest l i).doorNotices d y = s.doorNotices d y := rfl

theorem answered_eq (s : State) (l : Link) (tag : Byte) (i : Instr)
    (rs : List (Option Link × ReportBody)) (data : ReplyData) :
    ((((s.openRequest l i).says rs).placeReply l ⟨i.kind, tag, data⟩).pump) = s.answered l tag i rs data :=
  rfl

section
variable {s : State} {l : Link} {tag : Byte} {i : Instr} {d : Fin 32} {f : State → State × ReplyData}
  {data : ReplyData} (running : s.power = .running)
include running

/-- A request that only answers. -/
theorem runRequest_answers (h : f (s.openRequest l i) = (s.openRequest l i, data)) :
    runRequest i l tag s f = .next (s.answered l tag i [] data) := by
  rw [runRequest_of_running running, h]
  rfl

theorem runRequest_doorGoes (y : DoorRecord) (cause : DoorCause)
    (h : f (s.openRequest l i) = ((s.openRequest l i).doorGoes d y cause, data)) :
    runRequest i l tag s f = .next
      { (s.answered l tag i (doorReports d s.doors[d].state y.state cause) data).withDoor d y with
        handed := s.handed ++ s.doorNotices d y } := by
  rw [runRequest_of_running running, h]
  unfold State.doorGoes
  dsimp only
  rw [finish_withDoor, answered_eq, openRequest_doors, openRequest_handed, openRequest_doorNotices]

theorem runRequest_doorGoes_count (y : DoorRecord) (cause : DoorCause)
    (k : DoorCounters → DoorCounters)
    (h : f (s.openRequest l i) = (((s.openRequest l i).countDoor d k).doorGoes d y cause, data)) :
    runRequest i l tag s f = .next
      { ((s.answered l tag i (doorReports d s.doors[d].state y.state cause) data).countDoor d k).withDoor
          d y with
        handed := s.handed ++ s.doorNotices d y } := by
  rw [runRequest_of_running running, h, doorGoes_countDoor]
  unfold State.doorGoes
  dsimp only
  rw [finish_countDoor, finish_withDoor, answered_eq, withDoor_countDoor, openRequest_doors,
    openRequest_handed, openRequest_doorNotices]

theorem runRequest_doorStruck (y : DoorRecord) (cause : DoorCause)
    (h : f (s.openRequest l i) = (doorStruck (s.openRequest l i) d y cause, data)) :
    runRequest i l tag s f = .next
      { ((s.answered l tag i [toBoth (.doorState d s.doors[d].state .closing cause),
            toBoth (.doorState d .closing .obstructed .edge)] data).countDoor d
              fun k => { k with obstructions := saturate k.obstructions }).withDoor d
          (s.obstructedRecord d (s.closingRecord d y)) with
        handed := s.handed ++ (s.doorNotices d (s.closingRecord d y) ++
          [.sourceChange (.doorState d) ⟨5, true⟩]) } := by
  rw [runRequest_of_running running, h]
  unfold doorStruck
  dsimp only
  rw [finish_withDoor, finish_countDoor, answered_eq, openRequest_doors, openRequest_handed]
  rfl

end

/-! ### DOOR ISOLATE and DOOR RESTORE (R100) -/

/-- DOOR ISOLATE, past the naming of its door. -/
def isolates (l : Link) (d : Fin 32) (s : State) : State × ReplyData :=
  if !s.atService l then deny s .level
  else if s.doors[d].state = .isolated then done s []
  else done (s.isolateDoor d) []

/-- DOOR RESTORE, past the naming of its door. -/
def restores (l : Link) (d : Fin 32) (s : State) : State × ReplyData :=
  if !s.atService l then deny s .level
  else if s.doors[d].state ≠ .isolated then deny s .state
  else
    let t := s.deriveDoor d .restore s.chain.levels[d]
    done t [t.doorCode d]

theorem exec_doorIsolate {l : Link} {tag : Byte} {d : Fin 32} {s : State}
    (fitted : s.settings.doors[d].kind ≠ .absent) :
    exec (.doorIsolate l tag d) s = runRequest (.doorIsolate l tag d) l tag s (isolates l d) := by
  change execDoorIsolate l tag d s = _
  have named : (s.openRequest l (.doorIsolate l tag d)).fittedDoor? d = some d :=
    fittedDoor?_of_fitted fitted
  unfold execDoorIsolate runRequest
  dsimp only
  rw [named]
  rfl

theorem exec_doorRestore {l : Link} {tag : Byte} {d : Fin 32} {s : State}
    (fitted : s.settings.doors[d].kind ≠ .absent) :
    exec (.doorRestore l tag d) s = runRequest (.doorRestore l tag d) l tag s (restores l d) := by
  change execDoorRestore l tag d s = _
  have named : (s.openRequest l (.doorRestore l tag d)).fittedDoor? d = some d :=
    fittedDoor?_of_fitted fitted
  unfold execDoorRestore runRequest
  dsimp only
  rw [named]
  rfl

theorem atService_of_operate {s : State} {l : Link} (h : s.station.level.get l = .operate) :
    s.atService l = false := decide_eq_false fun service => absurd (h.symm.trans service) nofun

theorem atService_of_service {s : State} {l : Link} (h : s.station.level.get l = .service) :
    s.atService l = true := decide_eq_true h

/-- The record of a door derived from its inputs, before its state (R100). -/
def derived (x : DoorRecord) (i : DoorInputs) : DoorRecord :=
  { x.stopped with seen := i, cause := none, conflict := if i.conflict then some 1000 else none }

theorem restores_closed {l : Link} {d : Fin 32} {u : State} (service : u.atService l = true)
    (isolated : u.doors[d].state = .isolated) (shut : u.chain.levels[d].closedSwitch = true) :
    restores l d u = (u.doorGoes d { derived u.doors[d] u.chain.levels[d] with state := .closed } .restore,
      .done [byte DoorState.closed.code]) := by
  have derive := deriveDoor_eq u d .restore u.chain.levels[d]
  dsimp only at derive
  rw [if_pos shut] at derive
  unfold restores State.doorCode
  dsimp only
  rw [service, if_neg nofun, if_neg (not_not.2 isolated), derive, doorGoes_doors_self]
  rfl

theorem restores_open {l : Link} {d : Fin 32} {u : State} (service : u.atService l = true)
    (isolated : u.doors[d].state = .isolated) (shut : u.chain.levels[d].closedSwitch = false) :
    restores l d u = (u.doorCloses d (derived u.doors[d] u.chain.levels[d]) .restore
        u.chain.levels[d].edge,
      .done [byte (if u.settings.doors[d].kind = .sliding ∧ u.chain.levels[d].edge = true then
        DoorState.obstructed else .closing).code]) := by
  have derive := deriveDoor_eq u d .restore u.chain.levels[d]
  dsimp only at derive
  rw [if_neg (by rw [shut]; exact nofun)] at derive
  unfold restores State.doorCode
  dsimp only
  rw [service, if_neg nofun, if_neg (not_not.2 isolated), derive, doorCloses_state]
  rfl

theorem restores_free {l : Link} {d : Fin 32} {u : State} (service : u.atService l = true)
    (isolated : u.doors[d].state = .isolated) (shut : u.chain.levels[d].closedSwitch = false)
    (free : ¬(u.settings.doors[d].kind = .sliding ∧ u.chain.levels[d].edge = true)) :
    restores l d u = (u.doorGoes d (u.closingRecord d (derived u.doors[d] u.chain.levels[d])) .restore,
      .done [byte DoorState.closing.code]) := by
  rw [restores_open service isolated shut, doorCloses_free free, if_neg free]

theorem restores_struck {l : Link} {d : Fin 32} {u : State} (service : u.atService l = true)
    (isolated : u.doors[d].state = .isolated) (shut : u.chain.levels[d].closedSwitch = false)
    (struck : u.settings.doors[d].kind = .sliding ∧ u.chain.levels[d].edge = true) :
    restores l d u = (doorStruck u d (derived u.doors[d] u.chain.levels[d]) .restore,
      .done [byte DoorState.obstructed.code]) := by
  have opens : u.doors[d].state ≠ .closing := fun closing => absurd (isolated.symm.trans closing) nofun
  rw [restores_open service isolated shut, doorCloses_struck struck opens, if_pos struck]

theorem conflict_iff {i : DoorInputs} :
    i.conflict = true ↔ i.openSwitch = true ∧ i.closedSwitch = true := by
  simp [DoorInputs.conflict]

/-- Settles O33. -/
theorem doorIsolateAndRestore : Obligations.DoorIsolateAndRestore := by
  intro l tag d s running fitted isolate restore x now idle out back returns
  have same : derived x now = back := by
    unfold derived
    rw [if_congr conflict_iff rfl rfl]
    rfl
  have isolates' := exec_doorIsolate (l := l) (tag := tag) fitted
  have restores' := exec_doorRestore (l := l) (tag := tag) fitted
  refine ⟨fun operate => ⟨?_, ?_⟩, fun service => ⟨fun isolated => ?_, fun other => ⟨?_, ?_⟩,
    fun isolated shut => ?_, fun isolated shut free => ?_, fun isolated shut sliding edge => ?_⟩⟩
  · refine isolates'.trans (runRequest_answers running (if_pos ?_))
    rw [show (s.openRequest l isolate).atService l = false from atService_of_operate operate]
    rfl
  · refine restores'.trans (runRequest_answers running (if_pos ?_))
    rw [show (s.openRequest l restore).atService l = false from atService_of_operate operate]
    rfl
  all_goals have serves (i : Instr) : (s.openRequest l i).atService l = true := atService_of_service service
  · refine isolates'.trans (runRequest_answers running ?_)
    unfold isolates
    rw [serves, if_neg nofun]
    exact if_pos isolated
  · have act : isolates l d (s.openRequest l isolate) = ((s.openRequest l isolate).doorGoes d out .isolate,
        .done []) := by
      unfold isolates
      rw [serves, if_neg nofun]
      exact (if_neg other).trans (congrArg (done · []) (isolateDoor_eq _ d))
    have goes := isolates'.trans (runRequest_doorGoes running out .isolate act)
    rw [show doorReports d s.doors[d].state out.state .isolate =
      [toBoth (.doorState d x.state .isolated .isolate)] from if_neg other] at goes
    exact goes
  · refine restores'.trans (runRequest_answers running ?_)
    unfold restores
    rw [serves, if_neg nofun]
    exact if_pos other
  · have act := restores_closed (u := s.openRequest l restore) (serves _) isolated shut
    have goes := restores'.trans (runRequest_doorGoes running _ _ act)
    rw [show s.doors[d].state = .isolated from isolated] at goes
    rw [← same]
    exact goes
  · have act := restores_free (u := s.openRequest l restore) (serves _) isolated shut free
    have goes := restores'.trans (runRequest_doorGoes running _ _ act)
    rw [show s.doors[d].state = .isolated from isolated] at goes
    rw [← same]
    exact goes
  · have act := restores_struck (u := s.openRequest l restore) (serves _) isolated shut ⟨sliding, edge⟩
    have goes := restores'.trans (runRequest_doorStruck running _ _ act)
    rw [show s.doors[d].state = .isolated from isolated] at goes
    rw [← same]
    exact goes

end Sys2Proof.Proofs
end

section
/-! SUPPORT. DOOR HOLD and DOOR RELEASE of a door and of a zone, and the alarm of a zone (05, 5.3, 5.4,
5.7). -/

open Sys2Proof Sys2Proof.Machine

namespace Sys2Proof.Proofs

/-! ### One door (R87, R92) -/

/-- DOOR HOLD, past the naming of its door. -/
def holds (d : Fin 32) (s : State) : State × ReplyData :=
  if s.zones[s.settings.doors[d].zone].alarm then deny s .zoneInAlarm
  else if s.doors[d].state ≠ .closed then deny s .state
  else done (s.holdDoor d) [(s.holdDoor d).doorCode d]

/-- DOOR RELEASE, past the naming of its door. -/
def releases (d : Fin 32) (s : State) : State × ReplyData :=
  done (s.releaseDoor d .release) [(s.releaseDoor d .release).doorCode d]

theorem exec_doorHold {l : Link} {tag : Byte} {d : Fin 32} {s : State}
    (fitted : s.settings.doors[d].kind ≠ .absent) :
    exec (.doorHold l tag d) s = runRequest (.doorHold l tag d) l tag s (holds d) := by
  change execDoorHold l tag d s = _
  have named : (s.openRequest l (.doorHold l tag d)).fittedDoor? d = some d :=
    fittedDoor?_of_fitted fitted
  unfold execDoorHold runRequest
  dsimp only
  rw [named]
  rfl

theorem exec_doorRelease {l : Link} {tag : Byte} {d : Fin 32} {s : State}
    (fitted : s.settings.doors[d].kind ≠ .absent) :
    exec (.doorRelease l tag d) s = runRequest (.doorRelease l tag d) l tag s (releases d) := by
  change execDoorRelease l tag d s = _
  have named : (s.openRequest l (.doorRelease l tag d)).fittedDoor? d = some d :=
    fittedDoor?_of_fitted fitted
  unfold execDoorRelease runRequest
  dsimp only
  rw [named]
  rfl

/-- The record of a door after its release is counted (R92). -/
def released (x : DoorRecord) (now : DeckTime) : DoorRecord := { x with lastRelease := now, retry := 0 }

/-- One more release counted (R92). -/
def countRelease (k : DoorCounters) : DoorCounters := { k with releases := saturate k.releases }

section
variable {d : Fin 32} {u : State} {cause : DoorCause}

theorem doorReleased_free (held : u.doors[d].state.heldOpen = false) : u.doorReleased d cause = u :=
  if_pos held

theorem doorReleased_armed (armed : u.doors[d].state = .armed)
    (shut : u.doors[d].seen.closedSwitch = true) :
    u.doorReleased d cause = (u.countDoor d countRelease).doorGoes d
      { released u.doors[d] u.clock with state := .closed } cause := by
  have held : ¬u.doors[d].state.heldOpen = false := by rw [armed]; exact nofun
  exact (if_neg held).trans (if_pos ⟨armed, shut⟩)

theorem doorReleased_closes (held : u.doors[d].state.heldOpen = true)
    (opens : ¬(u.doors[d].state = .armed ∧ u.doors[d].seen.closedSwitch = true)) :
    u.doorReleased d cause = (u.countDoor d countRelease).doorCloses d (released u.doors[d] u.clock)
      cause u.doors[d].seen.edge :=
  (if_neg (by rw [held]; exact nofun)).trans (if_neg opens)

/-- The answer names the state a release leaves the door in. -/
theorem releases_eq (d : Fin 32) (u : State) : releases d u = (u.doorReleased d .release,
    .done [byte (releasedState u.settings.doors[d].kind u.doors[d]).code]) := by
  unfold releases State.doorCode
  rw [releaseDoor_eq, doorReleased_state]
  rfl

/-- A held door that does not close at once. -/
def ReleasedToClose (x : DoorRecord) : Prop :=
  x.state.heldOpen = true ∧ ¬(x.state = .armed ∧ x.seen.closedSwitch = true)

theorem releasedState_closes {k : DoorKind} {x : DoorRecord} (closes : ReleasedToClose x) :
    releasedState k x = if k = .sliding ∧ x.seen.edge = true then .obstructed else .closing :=
  (if_neg (by rw [closes.1]; exact nofun)).trans (if_neg closes.2)

theorem releases_free (closes : ReleasedToClose u.doors[d])
    (free : ¬(u.settings.doors[d].kind = .sliding ∧ u.doors[d].seen.edge = true)) :
    releases d u = ((u.countDoor d countRelease).doorGoes d
      (u.closingRecord d (released u.doors[d] u.clock)) .release, .done [byte DoorState.closing.code]) := by
  rw [releases_eq, releasedState_closes closes, if_neg free, doorReleased_closes closes.1 closes.2,
    doorCloses_free (s := u.countDoor d countRelease) free]
  rfl

theorem releases_struck (closes : ReleasedToClose u.doors[d])
    (struck : u.settings.doors[d].kind = .sliding ∧ u.doors[d].seen.edge = true) :
    releases d u = (doorStruck (u.countDoor d countRelease) d (released u.doors[d] u.clock) .release,
      .done [byte DoorState.obstructed.code]) := by
  have opens : u.doors[d].state ≠ .closing := by
    intro state
    have held := closes.1
    rw [state] at held
    exact absurd held nofun
  rw [releases_eq, releasedState_closes closes, if_pos struck, doorReleased_closes closes.1 closes.2,
    doorCloses_struck (s := u.countDoor d countRelease) struck opens]

theorem holds_eq (alarm : u.zones[u.settings.doors[d].zone].alarm = false)
    (closed : u.doors[d].state = .closed) :
    holds d u = (u.doorHeld d, .done [byte (u.doorHeld d).doors[d].state.code]) := by
  unfold holds State.doorCode
  rw [alarm, if_neg nofun, if_neg (not_not.2 closed), holdDoor_eq]
  rfl

end

section
variable {s : State} {l : Link} {tag : Byte} {i : Instr} {d : Fin 32} {f : State → State × ReplyData}
  {data : ReplyData} (running : s.power = .running)
include running

theorem runRequest_doorStruck_count (y : DoorRecord) (cause : DoorCause)
    (k : DoorCounters → DoorCounters)
    (h : f (s.openRequest l i) = (doorStruck ((s.openRequest l i).countDoor d k) d y cause, data)) :
    runRequest i l tag s f = .next
      { ((s.answered l tag i [toBoth (.doorState d s.doors[d].state .closing cause),
            toBoth (.doorState d .closing .obstructed .edge)] data).countDoor d
              fun c => { k c with obstructions := saturate (k c).obstructions }).withDoor d
          (s.obstructedRecord d (s.closingRecord d y)) with
        handed := s.handed ++ (s.doorNotices d (s.closingRecord d y) ++
          [.sourceChange (.doorState d) ⟨5, true⟩]) } := by
  have counted (t : State) : ((t.countDoor d k).countDoor d fun c =>
      { c with obstructions := saturate c.obstructions }) =
      t.countDoor d fun c => { k c with obstructions := saturate (k c).obstructions } := by
    unfold State.countDoor
    dsimp only
    rw [Machine.upd_upd]
  have told (rs : List (Option Link × ReportBody)) (t : State) :
      (t.countDoor d k).says rs = (t.says rs).countDoor d k := by
    rw [says_eq, says_eq]
    rfl
  rw [runRequest_of_running running, h]
  unfold doorStruck
  dsimp only
  rw [State.countDoor_doors, told, counted, finish_withDoor, finish_countDoor, answered_eq,
    openRequest_doors]
  rfl

end

theorem doorOutputs_iff (k : DoorKind) (x : DoorState) :
    ((doorOutputs k x).magnet = true ↔ x = .armed ∨ (x = .openHeld ∧ k = .swing)) ∧
    ((doorOutputs k x).closeDrive = true ↔ x = .closing ∧ k = .sliding) ∧
    ((doorOutputs k x).openDrive = true ↔ x = .opening) := by
  cases k <;> cases x <;> decide

/-- Settles O29. -/
theorem doorHoldAndRelease : Obligations.DoorHoldAndRelease := by
  refine ⟨doorOutputs_iff, ?_⟩
  intro l tag d s running fitted hold release kind x refuses held freed releases' closing closes
  have holding := exec_doorHold (l := l) (tag := tag) fitted
  have releasing := exec_doorRelease (l := l) (tag := tag) fitted
  refine ⟨fun alarm => ?_, fun alarm opens => ?_, fun alarm closed => ?_, fun armed opening openHeld => ?_,
    fun armed shut => ?_, fun some' => ⟨fun free => ?_, fun struck => ?_⟩⟩
  · exact holding.trans (runRequest_answers running (if_pos alarm))
  · refine holding.trans (runRequest_answers running ?_)
    exact (if_neg (by rw [show (s.openRequest l hold).zones[(s.openRequest l hold).settings.doors[d].zone].alarm
      = false from alarm]; exact nofun)).trans (if_pos opens)
  · have act := holds_eq (u := s.openRequest l hold) alarm closed
    have self : ((s.openRequest l hold).doorHeld d).doors[d] = held := doorGoes_doors_self _ _ _ _
    rw [self] at act
    have goes := holding.trans (runRequest_doorGoes running held .hold act)
    have moves : s.doors[d].state ≠ held.state := by
      rw [closed]
      dsimp only [held]
      split <;> exact nofun
    rw [show doorReports d s.doors[d].state held.state .hold =
      [toBoth (.doorState d s.doors[d].state held.state .hold)] from if_neg moves, closed] at goes
    exact goes
  · have free : s.doors[d].state.heldOpen = false := by
      cases state : s.doors[d].state with
      | armed => exact absurd state armed
      | opening => exact absurd state opening
      | openHeld => exact absurd state openHeld
      | _ => rfl
    refine releasing.trans (runRequest_answers running ?_)
    rw [releases_eq, doorReleased_free (u := s.openRequest l release) free]
    rw [show releasedState (s.openRequest l release).settings.doors[d].kind
      (s.openRequest l release).doors[d] = x.state from if_pos free]
  · have act := releases_eq d (s.openRequest l release)
    have state : releasedState s.settings.doors[d].kind s.doors[d] = .closed :=
      (if_neg (by rw [show s.doors[d].state = .armed from armed]; exact nofun)).trans
        (if_pos ⟨armed, shut⟩)
    rw [doorReleased_armed (u := s.openRequest l release) armed shut,
      show releasedState (s.openRequest l release).settings.doors[d].kind
        (s.openRequest l release).doors[d] = .closed from state] at act
    have goes := releasing.trans (runRequest_doorGoes_count running _ _ _ act)
    have moves : s.doors[d].state ≠ .closed := by
      rw [show s.doors[d].state = .armed from armed]
      exact nofun
    rw [show doorReports d s.doors[d].state .closed .release =
      [toBoth (.doorState d s.doors[d].state .closed .release)] from if_neg moves] at goes
    exact goes
  all_goals
    have toClose : ReleasedToClose s.doors[d] := by
      unfold ReleasedToClose
      rcases some' with ⟨armed, unshut⟩ | opening | openHeld
      · rw [show s.doors[d].state = .armed from armed, show s.doors[d].seen.closedSwitch = false from unshut]
        exact ⟨rfl, nofun⟩
      · rw [show s.doors[d].state = .opening from opening]
        exact ⟨rfl, nofun⟩
      · rw [show s.doors[d].state = .openHeld from openHeld]
        exact ⟨rfl, nofun⟩
    have moves : s.doors[d].state ≠ .closing := by
      intro state
      have isHeld := toClose.1
      rw [state] at isHeld
      exact absurd isHeld nofun
  · have act := releases_free (u := s.openRequest l release) toClose free
    have goes := releasing.trans (runRequest_doorGoes_count running closing _ _ act)
    rw [show doorReports d s.doors[d].state closing.state .release =
      [toBoth (.doorState d s.doors[d].state .closing .release)] from if_neg moves] at goes
    exact goes
  · have act := releases_struck (u := s.openRequest l release) toClose struck
    have goes := releasing.trans (runRequest_doorStruck_count running freed .release _ act)
    exact goes

/-! ### The doors of a zone (R88, R92, R105) -/

/-- All that a door's change alters of the part is as `t` has it, and the rest as `s` has it. -/
def withDoorsOf (s t : State) : State := { s with
  links := t.links
  counters := { t.counters with axes := s.counters.axes }
  doors := t.doors
  chain := { s.chain with outputs := t.chain.outputs }
  openCounts := t.openCounts
  handed := t.handed }

/-- `t` differs from `s` only in what a door's change alters. -/
def DoorsOnly (s t : State) : Prop := t = withDoorsOf s t

theorem DoorsOnly.trans {s t u : State} (h : DoorsOnly s t) (k : DoorsOnly t u) : DoorsOnly s u :=
  calc u = withDoorsOf t u := k
    _ = withDoorsOf (withDoorsOf s t) u := congrArg (withDoorsOf · u) h

theorem DoorsOnly.settings {s t : State} (h : DoorsOnly s t) : t.settings = s.settings :=
  congrArg (·.settings) h

theorem doorsOnly_doorGoes (s : State) (d : Fin 32) (y : DoorRecord) (cause : DoorCause) :
    DoorsOnly s (s.doorGoes d y cause) := by
  unfold DoorsOnly State.doorGoes
  rw [says_eq]
  rfl

theorem doorsOnly_countDoor (s : State) (d : Fin 32) (k : DoorCounters → DoorCounters) :
    DoorsOnly s (s.countDoor d k) := rfl

theorem doorsOnly_doorCloses (s : State) (d : Fin 32) (y : DoorRecord) (cause : DoorCause) (edge : Bool) :
    DoorsOnly s (s.doorCloses d y cause edge) := by
  unfold State.doorCloses
  dsimp only
  split
  · exact ((doorsOnly_doorGoes s d _ cause).trans (doorsOnly_countDoor _ d _)).trans
      (doorsOnly_doorGoes _ d _ _)
  · exact doorsOnly_doorGoes s d _ cause

theorem doorsOnly_doorReleased (s : State) (d : Fin 32) (cause : DoorCause) :
    DoorsOnly s (s.doorReleased d cause) := by
  unfold State.doorReleased
  dsimp only
  split
  · rfl
  split
  · exact (doorsOnly_countDoor s d _).trans (doorsOnly_doorGoes _ d _ _)
  · exact (doorsOnly_countDoor s d _).trans (doorsOnly_doorCloses _ d _ _ _)

/-- Door `d` has the record and the outputs in `t` that it has in `s`. -/
def KeepsDoor (d : Fin 32) (s t : State) : Prop :=
  t.doors[d] = s.doors[d] ∧ t.chain.outputs[d] = s.chain.outputs[d]

theorem KeepsDoor.trans {d : Fin 32} {s t u : State} (h : KeepsDoor d s t) (k : KeepsDoor d t u) :
    KeepsDoor d s u := ⟨k.1.trans h.1, k.2.trans h.2⟩

theorem keepsDoor_countDoor (s : State) (d e : Fin 32) (k : DoorCounters → DoorCounters) :
    KeepsDoor d s (s.countDoor e k) := ⟨rfl, rfl⟩

section
variable {d e : Fin 32} (other : d ≠ e)
include other

theorem keepsDoor_doorGoes (s : State) (y : DoorRecord) (cause : DoorCause) :
    KeepsDoor d s (s.doorGoes e y cause) := by
  have outputs : (s.doorGoes e y cause).chain.outputs =
      s.chain.outputs.set e (doorOutputs s.settings.doors[e].kind y.state) := by
    unfold State.doorGoes State.withDoor
    rw [says_eq]
    rfl
  refine ⟨doorGoes_doors_other other y cause, ?_⟩
  rw [outputs]
  exact set_others _ _ _ _ other

theorem keepsDoor_doorCloses (s : State) (y : DoorRecord) (cause : DoorCause) (edge : Bool) :
    KeepsDoor d s (s.doorCloses e y cause edge) := by
  unfold State.doorCloses
  dsimp only
  split
  · exact ((keepsDoor_doorGoes other s _ cause).trans (keepsDoor_countDoor _ d e _)).trans
      (keepsDoor_doorGoes other _ _ _)
  · exact keepsDoor_doorGoes other s _ cause

theorem keepsDoor_doorReleased (s : State) (cause : DoorCause) :
    KeepsDoor d s (s.doorReleased e cause) := by
  unfold State.doorReleased
  dsimp only
  split
  · exact ⟨rfl, rfl⟩
  split
  · exact (keepsDoor_countDoor s d e _).trans (keepsDoor_doorGoes other _ _ cause)
  · exact (keepsDoor_countDoor s d e _).trans (keepsDoor_doorCloses other _ _ cause _)

end

/-- A relation that each act has is had by a row of acts. -/
theorem foldl_related {α : Type} {R : State → State → Prop} {f : State → α → State}
    (refl : ∀ s, R s s) (trans : ∀ {s t u}, R s t → R t u → R s u) {xs : List α}
    (acts : ∀ s, ∀ x ∈ xs, R s (f s x)) (s : State) : R s (xs.foldl f s) := by
  induction xs generalizing s with
  | nil => exact refl s
  | cons x xs ih =>
    exact trans (acts s x List.mem_cons_self)
      (ih (fun s y later => acts s y (List.mem_cons_of_mem x later)) _)

/-- What one act of a row makes of what the others keep. -/
theorem foldl_once {α : Type} [DecidableEq α] {f : State → α → State} {before after : State → Prop}
    {x : α} {xs : List α} (distinct : xs.Nodup) (listed : x ∈ xs)
    (waits : ∀ s y, y ≠ x → before s → before (f s y)) (acts : ∀ s, before s → after (f s x))
    (keeps : ∀ s y, y ≠ x → after s → after (f s y)) {s : State} (h : before s) :
    after (xs.foldl f s) := by
  induction xs generalizing s with
  | nil => exact absurd listed List.not_mem_nil
  | cons y ys ih =>
    obtain ⟨once, distinct'⟩ := List.nodup_cons.1 distinct
    by_cases at' : y = x
    · subst at'
      have kept (zs : List α) (apart : y ∉ zs) (t : State) (ht : after t) : after (zs.foldl f t) := by
        induction zs generalizing t with
        | nil => exact ht
        | cons z zs ih =>
          obtain ⟨ne, apart'⟩ := not_or.1 (mt List.mem_cons.2 apart)
          exact ih apart' _ (keeps t z (Ne.symm ne) ht)
      exact kept ys once _ (acts s h)
    · exact ih distinct' ((List.mem_cons.1 listed).resolve_left fun eq => at' eq.symm)
        (waits s y at' h)

theorem nodup_filter_finRange {n : ℕ} (p : Fin n → Bool) : ((List.finRange n).filter p).Nodup :=
  (List.nodup_finRange n).filter p

section
variable {ds : List (Fin 32)} {f : State → Fin 32 → State}

theorem doorsOnly_foldl (acts : ∀ s d, DoorsOnly s (f s d)) (s : State) : DoorsOnly s (ds.foldl f s) :=
  foldl_related (R := DoorsOnly) (fun _ => rfl) .trans (fun s d _ => acts s d) s

theorem keepsDoor_foldl (acts : ∀ s {d e}, d ≠ e → KeepsDoor d s (f s e)) (s : State) {d : Fin 32}
    (apart : d ∉ ds) : KeepsDoor d s (ds.foldl f s) :=
  foldl_related (R := KeepsDoor d) (fun _ => ⟨rfl, rfl⟩) .trans
    (fun s _ listed => acts s fun same => apart (same ▸ listed)) s

/-- What one door of a row goes to depends on its record and the settings alone. -/
theorem door_foldl (acts : ∀ s {d e}, d ≠ e → KeepsDoor d s (f s e)) (only : ∀ s d, DoorsOnly s (f s d))
    {P : DoorRecord → Prop} {d : Fin 32} {s : State} (distinct : ds.Nodup) (listed : d ∈ ds)
    (goes : ∀ u : State, u.doors[d] = s.doors[d] → u.settings = s.settings → P (f u d).doors[d]) :
    P (ds.foldl f s).doors[d] :=
  foldl_once (before := fun u => u.doors[d] = s.doors[d] ∧ u.settings = s.settings)
    (after := fun u => P u.doors[d]) distinct listed
    (fun u e other h => ⟨(acts u other.symm).1.trans h.1, (only u e).settings.trans h.2⟩)
    (fun u h => goes u h.1 h.2)
    (fun u e other h => by
      have kept := (acts u other.symm).1
      rw [kept]
      exact h) ⟨rfl, rfl⟩

end

theorem doorsOnly_doorHeld (s : State) (d : Fin 32) : DoorsOnly s (s.doorHeld d) := doorsOnly_doorGoes s d _ _

theorem keepsDoor_doorHeld (s : State) {d e : Fin 32} (other : d ≠ e) : KeepsDoor d s (s.doorHeld e) :=
  keepsDoor_doorGoes other s _ _

theorem doorHeld_state (s : State) (d : Fin 32) : (s.doorHeld d).doors[d].state =
    if s.settings.doors[d].kind = .sliding then .opening else .armed := by
  unfold State.doorHeld
  rw [doorGoes_doors_self]
  split <;> rfl

/-- The doors of a zone, as Safety lists them. -/
theorem zoneDoors_eq (s : State) (z : Fin 8) : s.zoneDoors z = (List.finRange 32).filter fun d =>
    decide (s.settings.doors[d].kind ≠ .absent ∧ s.settings.doors[d].zone = z) :=
  List.filter_congr fun _ _ => (Bool.decide_and _ _).symm

/-- What a request's frame and its reply leave of what the doors alone change. -/
theorem doorsOnly_answeredBy {s : State} {l : Link} {tag : Byte} {i : Instr} {data : ReplyData}
    {f : State → State} (h : DoorsOnly (s.openRequest l i) (f (s.openRequest l i))) :
    DoorsOnly s (s.answeredBy l tag i data f) := by
  have opened : DoorsOnly s (s.openRequest l i) := rfl
  have ends (t : State) (r : Reply) : DoorsOnly t (t.placeReply l r).pump := rfl
  exact (opened.trans h).trans (ends _ _)

theorem keepsDoor_answeredBy {s : State} {l : Link} {tag : Byte} {i : Instr} {data : ReplyData}
    {f : State → State} {d : Fin 32} (h : KeepsDoor d (s.openRequest l i) (f (s.openRequest l i))) :
    KeepsDoor d s (s.answeredBy l tag i data f) := h

theorem releaseDoors_eq (s : State) (ds : List (Fin 32)) (cause : DoorCause) :
    s.releaseDoors ds cause = ds.foldl (fun u d => u.doorReleased d cause) s :=
  congrArg (fun f => ds.foldl f s) (funext fun u => funext fun d => releaseDoor_eq u d cause)

/-- DOOR HOLD, past the naming of its zone. -/
def holdsZone (z : Fin 8) (s : State) : State × ReplyData :=
  if s.zones[z].alarm then deny s .zoneInAlarm
  else
    let ds := s.zoneDoors z
    done ((ds.filter s.closedDoor).foldl State.holdDoor s)
      (s.doorPairs (ds.filter fun d => !s.closedDoor d))

/-- DOOR RELEASE, past the naming of its zone. -/
def releasesZone (z : Fin 8) (s : State) : State × ReplyData :=
  let t := s.releaseDoors (s.zoneDoors z) .release
  done t (t.doorPairs ((s.zoneDoors z).filter fun d => s.doors[d].state.heldOpen))

theorem exec_doorHoldZone (l : Link) (tag : Byte) (z : Fin 8) (s : State) :
    exec (.doorHoldZone l tag z) s = runRequest (.doorHoldZone l tag z) l tag s (holdsZone z) := by
  change execDoorHoldZone l tag z s = _
  unfold execDoorHoldZone
  rw [finOf?_val]
  rfl

theorem exec_doorReleaseZone (l : Link) (tag : Byte) (z : Fin 8) (s : State) :
    exec (.doorReleaseZone l tag z) s =
      runRequest (.doorReleaseZone l tag z) l tag s (releasesZone z) := by
  change execDoorReleaseZone l tag z s = _
  unfold execDoorReleaseZone
  rw [finOf?_val]
  rfl

/-- The doors named in a reply with their states (12.6). -/
def doorNames (ds : List (Fin 32)) (state : Fin 32 → DoorState) : ReplyData :=
  .done (byte ds.length :: ds.flatMap fun (d : Fin 32) => [byte d, byte (state d).code])

theorem doorPairs_eq (t : State) (ds : List (Fin 32)) {state : Fin 32 → DoorState}
    (h : ∀ d ∈ ds, t.doors[d].state = state d) : ReplyData.done (t.doorPairs ds) = doorNames ds state := by
  have same : (ds.flatMap fun (d : Fin 32) => [byte d, t.doorCode d]) =
      ds.flatMap fun (d : Fin 32) => [byte d, byte (state d).code] :=
    List.flatMap_congr fun d listed => by rw [State.doorCode, h d listed]
  unfold State.doorPairs doorNames
  rw [same]
  rfl

section
variable {u : State} {z : Fin 8} {ds : List (Fin 32)} (named : u.zoneDoors z = ds)
include named

theorem holdsZone_eq (quiet : u.zones[z].alarm = false) : holdsZone z u =
    ((ds.filter fun d => decide (u.doors[d].state = .closed)).foldl State.doorHeld u,
      doorNames (ds.filter fun d => decide (u.doors[d].state ≠ .closed)) fun d => u.doors[d].state) := by
  have left : (ds.filter fun d => !u.closedDoor d) = ds.filter fun d =>
      decide (u.doors[d].state ≠ .closed) := List.filter_congr fun _ _ => (decide_not).symm
  have held : State.holdDoor = State.doorHeld := funext fun u => funext fun d => holdDoor_eq u d
  unfold holdsZone
  dsimp only
  rw [named, quiet, if_neg nofun, left, held, ← doorPairs_eq u _ fun _ _ => rfl]
  rfl

theorem releasesZone_eq (distinct : ds.Nodup) : releasesZone z u =
    (ds.foldl (fun u d => u.doorReleased d .release) u,
      doorNames (ds.filter fun d => u.doors[d].state.heldOpen) fun d =>
        releasedState u.settings.doors[d].kind u.doors[d]) := by
  unfold releasesZone
  dsimp only
  rw [named, releaseDoors_eq]
  refine Prod.ext rfl (doorPairs_eq _ _ fun d listed => ?_)
  refine door_foldl (P := fun x => x.state = releasedState u.settings.doors[d].kind u.doors[d])
    (fun s _ _ other => keepsDoor_doorReleased other s _) (fun s d => doorsOnly_doorReleased s d _)
    distinct (List.mem_of_mem_filter listed) fun t record settings => ?_
  rw [doorReleased_state, record, settings]

end

/-- Settles O30. -/
theorem zoneHoldAndRelease : Obligations.ZoneHoldAndRelease := by
  intro l tag z s running hold release ofZone doors left freed names released holds releases frame kept
  have named (i : Instr) : (s.openRequest l i).zoneDoors z = doors := zoneDoors_eq _ z
  have listed (d : Fin 32) : d ∈ doors ↔ ofZone d := by simp [doors]
  have distinct : doors.Nodup := nodup_filter_finRange _
  have holding := exec_doorHoldZone l tag z s
  have releasing := exec_doorReleaseZone l tag z s
  refine ⟨fun alarm => ?_, fun quiet => ⟨?_, ?_, ?_, ?_, ?_, ?_⟩, ?_, ?_, ?_, ?_, ?_, ?_⟩
  · exact holding.trans (runRequest_answers running (if_pos alarm))
  · exact holding.trans (runRequest_answeredBy running (holdsZone_eq (named hold) quiet))
  · exact doorsOnly_answeredBy (doorsOnly_foldl doorsOnly_doorHeld _)
  · intro d apart
    exact keepsDoor_answeredBy (keepsDoor_foldl keepsDoor_doorHeld _
      fun h => apart ((listed d).1 (List.mem_of_mem_filter h)))
  · intro d of' closed
    refine door_foldl (s := s.openRequest l hold) (P := fun x => x.state =
      if s.settings.doors[d].kind = .sliding then .opening else .armed) keepsDoor_doorHeld
      doorsOnly_doorHeld (distinct.filter _)
      (List.mem_filter.2 ⟨(listed d).2 of', decide_eq_true closed⟩) fun u _ settings => ?_
    rw [doorHeld_state, settings]
    rfl
  · intro d _ opens
    exact (keepsDoor_foldl (s := s.openRequest l hold) keepsDoor_doorHeld fun h =>
      opens (of_decide_eq_true (List.mem_filter.1 h).2)).1
  · exact lastReply_placeReply _ _ _
  · exact releasing.trans (runRequest_answeredBy running (releasesZone_eq (named release) distinct))
  · exact doorsOnly_answeredBy (doorsOnly_foldl (fun s d => doorsOnly_doorReleased s d _) _)
  · intro d apart
    exact keepsDoor_answeredBy (keepsDoor_foldl (fun s _ _ other => keepsDoor_doorReleased other s _) _
      fun h => apart ((listed d).1 h))
  · intro d of'
    refine door_foldl (s := s.openRequest l release) (P := fun x => x.state = released d)
      (fun s _ _ other => keepsDoor_doorReleased other s _) (fun s d => doorsOnly_doorReleased s d _)
      distinct ((listed d).2 of') fun u record settings => ?_
    rw [doorReleased_state, record, settings]
    rfl
  · intro d of' free
    refine door_foldl (s := s.openRequest l release) (P := fun x => x = s.doors[d])
      (fun s _ _ other => keepsDoor_doorReleased other s _) (fun s d => doorsOnly_doorReleased s d _)
      distinct ((listed d).2 of') fun u record settings => ?_
    rw [doorReleased_free]
    · exact record
    · rw [record]
      exact free
  · exact lastReply_placeReply _ _ _

/-! ### The alarm of a zone (R102, R103, R105, R106) -/

/-- A zone's condition with its record `y` (R102). -/
def State.judged (s : State) (z : Fin 8) (y : ZoneRecord) : Bool :=
  (s.settings.zones[z].fireEnabled && y.fire) || y.manual

theorem modZone_set (s : State) (z : Fin 8) (f : ZoneRecord → ZoneRecord) :
    s.modZone z f = { s with zones := s.zones.set z (f s.zones[z]) } := rfl

theorem set_get_self {α : Type} {n : ℕ} (v : Vector α n) (i : Fin n) (x : α) : (v.set i x)[i] = x :=
  Vector.getElem_set_self i.isLt

/-- The state that a zone enters or leaves ALARM from. -/
theorem enterAlarm_eq {s : State} {z : Fin 8} {y : ZoneRecord} :
    ({ s with zones := s.zones.set z y } : State).enterAlarm z =
      let v := ((List.finRange 32).filter (s.doorOfZone z)).foldl
        (fun t d => t.doorReleased d .zoneAlarm)
        (({ s with zones := s.zones.set z { y with alarm := true, since := some s.clock } } : State).says
          [toBoth (.zoneState z true
            (if (s.settings.zones[z].fireEnabled && y.fire) = true then .fireInput else .manual))])
      { v with handed := v.handed ++ [.recallTrim z, .evacuatePost z, .alarmSourceChange (.fire z) true,
        .outputLineSourceChange (.zoneAlarm z) true, .sourceChange (.zoneAlarm z) ⟨1, true⟩] } := by
  have record : (s.zones.set z y)[z] = y := set_get_self _ _ _
  have again (x : ZoneRecord) : (s.zones.set z y).set z x = s.zones.set z x := Vector.set_set _ _
  unfold State.enterAlarm State.fireHolds State.zoneDoors
  rw [modZone_set]
  dsimp only
  rw [releaseDoors_eq, record, again]
  rfl

theorem exitAlarm_eq {s : State} {z : Fin 8} {y : ZoneRecord} (cause : ZoneCause) :
    ({ s with zones := s.zones.set z y } : State).exitAlarm z cause =
      { ({ s with zones := s.zones.set z { y with alarm := false } } : State).says
          [toBoth (.zoneState z false cause)] with
        handed := s.handed ++ [.alarmSourceChange (.fire z) false,
          .outputLineSourceChange (.zoneAlarm z) false, .sourceChange (.zoneAlarm z) ⟨0, true⟩] } := by
  have record : (s.zones.set z y)[z] = y := set_get_self _ _ _
  have again (x : ZoneRecord) : (s.zones.set z y).set z x = s.zones.set z x := Vector.set_set _ _
  unfold State.exitAlarm
  rw [modZone_set]
  dsimp only
  rw [record, again]
  rfl

/-- A zone evaluated after its record was changed, its alarm as before. -/
theorem evalZone_modZone {s : State} {z : Fin 8} {f : ZoneRecord → ZoneRecord} {y : ZoneRecord}
    (made : f s.zones[z] = y) (same : y.alarm = s.zones[z].alarm) (cause : ZoneCause) :
    (s.modZone z f).evalZone z cause = s.zoneJudged z y cause := by
  subst made
  have record : (s.zones.set z (f s.zones[z]))[z] = f s.zones[z] := set_get_self _ _ _
  rw [modZone_set]
  unfold State.evalZone State.zoneCondition State.fireHolds State.zoneJudged
  dsimp only
  rw [record, same]
  by_cases holds : (s.settings.zones[z].fireEnabled && (f s.zones[z]).fire || (f s.zones[z]).manual) =
      s.zones[z].alarm
  · rw [if_pos holds, if_pos holds, holds]
    have since : ¬(s.zones[z].alarm = true ∧ s.zones[z].alarm = false) :=
      fun h => absurd (h.1.symm.trans h.2) nofun
    rw [if_neg since, ← same]
  · rw [if_neg holds, if_neg holds]
    by_cases lit : (s.settings.zones[z].fireEnabled && (f s.zones[z]).fire || (f s.zones[z]).manual) = true
    · have quiet : s.zones[z].alarm = false := by
        rw [lit] at holds
        exact Bool.eq_false_iff.2 (Ne.symm holds)
      have since : (true = true ∧ s.zones[z].alarm = false) := ⟨rfl, quiet⟩
      rw [if_pos lit, if_pos lit, enterAlarm_eq, lit, if_pos since]
    · rw [if_neg lit, if_neg lit, exitAlarm_eq, Bool.eq_false_iff.2 lit, if_neg fun h => absurd h.1 nofun]

/-- The alarm a judged zone has. -/
theorem zoneJudged_alarm (s : State) (z : Fin 8) (y : ZoneRecord) (cause : ZoneCause) :
    (s.zoneJudged z y cause).zones[z].alarm =
      (s.settings.zones[z].fireEnabled && y.fire || y.manual) := by
  unfold State.zoneJudged
  dsimp only
  split
  · exact congrArg ZoneRecord.alarm (set_get_self _ _ _)
  split
  · have only := doorsOnly_foldl (ds := (List.finRange 32).filter (s.doorOfZone z))
      (fun s d => doorsOnly_doorReleased s d .zoneAlarm)
    rw [congrArg State.zones (only _)]
    exact (congrArg ZoneRecord.alarm (set_get_self _ _ _))
  · exact congrArg ZoneRecord.alarm (set_get_self _ _ _)

/-- The states of the doors after a zone is judged: its held doors are released as it enters ALARM. -/
theorem zoneJudged_doors (s : State) (z : Fin 8) (y : ZoneRecord) (cause : ZoneCause) (d : Fin 32) :
    (s.zoneJudged z y cause).doors[d].state =
      if s.settings.doors[d].kind ≠ .absent ∧ s.settings.doors[d].zone = z ∧ s.zones[z].alarm = false ∧
          (s.zoneJudged z y cause).zones[z].alarm = true then
        releasedState s.settings.doors[d].kind s.doors[d]
      else s.doors[d].state := by
  rw [zoneJudged_alarm]
  unfold State.zoneJudged
  dsimp only
  by_cases same : (s.settings.zones[z].fireEnabled && y.fire || y.manual) = s.zones[z].alarm
  · have stays : ¬(s.settings.doors[d].kind ≠ .absent ∧ s.settings.doors[d].zone = z ∧
        s.zones[z].alarm = false ∧ (s.settings.zones[z].fireEnabled && y.fire || y.manual) = true) :=
      fun ⟨_, _, quiet, lit⟩ => absurd (quiet.symm.trans (same.symm.trans lit)) nofun
    rw [if_pos same, if_neg stays]
  rw [if_neg same]
  by_cases lit : (s.settings.zones[z].fireEnabled && y.fire || y.manual) = true
  · have quiet : s.zones[z].alarm = false := by
      rw [lit] at same
      exact Bool.eq_false_iff.2 (Ne.symm same)
    rw [if_pos lit]
    by_cases of' : s.settings.doors[d].kind ≠ .absent ∧ s.settings.doors[d].zone = z
    · refine Eq.trans ?_ (if_pos ⟨of'.1, of'.2, quiet, lit⟩).symm
      have listed : d ∈ (List.finRange 32).filter (s.doorOfZone z) :=
        mem_zoneDoors.2 ⟨decide_eq_true of'.1, of'.2⟩
      refine door_foldl (P := fun x => x.state = releasedState s.settings.doors[d].kind s.doors[d])
        (fun s _ _ other => keepsDoor_doorReleased other s _) (fun s d => doorsOnly_doorReleased s d _)
        (nodup_filter_finRange _) listed fun u record settings => ?_
      rw [doorReleased_state, record, settings, says_doors, says_settings]
    · refine Eq.trans ?_ (if_neg fun h => of' ⟨h.1, h.2.1⟩).symm
      have apart : d ∉ (List.finRange 32).filter (s.doorOfZone z) := fun h =>
        of' ((mem_zoneDoors.1 h).imp_left of_decide_eq_true)
      refine (congrArg DoorRecord.state (keepsDoor_foldl
        (fun s _ _ other => keepsDoor_doorReleased other s _) _ apart).1).trans ?_
      rw [says_doors]
  · rw [if_neg lit]
    exact (congrArg (fun ds : Vector DoorRecord 32 => ds[d].state) (says_doors _ _)).trans
      (if_neg fun h => lit h.2.2.2).symm

/-- ZONE ALARM, past the naming of its zone and its action. -/
def alarmsZone (l : Link) (z : Fin 8) (raised : Bool) (s : State) : State × ReplyData :=
  if l = .localLink then deny s .noAuthority
  else
    let t := (s.modZone z fun x => { x with manual := raised }).evalZone z .manual
    done t [boolByte t.zones[z].alarm]

theorem exec_zoneAlarm (l : Link) (tag : Byte) (z : Fin 8) (flag : Bool) (s : State) :
    exec (.zoneAlarm l tag z (if flag then 1 else 0)) s =
      runRequest (.zoneAlarm l tag z (if flag then 1 else 0)) l tag s (alarmsZone l z flag) := by
  change execZoneAlarm l tag z _ s = _
  have named : boolOfCode (if flag then 1 else 0) = some flag := by cases flag <;> rfl
  unfold execZoneAlarm
  rw [finOf?_val, named]
  rfl

theorem boolOfCode_undefined {action : ℕ} (h : 2 ≤ action) : boolOfCode action = none := by
  unfold boolOfCode
  split
  · exact absurd h (by omega)
  · exact absurd h (by omega)
  · rfl

theorem exec_zoneAlarm_undefined {l : Link} {tag : Byte} {w action : ℕ} {s : State}
    (running : s.power = .running) (h : 8 ≤ w ∨ 2 ≤ action) :
    exec (.zoneAlarm l tag w action) s =
      .next (s.answered l tag (.zoneAlarm l tag w action) [] (.refused .badField)) := by
  change execZoneAlarm l tag w action s = _
  refine runRequest_answers running ?_
  rcases h with above | undefined
  · rw [finOf?_eq_none.2 above]
    rfl
  · rw [boolOfCode_undefined undefined]
    cases finOf? 8 w <;> rfl

/-- Settles O34. -/
theorem zoneAlarmEntersAndLeaves : Obligations.ZoneAlarmEntersAndLeaves := by
  intro l tag z flag s running fire manual x lit entered raised doors
  have judged : ((s.openRequest l manual).modZone z fun x => { x with manual := flag }).evalZone z .manual =
      (s.openRequest l manual).zoneJudged z { x with manual := flag } .manual :=
    evalZone_modZone rfl rfl .manual
  refine ⟨?_, ?_, ?_, fun bridge => ⟨?_, ?_, ?_⟩, fun local' => ?_, fun w action undefined => ?_⟩
  · change execFireInputChange z flag s = _
    refine runEvent_eq running ?_
    exact evalZone_modZone rfl rfl .fireInput
  · exact zoneJudged_alarm _ _ _ _
  · exact fun d => zoneJudged_doors (s.taken fire) z _ _ d
  · refine (exec_zoneAlarm l tag z flag s).trans (runRequest_answeredBy running ?_)
    unfold alarmsZone
    dsimp only
    rw [if_neg (by rw [bridge]; exact nofun), judged, zoneJudged_alarm]
    rfl
  · exact zoneJudged_alarm _ _ _ _
  · exact fun d => zoneJudged_doors (s.openRequest l manual) z _ _ d
  · exact (exec_zoneAlarm l tag z flag s).trans (runRequest_answers running (if_pos local'))
  · exact exec_zoneAlarm_undefined running undefined

end Sys2Proof.Proofs
end

section
/-! SUPPORT. The events of an axis controller (02): how an act on one axis ends as an event or a request. -/

open Sys2Proof Sys2Proof.Machine

namespace Sys2Proof.Proofs

/-! ### The end of an event that acts on an axis -/

theorem pump_withAxisStopping (s : State) (a : Fin 4) (x : AxisRecord) (o : MotionOutcome)
    (h : List Instr) : ({ s.withAxisStopping a x o with handed := h } : State).pump =
      { s.pump.withAxisStopping a x o with handed := h } := by
  unfold State.withAxisStopping
  split <;> rfl

theorem pump_withAxisAtRest (s : State) (a : Fin 4) (x : AxisRecord) (into : AxisState)
    (o : MotionOutcome) (h : List Instr) :
    ({ s.withAxisAtRest a x into o with handed := h } : State).pump =
      { s.pump.withAxisAtRest a x into o with handed := h } := rfl

theorem pump_withCut (s : State) (a : Fin 4) : (s.withCut a).pump = s.pump.withCut a := rfl

theorem withCut_handed (s : State) (a : Fin 4) (h : List Instr) :
    ({ s with handed := h } : State).withCut a = { s.withCut a with handed := h } := rfl

theorem acted_eq (s : State) (i : Instr) (rs : List (Option Link × ReportBody)) :
    ((s.taken i).says rs).pump = s.acted i rs := rfl

section
variable {s : State} {i : Instr} {a : Fin 4} {f : State → State} (running : s.power = .running)
include running

theorem runEvent_axisGoes (y : AxisRecord) (cause : Option MotionOutcome)
    (h : f (s.taken i) = axisGoes (s.taken i) a y cause) :
    runEvent i s f = .next
      { s.acted i [toBoth (.axisState a s.axes[a].state y.state cause)] with
        axes := s.axes.set a y
        handed := s.handed.erase i ++ axisNotices a s.axes[a].state y.state } := by
  rw [runEvent_of_running running, h]
  rfl

theorem runEvent_axisRests (x : AxisRecord) (into : AxisState) (o : MotionOutcome)
    (h : f (s.taken i) = axisRests (s.taken i) a x into o) :
    runEvent i s f = .next
      { (s.acted i (restReports a x into s.clock o)).withAxisAtRest a x into o with
        handed := s.handed.erase i ++ axisNotices a x.state into } := by
  rw [runEvent_of_running running, h]
  unfold axisRests
  rw [pump_withAxisAtRest, acted_eq]
  rfl

theorem runEvent_axisRests_cut (x : AxisRecord) (into : AxisState) (o : MotionOutcome)
    (h : f (s.taken i) = (axisRests (s.taken i) a x into o).withCut a) :
    runEvent i s f = .next
      { ((s.acted i (restReports a x into s.clock o)).withAxisAtRest a x into o).withCut a with
        handed := s.handed.erase i ++ axisNotices a x.state into } := by
  rw [runEvent_of_running running, h]
  unfold axisRests
  rw [pump_withCut, pump_withAxisAtRest, acted_eq, withCut_handed]
  rfl

theorem runEvent_axisStops (x : AxisRecord) (o : MotionOutcome)
    (h : f (s.taken i) = axisStops (s.taken i) a x o) :
    runEvent i s f = .next
      { (s.acted i (stopReports a x s.clock o)).withAxisStopping a x o with
        handed := s.handed.erase i ++ stopNotices a x } := by
  rw [runEvent_of_running running, h]
  unfold axisStops
  rw [pump_withAxisStopping]
  rfl

theorem runEvent_withAxis (y : AxisRecord) (h : f (s.taken i) = (s.taken i).withAxis a y) :
    runEvent i s f = .next ((s.acted i []).withAxis a y) := by
  rw [runEvent_of_running running, h]
  rfl

theorem runEvent_modAxis (k : AxisRecord → AxisRecord) (h : f (s.taken i) = (s.taken i).modAxis a k) :
    runEvent i s f = .next { s.acted i [] with axes := s.axes.set a (k s.axes[a]) } := by
  rw [runEvent_of_running running, h]
  rfl

end

/-! ### What ends a motion from outside (R24, R30, R41, R42) -/

section
variable {s : State} {a : Fin 4} {o : MotionOutcome}

theorem ifFitted_eq {f : State → State} (fitted : s.settings.axes[a].fitted = true) :
    s.ifFitted a f = f s := if_pos fitted

theorem ifFitted_unfitted {f : State → State} (unfitted : s.settings.axes[a].fitted = false) :
    s.ifFitted a f = s := if_neg (by rw [unfitted]; exact nofun)

theorem endTravel_warning (warning : s.axes[a].state = .warning) :
    s.endTravel a o = axisRests s a s.axes[a] .idle o := by
  unfold State.endTravel
  rw [warning]
  exact enterRest_eq s a .idle o

theorem endTravel_travels (travels : s.axes[a].state.travels = true) :
    s.endTravel a o = axisStops s a s.axes[a] o := by
  unfold State.endTravel
  rcases (travels_iff _).1 travels with state | state | state
  all_goals
    rw [state]
    exact enterStopping_eq s a o

theorem endTravel_rests (other : s.axes[a].state ≠ .warning) (rests : s.axes[a].state.travels = false) :
    s.endTravel a o = s := by
  unfold State.endTravel
  cases state : s.axes[a].state with
  | warning => exact absurd state other
  | moving | settling | jogging => rw [state] at rests; exact absurd rests nofun
  | _ => rfl

end

/-- HOLDER_CHANGE at a fitted axis, its notice taken. -/
def holderChanges (a : Fin 4) (r : HolderReason) (s : State) : State :=
  if s.axes[a].state = .manual then s.endSession a r.outcome else s.endTravel a r.outcome

/-- DECK_HOLD_NOTICE at a fitted axis, its notice taken. -/
def deckHolds (a : Fin 4) (s : State) : State :=
  match s.axes[a].state with
  | .manual => s.endSession a .held
  | .stopping => s.modAxis a fun x => { x with stopOutcome := some .held }
  | _ => s.endTravel a .held

/-- LOSS_OF_SERVICE_LEVEL at a fitted axis, its notice taken. -/
def levelLost (a : Fin 4) (l : Link) (s : State) : State :=
  if s.axes[a].state = .manual ∧ s.holder a = some l then s.endSession a .stopped else s

/-- PERMISSIVE_SLOT_CHANGE at a fitted axis, its notice taken. -/
def slotChanges (a : Fin 4) (dir : Direction) (result : Bool) (s : State) : State :=
  if result = false ∧ s.axes[a].state = .moving ∧ s.axes[a].direction = some dir then
    s.enterStopping a .permissiveLost
  else s

/-- WARNING_TIMER_EXPIRY, its notice taken. -/
def warningExpires (a : Fin 4) (s : State) : State :=
  if s.axes[a].warning = none then s
  else
    let t := s.modAxis a fun x => { x with warning := none }
    let d := s.axes[a].direction.getD .raise
    if s.axes[a].state ≠ .warning then t
    else if !s.permits a d then t.enterRest a .idle .notPermitted
    else if s.limit a d then t.enterRest a .idle .limit
    else
      (t.modAxis a fun x =>
        { x with motionTimer := some (s.settings.axes[a].motionLimit * 1000) }).travel a .moving

/-- MOTION_TIMER_EXPIRY, its notice taken. -/
def motionExpires (a : Fin 4) (s : State) : State :=
  if s.axes[a].motionTimer = none then s
  else
    let t := s.modAxis a fun x => { x with motionTimer := none }
    match s.axes[a].state with
    | .moving => (t.hand [.momentaryRaise (.axisTimeout a)]).enterStopping a .timeout
    | .settling => (t.hand [.momentaryRaise (.axisTimeout a)]).enterStopping a .timeout
    | .jogging => (t.hand [.momentaryRaise (.axisTimeout a)]).enterStopping a .timeout
    | _ => t

/-- JOG_REFRESH_EXPIRY, its notice taken. -/
def jogExpires (a : Fin 4) (s : State) : State :=
  if s.axes[a].refresh = none ∨ s.axes[a].state = .manual then s
  else
    let t := s.modAxis a fun x => { x with refresh := none }
    if s.axes[a].state = .jogging then t.enterStopping a .jogReleased else t

section
variable {s : State} {a : Fin 4} (fitted : s.settings.axes[a].fitted = true)
include fitted

/-- An event of a fitted axis acts as one of the functions above. -/
theorem runEvent_ifFitted (i : Instr) (f : State → State) :
    runEvent i s (fun u => u.ifFitted a f) = runEvent i s f := by
  have same : (s.taken i).ifFitted a f = f (s.taken i) := ifFitted_eq (s := s.taken i) fitted
  unfold runEvent
  dsimp only
  rw [same]

theorem exec_holderChange (r : HolderReason) :
    exec (.holderChange a r) s = runEvent (.holderChange a r) s (holderChanges a r) :=
  runEvent_ifFitted fitted _ (holderChanges a r)

theorem exec_deckHoldNotice :
    exec (.deckHoldNotice a) s = runEvent (.deckHoldNotice a) s (deckHolds a) := by
  refine Eq.trans ?_ (runEvent_ifFitted fitted _ (deckHolds a))
  rfl

theorem exec_lossOfServiceLevel (l : Link) :
    exec (.lossOfServiceLevel a l) s = runEvent (.lossOfServiceLevel a l) s (levelLost a l) :=
  runEvent_ifFitted fitted _ (levelLost a l)

theorem exec_permissiveSlotChange (d : Direction) (result : Bool) :
    exec (.permissiveSlotChange a d result) s =
      runEvent (.permissiveSlotChange a d result) s (slotChanges a d result) :=
  runEvent_ifFitted fitted _ (slotChanges a d result)

end

section
variable {u : State} {a : Fin 4} {r : HolderReason} {l : Link}

theorem holderChanges_manual (manual : u.axes[a].state = .manual) :
    holderChanges a r u = axisRests u a { u.axes[a] with staged := 0 } .idle r.outcome :=
  (if_pos manual).trans (endSession_eq u a r.outcome)

theorem holderChanges_other (other : u.axes[a].state ≠ .manual) :
    holderChanges a r u = u.endTravel a r.outcome := if_neg other

theorem deckHolds_manual (manual : u.axes[a].state = .manual) :
    deckHolds a u = axisRests u a { u.axes[a] with staged := 0 } .idle .held := by
  unfold deckHolds
  rw [manual]
  exact endSession_eq u a .held

theorem deckHolds_stopping (stopping : u.axes[a].state = .stopping) :
    deckHolds a u = u.modAxis a fun x => { x with stopOutcome := some .held } := by
  unfold deckHolds
  rw [stopping]

theorem deckHolds_other (manual : u.axes[a].state ≠ .manual) (stopping : u.axes[a].state ≠ .stopping) :
    deckHolds a u = u.endTravel a .held := by
  unfold deckHolds
  cases state : u.axes[a].state with
  | manual => exact absurd state manual
  | stopping => exact absurd state stopping
  | _ => rfl

theorem levelLost_manual (manual : u.axes[a].state = .manual) (holds : u.holder a = some l) :
    levelLost a l u = axisRests u a { u.axes[a] with staged := 0 } .idle .stopped :=
  (if_pos ⟨manual, holds⟩).trans (endSession_eq u a .stopped)

end

section
variable {u : State} {a : Fin 4} {d : Direction} (warning : u.axes[a].state = .warning)
  (runs : u.axes[a].warning.isSome = true) (direction : u.axes[a].direction = some d)
include warning runs direction

theorem warningExpires_rests (forbidden : u.permits a d = false) :
    warningExpires a u = axisRests u a u.axes[a] .idle .notPermitted := by
  have side : u.axes[a].direction.getD .raise = d := by rw [direction]; rfl
  unfold warningExpires
  dsimp only
  rw [if_neg (ne_none_of_isSome runs), if_neg (not_not.2 warning), side, forbidden]
  exact enterRest_modAxis u a (fun x => { x with warning := none }) .idle .notPermitted

theorem warningExpires_limit (allowed : u.permits a d = true) (met : u.limit a d = true) :
    warningExpires a u = axisRests u a u.axes[a] .idle .limit := by
  have side : u.axes[a].direction.getD .raise = d := by rw [direction]; rfl
  unfold warningExpires
  dsimp only
  rw [if_neg (ne_none_of_isSome runs), if_neg (not_not.2 warning), side, allowed,
    met]
  exact enterRest_modAxis u a (fun x => { x with warning := none }) .idle .limit

theorem warningExpires_moves (allowed : u.permits a d = true) (met : u.limit a d = false) :
    warningExpires a u = axisGoes u a { u.axes[a] with
      state := .moving
      warning := none
      motionTimer := some (u.settings.axes[a].motionLimit * 1000)
      settle := 0 } none := by
  have side : u.axes[a].direction.getD .raise = d := by rw [direction]; rfl
  unfold warningExpires
  dsimp only
  rw [if_neg (ne_none_of_isSome runs), if_neg (not_not.2 warning), side, allowed,
    met, if_neg nofun, if_neg nofun]
  unfold State.travel
  rw [modAxis_modAxis, modAxis_modAxis]
  exact changeAxis_modAxis (s := u) (a := a) (f := fun x => { x with
    warning := none
    motionTimer := some (u.settings.axes[a].motionLimit * 1000)
    settle := 0 }) rfl .moving none

end

/-- Settles O12. -/
theorem warningEndsInTravelOrIdle : Obligations.WarningEndsInTravelOrIdle := by
  refine ⟨?_, ?_⟩
  · intro a s running warning runs d direction i x ends
    refine ⟨fun forbidden => ?_, fun allowed met => ?_, fun allowed met => ?_⟩
    · have act := runEvent_axisRests (f := warningExpires a) running _ _ _
        (warningExpires_rests (u := s.taken i) warning runs direction forbidden)
      rw [show ((s.taken i).axes[a]).state = .warning from warning] at act
      exact act
    · have act := runEvent_axisRests (f := warningExpires a) running _ _ _
        (warningExpires_limit (u := s.taken i) warning runs direction allowed met)
      rw [show ((s.taken i).axes[a]).state = .warning from warning] at act
      exact act
    · have act := runEvent_axisGoes (f := warningExpires a) running _ _
        (warningExpires_moves (u := s.taken i) warning runs direction allowed met)
      rw [warning] at act
      exact act
  · intro a r l s running fitted x rests
    have holder := exec_holderChange fitted r
    have hold := exec_deckHoldNotice fitted
    have level := exec_lossOfServiceLevel fitted l
    refine ⟨fun warning => ⟨?_, ?_⟩, fun manual => ⟨?_, ?_, fun holds => ?_⟩, fun other => ?_⟩
    · refine holder.trans (runEvent_axisRests running x .idle _ ?_)
      exact (holderChanges_other (by rw [show (s.taken _).axes[a].state = .warning from warning]; exact nofun)).trans
        (endTravel_warning (s := s.taken _) warning)
    · refine hold.trans (runEvent_axisRests running x .idle _ ?_)
      exact (deckHolds_other (by rw [show (s.taken _).axes[a].state = .warning from warning]; exact nofun)
        (by rw [show (s.taken _).axes[a].state = .warning from warning]; exact nofun)).trans
        (endTravel_warning (s := s.taken _) warning)
    · exact holder.trans (runEvent_axisRests running _ _ _ (holderChanges_manual (u := s.taken _) manual))
    · exact hold.trans (runEvent_axisRests running _ _ _ (deckHolds_manual (u := s.taken _) manual))
    · exact level.trans (runEvent_axisRests running _ _ _
        (levelLost_manual (u := s.taken _) manual holds))
    · exact level.trans (runEvent_stays running (if_neg (not_and_or.2 other)))

/-! ### The events that end travel (R27, R28, R37, R41, R42) -/

theorem axisStops_hand (s : State) (a : Fin 4) (x : AxisRecord) (o : MotionOutcome) (hs : List Instr) :
    axisStops (s.hand hs) a x o =
      { axisStops s a x o with handed := s.handed ++ (hs ++ stopNotices a x) } := by
  have said (rs) : (s.hand hs).says rs = { s.says rs with handed := s.handed ++ hs } := by
    rw [says_eq, says_eq]
    rfl
  have stops (t : State) (h : List Instr) : ({ t with handed := h } : State).withAxisStopping a x o =
      { t.withAxisStopping a x o with handed := h } := by
    unfold State.withAxisStopping
    split <;> rfl
  have now : (s.hand hs).clock = s.clock := rfl
  have before : (s.hand hs).handed = s.handed ++ hs := rfl
  unfold axisStops
  rw [said, stops, now, before, List.append_assoc]

theorem stopReports_timer (a : Fin 4) (x : AxisRecord) (now : DeckTime) (o : MotionOutcome) :
    stopReports a { x with motionTimer := none } now o = stopReports a x now o := rfl

theorem runEvent_axisStops_hand {s : State} {i : Instr} {a : Fin 4} {f : State → State}
    (running : s.power = .running) (x : AxisRecord) (o : MotionOutcome) (hs : List Instr)
    (h : f (s.taken i) = axisStops ((s.taken i).hand hs) a x o) :
    runEvent i s f = .next
      { (s.acted i (stopReports a x s.clock o)).withAxisStopping a x o with
        handed := s.handed.erase i ++ (hs ++ stopNotices a x) } := by
  rw [runEvent_of_running running, h, axisStops_hand]
  unfold axisStops
  dsimp only
  rw [pump_withAxisStopping]
  rfl

section
variable {u : State} {a : Fin 4} {d : Direction}

theorem motionExpires_travels (travels : u.axes[a].state.travels = true)
    (runs : u.axes[a].motionTimer.isSome = true) : motionExpires a u =
      axisStops (u.hand [.momentaryRaise (.axisTimeout a)]) a u.axes[a] .timeout := by
  have stops : ((u.modAxis a fun x => { x with motionTimer := none }).hand
      [.momentaryRaise (.axisTimeout a)]).enterStopping a .timeout =
      axisStops (u.hand [.momentaryRaise (.axisTimeout a)]) a u.axes[a] .timeout :=
    (enterStopping_modAxis (s := u.hand [.momentaryRaise (.axisTimeout a)]) (a := a)
      (f := fun x => { x with motionTimer := none }) rfl rfl).trans (enterStopping_eq _ a .timeout)
  unfold motionExpires
  rw [if_neg (ne_none_of_isSome runs)]
  rcases (travels_iff _).1 travels with state | state | state
  all_goals
    rw [state]
    exact stops

theorem jogExpires_jogging (jogging : u.axes[a].state = .jogging)
    (runs : u.axes[a].refresh.isSome = true) :
    jogExpires a u = axisStops u a u.axes[a] .jogReleased := by
  have free : ¬(u.axes[a].refresh = none ∨ u.axes[a].state = .manual) := by
    rintro (none' | manual)
    · exact ne_none_of_isSome runs none'
    · exact absurd (jogging.symm.trans manual) nofun
  unfold jogExpires
  dsimp only
  rw [if_neg free, if_pos jogging, enterStopping_modAxis rfl rfl, enterStopping_eq]

theorem slotChanges_moving (moving : u.axes[a].state = .moving) (direction : u.axes[a].direction = some d) :
    slotChanges a d false u = axisStops u a u.axes[a] .permissiveLost :=
  (if_pos ⟨rfl, moving, direction⟩).trans (enterStopping_eq u a .permissiveLost)

theorem travels_apart {x : AxisState} (travels : x.travels = true) :
    x ≠ .manual ∧ x ≠ .stopping ∧ x ≠ .warning := by
  rcases (travels_iff x).1 travels with rfl | rfl | rfl <;> exact ⟨nofun, nofun, nofun⟩

end

/-- Settles O16. -/
theorem travelEndsInStopping : Obligations.TravelEndsInStopping := by
  refine ⟨?_, ?_⟩
  · intro a d r s running fitted x stops
    have told (i : Instr) (o : MotionOutcome) (first : List Instr) (h : exec i s = .next
        { (s.acted i (stopReports a x s.clock o)).withAxisStopping a x o with
          handed := s.handed.erase i ++ (first ++ stopNotices a x) }) : stops i o first := by
      dsimp only [stops]
      rw [stopReports_timer]
      exact h
    refine ⟨fun moving direction => told _ _ _ ?_, fun travels => told _ _ _ ?_,
      fun travels => told _ _ _ ?_, fun travels runs => told _ _ _ ?_, fun jogging runs => told _ _ _ ?_⟩
    · exact (exec_permissiveSlotChange fitted d false).trans (runEvent_axisStops running x _
        (slotChanges_moving (u := s.taken _) moving direction))
    · obtain ⟨manual, -, -⟩ := travels_apart travels
      have act : holderChanges a r (s.taken (.holderChange a r)) = axisStops (s.taken (.holderChange a r)) a x
          r.outcome := (holderChanges_other (u := s.taken _) manual).trans (endTravel_travels (s := s.taken _) travels)
      exact (exec_holderChange fitted r).trans (runEvent_axisStops running x _ act)
    · obtain ⟨manual, stopping, -⟩ := travels_apart travels
      have act : deckHolds a (s.taken (.deckHoldNotice a)) = axisStops (s.taken (.deckHoldNotice a)) a x
          .held := (deckHolds_other (u := s.taken _) manual stopping).trans (endTravel_travels (s := s.taken _) travels)
      exact (exec_deckHoldNotice fitted).trans (runEvent_axisStops running x _ act)
    · exact runEvent_axisStops_hand (f := motionExpires a) running x _ _
        (motionExpires_travels (u := s.taken _) travels runs)
    · exact runEvent_axisStops (f := jogExpires a) running x _
        (jogExpires_jogging (u := s.taken _) jogging runs)
  · intro a d r s running fitted x nothing
    have ends (h : x.state = .idle ∨ x.state = .tripped ∨ x.state = .stopping) :
        nothing (.holderChange a r) := by
      refine (exec_holderChange fitted r).trans (runEvent_stays running ?_)
      have state : (s.taken (.holderChange a r)).axes[a].state = x.state := rfl
      refine (holderChanges_other ?_).trans (endTravel_rests ?_ ?_) <;> rw [state] <;>
        rcases h with h | h | h <;> rw [h] <;> first | rfl | exact nofun
    refine ⟨fun other => ?_, ?_, fun none' => ?_, fun none' => ?_, fun none' => ?_,
      fun rests => ⟨?_, ?_⟩, fun stopping => ⟨?_, ?_⟩⟩
    · refine (exec_permissiveSlotChange fitted d false).trans (runEvent_stays running (if_neg ?_))
      exact fun ⟨_, moving, direction⟩ => other.elim (· moving) (· direction)
    · exact (exec_permissiveSlotChange fitted d true).trans (runEvent_stays running (if_neg nofun))
    · exact runEvent_stays (f := motionExpires a) running (if_pos none')
    · exact runEvent_stays (f := jogExpires a) running (if_pos (.inl none'))
    · exact runEvent_stays (f := warningExpires a) running (if_pos none')
    · exact ends (rests.imp_right .inl)
    · refine (exec_deckHoldNotice fitted).trans (runEvent_stays running ?_)
      have state : (s.taken (.deckHoldNotice a)).axes[a].state = x.state := rfl
      refine (deckHolds_other ?_ ?_).trans (endTravel_rests ?_ ?_) <;> rw [state] <;>
        rcases rests with h | h <;> rw [h] <;> first | rfl | exact nofun
    · exact ends (.inr (.inr stopping))
    · exact (exec_deckHoldNotice fitted).trans (runEvent_modAxis running _
        (deckHolds_stopping (u := s.taken _) stopping))

/-! ### AXIS_SENSOR (R31, R43) -/

/-- `s` after AXIS_SENSOR of axis `a` is evaluated `lost` (R43). -/
def sensed (s : State) (a : Fin 4) (lost was : Bool) : State :=
  { s.modAxis a fun x => { x with sensor := lost } with
    handed := s.handed ++ (if lost = was then [] else [.alarmSourceChange (.axisSensor a) lost]) }

theorem modAxis_self {s : State} {a : Fin 4} {f : AxisRecord → AxisRecord} (same : f s.axes[a] = s.axes[a]) :
    s.modAxis a f = s := by
  have axes : upd s.axes a f = s.axes := upd_self _ _ same
  unfold State.modAxis
  rw [axes]

theorem evalSensor_eq (s : State) (a : Fin 4) :
    s.evalSensor a = sensed s a (s.sensorLost a) s.axes[a].sensor := by
  unfold State.evalSensor sensed
  by_cases same : s.sensorLost a = s.axes[a].sensor
  · rw [if_pos same, if_pos same, List.append_nil, modAxis_self]
    rw [same]
  · rw [if_neg same, if_neg same]
    rfl

theorem set_modAxis (v : Vector AxisRecord 4) (a : Fin 4) (y : AxisRecord) (f : AxisRecord → AxisRecord) :
    upd (v.set a y) a f = v.set a (f y) := by
  simp [upd]

theorem withAxisAtRest_sensed (s : State) (a : Fin 4) (x : AxisRecord) (into : AxisState)
    (o : MotionOutcome) (lost : Bool) :
    (s.withAxisAtRest a x into o).modAxis a (fun x => { x with sensor := lost }) =
      s.withAxisAtRest a { x with sensor := lost } into o := by
  unfold State.withAxisAtRest State.modAxis
  dsimp only
  rw [set_modAxis]
  rfl

theorem withAxisStopping_sensed (s : State) (a : Fin 4) (x : AxisRecord) (o : MotionOutcome) (lost : Bool) :
    (s.withAxisStopping a x o).modAxis a (fun x => { x with sensor := lost }) =
      s.withAxisStopping a { x with sensor := lost } o := by
  unfold State.withAxisStopping
  dsimp only
  split
  · exact withAxisAtRest_sensed s a (x.nowStopping o) .idle o lost
  · unfold State.modAxis
    dsimp only
    rw [set_modAxis]
    rfl

theorem sensed_axisRests (s : State) (a : Fin 4) (x : AxisRecord) (into : AxisState) (o : MotionOutcome)
    (lost was : Bool) : sensed (axisRests s a x into o) a lost was =
      { (s.says (restReports a x into s.clock o)).withAxisAtRest a { x with sensor := lost } into o with
        handed := s.handed ++ (axisNotices a x.state into ++
          (if lost = was then [] else [.alarmSourceChange (.axisSensor a) lost])) } := by
  rw [← List.append_assoc, ← withAxisAtRest_sensed]
  rfl

theorem sensed_axisStops (s : State) (a : Fin 4) (x : AxisRecord) (o : MotionOutcome) (lost was : Bool) :
    sensed (axisStops s a x o) a lost was =
      { (s.says (stopReports a x s.clock o)).withAxisStopping a { x with sensor := lost } o with
        handed := s.handed ++ (stopNotices a x ++
          (if lost = was then [] else [.alarmSourceChange (.axisSensor a) lost])) } := by
  rw [← List.append_assoc, ← withAxisStopping_sensed]
  rfl

theorem withAxisAtRest_axis (s : State) (a : Fin 4) (x : AxisRecord) (into : AxisState)
    (o : MotionOutcome) : (s.withAxisAtRest a x into o).axes[a] = x.atRest into s.clock o :=
  set_get_self _ _ _

theorem withAxisStopping_sensor (s : State) (a : Fin 4) (x : AxisRecord) (o : MotionOutcome) :
    (s.withAxisStopping a x o).axes[a].sensor = x.sensor := by
  unfold State.withAxisStopping
  split
  · rw [withAxisAtRest_axis]
    rfl
  · have sensor := congrArg AxisRecord.sensor (set_get_self s.axes a (x.nowStopping o))
    exact sensor

/-- AXIS_SENSOR of settings and channel records (R43). -/
def sensorOf (x : Settings) (channels : Vector ChannelRecord 12) (a : Fin 4) : Bool :=
  x.axes[a].fitted && !(channels[x.axes[a].angleCh].valid && channels[x.axes[a].pressCh].valid)

/-- AXIS_SENSOR is evaluated from the settings and the channel records alone. -/
theorem sensorLost_congr {s t : State} (settings : t.settings = s.settings)
    (channels : t.channels = s.channels) (a : Fin 4) : t.sensorLost a = s.sensorLost a := by
  change sensorOf t.settings t.channels a = sensorOf s.settings s.channels a
  rw [settings, channels]

theorem withAxisStopping_settings (s : State) (a : Fin 4) (x : AxisRecord) (o : MotionOutcome) :
    (s.withAxisStopping a x o).settings = s.settings := by
  unfold State.withAxisStopping
  split <;> rfl

theorem withAxisStopping_channels (s : State) (a : Fin 4) (x : AxisRecord) (o : MotionOutcome) :
    (s.withAxisStopping a x o).channels = s.channels := by
  unfold State.withAxisStopping
  split <;> rfl

theorem axisRests_settings (s : State) (a : Fin 4) (x : AxisRecord) (into : AxisState)
    (o : MotionOutcome) : (axisRests s a x into o).settings = s.settings := by
  unfold axisRests State.withAxisAtRest
  exact says_settings _ _

theorem axisRests_channels (s : State) (a : Fin 4) (x : AxisRecord) (into : AxisState)
    (o : MotionOutcome) : (axisRests s a x into o).channels = s.channels := by
  unfold axisRests State.withAxisAtRest
  exact says_channels _ _

theorem evalSensor_axisRests (s : State) (a : Fin 4) (o : MotionOutcome) :
    (axisRests s a s.axes[a] .idle o).evalSensor a =
      sensed (axisRests s a s.axes[a] .idle o) a (s.sensorLost a) s.axes[a].sensor := by
  have same : (axisRests s a s.axes[a] .idle o).sensorLost a = s.sensorLost a :=
    sensorLost_congr (axisRests_settings s a _ .idle o) (axisRests_channels s a _ .idle o) a
  have sensor : (axisRests s a s.axes[a] .idle o).axes[a].sensor = s.axes[a].sensor := by
    have rests := congrArg AxisRecord.sensor (withAxisAtRest_axis
      (s.says (restReports a s.axes[a] .idle s.clock o)) a s.axes[a] .idle o)
    exact rests
  rw [evalSensor_eq, same, sensor]

theorem evalSensor_axisStops (s : State) (a : Fin 4) (o : MotionOutcome) :
    (axisStops s a s.axes[a] o).evalSensor a =
      sensed (axisStops s a s.axes[a] o) a (s.sensorLost a) s.axes[a].sensor := by
  have same : (axisStops s a s.axes[a] o).sensorLost a = s.sensorLost a :=
    sensorLost_congr ((withAxisStopping_settings _ a _ o).trans (says_settings s _))
      ((withAxisStopping_channels _ a _ o).trans (says_channels s _)) a
  have sensor : (axisStops s a s.axes[a] o).axes[a].sensor = s.axes[a].sensor :=
    withAxisStopping_sensor _ a _ o
  rw [evalSensor_eq, same, sensor]

/-- ANGLE_VALIDITY_CHANGE at a fitted axis, its notice taken. -/
def angleChanges (a : Fin 4) (valid : Bool) (s : State) : State :=
  (if valid then s else s.angleLost a).evalSensor a

section
variable {s : State} {i : Instr} {a : Fin 4} {f : State → State} {o : MotionOutcome} {lost was : Bool}
  (running : s.power = .running)
include running

theorem runEvent_sensed (h : f (s.taken i) = sensed (s.taken i) a lost was) :
    runEvent i s f = .next { s.acted i [] with
      axes := s.axes.set a { s.axes[a] with sensor := lost }
      handed := s.handed.erase i ++
        (if lost = was then [] else [.alarmSourceChange (.axisSensor a) lost]) } := by
  rw [runEvent_of_running running, h]
  rfl

theorem runEvent_sensed_axisRests (x : AxisRecord)
    (h : f (s.taken i) = sensed (axisRests (s.taken i) a x .idle o) a lost was) :
    runEvent i s f = .next
      { (s.acted i (restReports a x .idle s.clock o)).withAxisAtRest a { x with sensor := lost } .idle
          o with
        handed := s.handed.erase i ++ (axisNotices a x.state .idle ++
          (if lost = was then [] else [.alarmSourceChange (.axisSensor a) lost])) } := by
  rw [runEvent_of_running running, h, sensed_axisRests, pump_withAxisAtRest, acted_eq]
  rfl

theorem runEvent_sensed_axisStops (x : AxisRecord)
    (h : f (s.taken i) = sensed (axisStops (s.taken i) a x o) a lost was) :
    runEvent i s f = .next
      { (s.acted i (stopReports a x s.clock o)).withAxisStopping a { x with sensor := lost } o with
        handed := s.handed.erase i ++ (stopNotices a x ++
          (if lost = was then [] else [.alarmSourceChange (.axisSensor a) lost])) } := by
  rw [runEvent_of_running running, h, sensed_axisStops, pump_withAxisStopping, acted_eq]
  rfl

end

theorem angleLost_stays {u : State} {a : Fin 4} (warning : u.axes[a].state ≠ .warning)
    (moving : u.axes[a].state ≠ .moving) (settling : u.axes[a].state ≠ .settling) :
    u.angleLost a = u := by
  unfold State.angleLost
  cases state : u.axes[a].state with
  | warning => exact absurd state warning
  | moving => exact absurd state moving
  | settling => exact absurd state settling
  | _ => rfl

theorem angleLost_warning {u : State} {a : Fin 4} (warning : u.axes[a].state = .warning) :
    u.angleLost a = axisRests u a u.axes[a] .idle .sensorLost := by
  unfold State.angleLost
  rw [warning]
  exact enterRest_eq u a .idle .sensorLost

theorem angleLost_travels {u : State} {a : Fin 4}
    (travels : u.axes[a].state = .moving ∨ u.axes[a].state = .settling) :
    u.angleLost a = axisStops u a u.axes[a] .sensorLost := by
  unfold State.angleLost
  rcases travels with state | state
  all_goals
    rw [state]
    exact enterStopping_eq u a .sensorLost

/-- Settles O18. -/
theorem channelValidityActsOnAxis : Obligations.ChannelValidityActsOnAxis := by
  intro a valid s running fitted i j x lost y told
  have angle : exec i s = runEvent i s (angleChanges a valid) :=
    runEvent_ifFitted fitted i (angleChanges a valid)
  have pressure : exec j s = runEvent j s (·.evalSensor a) := runEvent_ifFitted fitted j (·.evalSensor a)
  have value (n : Instr) : (s.taken n).sensorLost a = lost := by
    have same : (s.taken n).sensorLost a = s.sensorLost a := rfl
    rw [same, State.sensorLost, fitted, Bool.true_and]
  refine ⟨fun quiet => ?_, fun invalid warning => ?_, fun invalid travels => ?_, ?_⟩
  · have act : angleChanges a valid (s.taken i) = sensed (s.taken i) a lost x.sensor := by
      have stays : (if valid then s.taken i else (s.taken i).angleLost a) = s.taken i := by
        split
        · rfl
        · have off := quiet.resolve_left ‹_›
          exact angleLost_stays (u := s.taken i) off.1 off.2.1 off.2.2
      unfold angleChanges
      rw [stays, evalSensor_eq, value]
      rfl
    exact angle.trans (runEvent_sensed running act)
  · have act : angleChanges a valid (s.taken i) =
        sensed (axisRests (s.taken i) a x .idle .sensorLost) a lost x.sensor := by
      have ends := evalSensor_axisRests (s.taken i) a .sensorLost
      rw [value] at ends
      unfold angleChanges
      rw [invalid, if_neg nofun, angleLost_warning (u := s.taken i) warning]
      exact ends
    have goes := angle.trans (runEvent_sensed_axisRests running x act)
    rw [warning] at goes
    exact goes
  · have act : angleChanges a valid (s.taken i) =
        sensed (axisStops (s.taken i) a x .sensorLost) a lost x.sensor := by
      have ends := evalSensor_axisStops (s.taken i) a .sensorLost
      rw [value] at ends
      unfold angleChanges
      rw [invalid, if_neg nofun, angleLost_travels (u := s.taken i) travels]
      exact ends
    exact angle.trans (runEvent_sensed_axisStops running x act)
  · have act : (s.taken j).evalSensor a = sensed (s.taken j) a lost x.sensor := by
      rw [evalSensor_eq, value]
      rfl
    exact pressure.trans (runEvent_sensed running act)

end Sys2Proof.Proofs
end

section
/-! SUPPORT. Limit switches, the STOP line and pressure supervision (02, 2.6; 03, 3.4). -/

open Sys2Proof Sys2Proof.Machine

namespace Sys2Proof.Proofs

/-! ### Rest with the frame cut (R32, R33) -/

/-- What an entry to rest makes of the command before it is lost. -/
theorem axisRests_commanded (s : State) (a : Fin 4) (x : AxisRecord) (into : AxisState)
    (o : MotionOutcome) : axisRests s a (commanded x 0) into o = axisRests s a x into o := rfl

theorem enterRest_limit (s : State) (a : Fin 4) (o : MotionOutcome) :
    ((s.setC a 0).cut a).enterRest a .idle o = (axisRests s a s.axes[a] .idle o).withCut a := by
  have self : ((s.setC a 0).cut a).axes[a] = commanded s.axes[a] 0 :=
    withAxis_axes_self s a (commanded s.axes[a] 0)
  rw [enterRest_eq, self, setC_eq, axisRests_cut, axisRests_withAxis, axisRests_commanded]

theorem sideOf_iff {c : ℤ} {d : Direction} :
    sideOf c = some d ↔ (d = .raise ∧ 0 < c) ∨ (d = .lower ∧ c < 0) := by
  unfold sideOf
  split
  · cases d <;> simp <;> omega
  split
  · cases d <;> simp <;> omega
  · cases d <;> simp <;> omega

theorem meets_travels {x : AxisRecord} {d : Direction} (travels : x.state.travels = true) :
    x.meets d = decide (x.direction = some d) := by
  unfold AxisRecord.meets
  rcases (travels_iff _).1 travels with state | state | state <;> rw [state]

theorem meets_driven {x : AxisRecord} {d : Direction} (state : x.state = .stopping ∨ x.state = .manual) :
    x.meets d = decide (sideOf x.c = some d) := by
  unfold AxisRecord.meets
  rcases state with state | state <;> rw [state]

theorem meets_rests {x : AxisRecord} {d : Direction}
    (state : x.state = .idle ∨ x.state = .warning ∨ x.state = .tripped) : x.meets d = false := by
  unfold AxisRecord.meets
  rcases state with state | state | state <;> rw [state]

theorem limitMet_travels {s : State} {a : Fin 4} (travels : s.axes[a].state.travels = true) :
    s.limitMet a = (axisRests s a s.axes[a] .idle .limit).withCut a := by
  unfold State.limitMet
  rcases (travels_iff _).1 travels with state | state | state
  all_goals
    rw [state]
    exact enterRest_limit s a .limit

theorem limitMet_stopping {s : State} {a : Fin 4} {o : MotionOutcome}
    (stopping : s.axes[a].state = .stopping) (outcome : s.axes[a].stopOutcome = some o) :
    s.limitMet a = (axisRests s a s.axes[a] .idle o).withCut a := by
  have ends : s.axes[a].outcome = o := by
    rw [AxisRecord.outcome, outcome]
    rfl
  unfold State.limitMet
  rw [stopping, ends]
  exact enterRest_limit s a o

theorem limitMet_manual {s : State} {a : Fin 4} (manual : s.axes[a].state = .manual) :
    s.limitMet a = (s.withAxis a { s.axes[a] with c := 0, confirm := none }).withCut a := by
  unfold State.limitMet
  rw [manual]
  rfl

/-- LIMIT_SWITCH_CHANGE at a fitted axis, its notice taken. -/
def limitChanges (a : Fin 4) (side : Direction) (asserted : Bool) (s : State) : State :=
  if asserted && s.axes[a].meets side then s.limitMet a else s

theorem limitChanges_misses {u : State} {a : Fin 4} {side : Direction} {asserted : Bool}
    (misses : u.axes[a].meets side = false) : limitChanges a side asserted u = u :=
  if_neg (by rw [misses, Bool.and_false]; exact nofun)

theorem limitChanges_meets {u : State} {a : Fin 4} {side : Direction} {asserted : Bool}
    (on : asserted = true) (meets : u.axes[a].meets side = true) :
    limitChanges a side asserted u = u.limitMet a := if_pos (by rw [on, meets]; rfl)

/-- STOP_LINE_CHANGE at a fitted axis, its notice taken. -/
def stopChanges (a : Fin 4) (asserted : Bool) (s : State) : State :=
  if asserted && s.axes[a].state.active then (s.cut a).endSession a .pumpStop else s

theorem stopChanges_active {u : State} {a : Fin 4} {asserted : Bool} (on : asserted = true)
    (active : u.axes[a].state.active = true) : stopChanges a asserted u =
      (axisRests u a { u.axes[a] with staged := 0 } .idle .pumpStop).withCut a := by
  refine (if_pos (by rw [on, active]; rfl)).trans ?_
  rw [endSession_eq, cut_axes, axisRests_cut]

theorem restReports_staged (a : Fin 4) (x : AxisRecord) (into : AxisState) (now : DeckTime)
    (o : MotionOutcome) : restReports a { x with staged := 0 } into now o = restReports a x into now o := rfl

theorem active_iff (x : AxisState) : x.active = true ↔ x ≠ .idle ∧ x ≠ .tripped := by
  cases x <;> decide

theorem runEvent_withAxis_cut {s : State} {i : Instr} {a : Fin 4} {f : State → State}
    (running : s.power = .running) (y : AxisRecord)
    (h : f (s.taken i) = ((s.taken i).withAxis a y).withCut a) :
    runEvent i s f = .next (((s.acted i []).withAxis a y).withCut a) := by
  rw [runEvent_of_running running, h]
  rfl

/-- Settles O19. -/
theorem limitSwitchAndStopLineCutTheFrame : Obligations.LimitSwitchAndStopLineCutTheFrame := by
  refine ⟨?_, ?_⟩
  · intro a side asserted s running fitted i x toward rests
    have event : exec i s = runEvent i s (limitChanges a side asserted) :=
      runEvent_ifFitted fitted i (limitChanges a side asserted)
    have misses (h : x.meets side = false) : exec i s = .next (s.acted i []) :=
      event.trans (runEvent_stays running (limitChanges_misses (u := s.taken i) h))
    have ends {o : MotionOutcome} (on : asserted = true) (h : x.meets side = true)
        (met : (s.taken i).limitMet a = (axisRests (s.taken i) a x .idle o).withCut a) : rests o :=
      event.trans (runEvent_axisRests_cut running x .idle o
        ((limitChanges_meets (u := s.taken i) on h).trans met))
    refine ⟨fun off => ?_, fun still => misses (meets_rests still), fun on travels direction => ?_,
      fun travels other => misses ?_, fun on stopping same o outcome => ?_, fun on manual same => ?_,
      fun state apart => misses ?_⟩
    · refine event.trans (runEvent_stays running (if_neg ?_))
      rw [off, Bool.false_and]
      exact nofun
    · exact ends on ((meets_travels travels).trans (decide_eq_true direction))
        (limitMet_travels (s := s.taken i) travels)
    · exact (meets_travels travels).trans (decide_eq_false other)
    · exact ends on ((meets_driven (.inl stopping)).trans (decide_eq_true (sideOf_iff.2 same)))
        (limitMet_stopping (s := s.taken i) stopping outcome)
    · have meets : x.meets side = true :=
        (meets_driven (.inr manual)).trans (decide_eq_true (sideOf_iff.2 same))
      exact event.trans (runEvent_withAxis_cut running _
        ((limitChanges_meets (u := s.taken i) on meets).trans (limitMet_manual (s := s.taken i) manual)))
    · exact (meets_driven state).trans (decide_eq_false (mt sideOf_iff.1 apart))
  · intro a asserted s running fitted i x
    have event : exec i s = runEvent i s (stopChanges a asserted) :=
      runEvent_ifFitted fitted i (stopChanges a asserted)
    refine ⟨fun still => event.trans (runEvent_stays running (if_neg ?_)), fun on idle tripped => ?_⟩
    · intro acts
      obtain ⟨on, active⟩ := (Bool.and_eq_true _ _).mp acts
      obtain ⟨idle, tripped⟩ := (active_iff _).1 active
      rcases still with off | rest | rest
      · exact absurd (off.symm.trans on) nofun
      · exact idle rest
      · exact tripped rest
    · have act := runEvent_axisRests_cut running _ _ _
        (stopChanges_active (u := s.taken i) on ((active_iff _).2 ⟨idle, tripped⟩))
      rw [restReports_staged] at act
      exact event.trans act

/-! ### Pressure supervision (R34, R63 to R67) -/

/-- PRESSURE_CHECK's notice finds nothing to check: the confirmation is lost (R63, R67). -/
theorem pressureNotice_idle {u : State} {a : Fin 4} {p : Reading}
    (off : ¬(u.settings.axes[a].fitted = true ∧ u.axes[a].state ≠ .tripped ∧ u.axes[a].c ≠ 0 ∧
      p.valid = true)) : u.pressureNotice a p = u.modAxis a fun x => { x with confirm := none } :=
  if_neg off

theorem pressureNotice_runs {u : State} {a : Fin 4} {p : Reading}
    (on : u.settings.axes[a].fitted = true ∧ u.axes[a].state ≠ .tripped ∧ u.axes[a].c ≠ 0 ∧
      p.valid = true) : u.pressureNotice a p = u.checkPressure a p.value := if_pos on

/-- The check of an axis's pressure as the state stands (R64, R65). -/
def checkOf (s : State) (a : Fin 4) (p : ℤ) : CheckRecord :=
  checkRecord s.settings.axes[a] p (s.angle a).scaled

/-- The record of an axis after a check that does not trip it. -/
def checkedRecord (x : AxisRecord) (k : CheckRecord) (confirm : Option TripKind) : AxisRecord :=
  { x with check := some k, confirm := confirm }

section
variable {u : State} {a : Fin 4} {p : ℤ}

theorem checkPressure_inside (inside : (checkOf u a p).side = none) :
    u.checkPressure a p = u.modAxis a fun x => checkedRecord x (checkOf u a p) none := by
  unfold State.checkPressure
  dsimp only
  rw [show (checkRecord u.settings.axes[a] p (u.angle a).scaled).side = none from inside]
  rfl

theorem checkPressure_first {k : TripKind} (side : (checkOf u a p).side = some k)
    (first : u.axes[a].confirm ≠ some k) :
    u.checkPressure a p = u.modAxis a fun x => checkedRecord x (checkOf u a p) (some k) := by
  unfold State.checkPressure
  dsimp only
  rw [show (checkRecord u.settings.axes[a] p (u.angle a).scaled).side = some k from side]
  exact if_neg first

/-- One more trip counted (R34). -/
def countTrip (n : AxisCounters) : AxisCounters := { n with trips := saturate n.trips }

theorem axisRests_countAxis (s : State) (a : Fin 4) (f : AxisCounters → AxisCounters) (x : AxisRecord)
    (into : AxisState) (o : MotionOutcome) :
    axisRests (s.countAxis a f) a x into o =
      { ((s.says (restReports a x into s.clock o)).countAxis a f).withAxisAtRest a x into o with
        handed := s.handed ++ axisNotices a x.state into } := by
  have said (rs) : (s.countAxis a f).says rs = (s.says rs).countAxis a f := by
    rw [says_eq, says_eq]
    rfl
  unfold axisRests
  rw [said]
  rfl

theorem checkPressure_trips {k : TripKind} (side : (checkOf u a p).side = some k)
    (again : u.axes[a].confirm = some k) :
    u.checkPressure a p = ((axisRests (u.countAxis a countTrip) a
      { u.axes[a] with check := some (checkOf u a p), staged := 0, tripKind := some k } .tripped
        .tripped).withCut a).hand [.alarmSourceChange (tripSource a k) true] := by
  have checks : u.checkPressure a p =
      (u.modAxis a fun x => checkedRecord x (checkOf u a p) (some k)).trip a k := by
    unfold State.checkPressure
    dsimp only
    rw [show (checkRecord u.settings.axes[a] p (u.angle a).scaled).side = some k from side]
    exact if_pos again
  have self : (u.modAxis a fun x => checkedRecord x (checkOf u a p) (some k)).axes[a] =
      checkedRecord u.axes[a] (checkOf u a p) (some k) := by
    rw [State.modAxis_axes, upd_get_self]
  have turn (t : State) (g : AxisRecord → AxisRecord) :
      (((t.modAxis a g).cut a).countAxis a countTrip) = ((t.countAxis a countTrip).cut a).modAxis a g := rfl
  rw [checks, trip_eq, self]
  have rests (x : AxisRecord) := congrArg (fun t => axisRests t a x .tripped .tripped)
    (turn u fun x => checkedRecord x (checkOf u a p) (some k))
  refine congrArg (·.hand [.alarmSourceChange (tripSource a k) true]) ((rests _).trans ?_)
  dsimp only
  rw [axisRests_modAxis, axisRests_cut]
  rfl

end

theorem withCut_hand (t : State) (a : Fin 4) (h hs : List Instr) :
    (({ t with handed := h } : State).withCut a).hand hs = { t.withCut a with handed := h ++ hs } := rfl

theorem pump_handed (t : State) (h : List Instr) :
    ({ t with handed := h } : State).pump = { t.pump with handed := h } := rfl

theorem taken_clock (s : State) (i : Instr) : (s.taken i).clock = s.clock := rfl

theorem taken_handed (s : State) (i : Instr) : (s.taken i).handed = s.handed.erase i := rfl

theorem pump_countAxis (t : State) (a : Fin 4) (f : AxisCounters → AxisCounters) :
    (t.countAxis a f).pump = t.pump.countAxis a f := rfl

theorem pump_atRest (t : State) (a : Fin 4) (x : AxisRecord) (into : AxisState)
    (o : MotionOutcome) : (t.withAxisAtRest a x into o).pump = t.pump.withAxisAtRest a x into o := rfl

theorem runEvent_trip {s : State} {i : Instr} {a : Fin 4} {f : State → State}
    (running : s.power = .running) (x : AxisRecord) (hs : List Instr)
    (h : f (s.taken i) = ((axisRests ((s.taken i).countAxis a countTrip) a x .tripped
      .tripped).withCut a).hand hs) :
    runEvent i s f = .next
      (let base := s.acted i (restReports a x .tripped s.clock .tripped)
      { ({ base with counters := { base.counters with
            axes := s.counters.axes.set a (countTrip s.counters.axes[a]) } }.withAxisAtRest a x .tripped
          .tripped).withCut a with
        handed := s.handed.erase i ++ (axisNotices a x.state .tripped ++ hs) }) := by
  have counts : (s.acted i (restReports a x .tripped s.clock .tripped)).countAxis a countTrip =
      (let base := s.acted i (restReports a x .tripped s.clock .tripped)
      { base with counters := { base.counters with
            axes := s.counters.axes.set a (countTrip s.counters.axes[a]) } }) := by
    dsimp only
    rw [← acted_counters_axes s i (restReports a x .tripped s.clock .tripped)]
    rfl
  dsimp only at counts ⊢
  rw [runEvent_of_running running, h, axisRests_countAxis, ← counts, ← List.append_assoc, withCut_hand,
    pump_handed, pump_withCut, pump_atRest, pump_countAxis, acted_eq, taken_clock, taken_handed]

theorem checkOf_side (u : State) (a : Fin 4) (p : ℤ) : (checkOf u a p).side =
    if ((checkOf u a p).hi : ℤ) < p then some .high
    else if p < ((checkOf u a p).lo : ℤ) then some .low else none := rfl

/-- TRIP RESET, past the naming of its axis. -/
def resets (l : Link) (a : Fin 4) (s : State) : State × ReplyData :=
  if !s.holds l a then deny s .noAuthority
  else if s.axes[a].state ≠ .tripped then deny s .state
  else done (s.clearTrip a) []

theorem exec_tripReset {l : Link} {tag : Byte} {a : Fin 4} {s : State}
    (fitted : s.settings.axes[a].fitted = true) :
    exec (.tripReset l tag a) s = runRequest (.tripReset l tag a) l tag s (resets l a) := by
  change execTripReset l tag a s = _
  have named : (s.openRequest l (.tripReset l tag a)).fittedAxis? a = some a :=
    fittedAxis?_of_fitted fitted
  unfold execTripReset runRequest
  dsimp only
  rw [named]
  rfl

theorem clearTrip_eq {s : State} {a : Fin 4} {k : TripKind} (kind : s.axes[a].tripKind = some k) :
    s.clearTrip a = (axisGoes s a { s.axes[a] with state := .idle, tripKind := none } none).hand
      [.alarmSourceChange (tripSource a k) false] := by
  have goes : (s.modAxis a fun x => { x with tripKind := none }).changeAxis a .idle none =
      axisGoes s a { s.axes[a] with tripKind := none, state := .idle } none :=
    changeAxis_modAxis rfl .idle none
  have side : s.axes[a].tripKind.getD .high = k := by rw [kind]; rfl
  unfold State.clearTrip
  dsimp only
  rw [side, goes]

/-- A request of an axis that is not fitted (R17). -/
theorem runRequest_unfitted {s : State} {l : Link} {tag : Byte} {a : Fin 4} {i : Instr}
    {f : State → State × ReplyData} (running : s.power = .running)
    (unfitted : s.settings.axes[a].fitted = false)
    (refuses : ∀ u, u.fittedAxis? a = none → f u = deny u .badField) :
    runRequest i l tag s f = .next (s.answered l tag i [] (.refused .badField)) := by
  refine runRequest_answers running (refuses _ (fittedAxis?_of_unfitted fun b same => ?_))
  obtain rfl : b = a := Fin.ext same
  exact unfitted

/-- A request that moves an axis to another state and hands on more. -/
theorem runRequest_axisGoes_hand {s : State} {l : Link} {tag : Byte} {i : Instr} {a : Fin 4}
    {f : State → State × ReplyData} {data : ReplyData} (running : s.power = .running) (y : AxisRecord)
    (cause : Option MotionOutcome) (hs : List Instr)
    (h : f (s.openRequest l i) = ((axisGoes (s.openRequest l i) a y cause).hand hs, data)) :
    runRequest i l tag s f = .next
      { s.answered l tag i [toBoth (.axisState a s.axes[a].state y.state cause)] data with
        axes := s.axes.set a y
        handed := s.handed ++ (axisNotices a s.axes[a].state y.state ++ hs) } := by
  rw [runRequest_of_running running, h, ← List.append_assoc]
  rfl

/-- Settles O20. -/
theorem pressureTripsAndTripReset : Obligations.PressureTripsAndTripReset := by
  refine ⟨?_, ?_⟩
  · intro a p s running i x set angle b ref hi lo checked runs leaves trips
    have side : (checkOf (s.taken i) a p.value).side =
        if (hi : ℤ) < p.value then some .high else if p.value < (lo : ℤ) then some .low else none := rfl
    have event (on : runs) {t : State} (h : (s.taken i).checkPressure a p.value = t) :
        (s.taken i).pressureNotice a p = t := (pressureNotice_runs (u := s.taken i) on).trans h
    have first (on : runs) {k : TripKind} (out : (checkOf (s.taken i) a p.value).side = some k)
        (new : x.confirm ≠ some k) : leaves (some k) :=
      runEvent_modAxis (f := (·.pressureNotice a p)) running _
        (event on (checkPressure_first (u := s.taken i) out new))
    have again (on : runs) {k : TripKind} (out : (checkOf (s.taken i) a p.value).side = some k)
        (old : x.confirm = some k) : trips k (tripSource a k) :=
      runEvent_trip (f := (·.pressureNotice a p)) running _ _
        (event on (checkPressure_trips (u := s.taken i) out old))
    refine ⟨fun off => ?_, fun on above below => ?_, fun on above => ⟨?_, ?_⟩, fun on below low => ⟨?_, ?_⟩⟩
    · exact runEvent_modAxis (f := (·.pressureNotice a p)) running _
        (pressureNotice_idle (u := s.taken i) off)
    · have inside : (checkOf (s.taken i) a p.value).side = none := by
        rw [side, if_neg (Int.not_lt.2 below), if_neg (Int.not_lt.2 above)]
      exact runEvent_modAxis (f := (·.pressureNotice a p)) running _
        (event on (checkPressure_inside (u := s.taken i) inside))
    · exact first on (side.trans (if_pos above))
    · exact again on (side.trans (if_pos above))
    · exact first on (side.trans ((if_neg (Int.not_lt.2 low)).trans (if_pos below)))
    · exact again on (side.trans ((if_neg (Int.not_lt.2 low)).trans (if_pos below)))
  · intro l tag a s running i x refuses
    have request (fitted : s.settings.axes[a].fitted = true) : exec i s = runRequest i l tag s (resets l a) :=
      exec_tripReset fitted
    refine ⟨fun unfitted => ?_, fun fitted other => ?_, fun fitted holder => ⟨fun state => ?_,
      fun tripped k kind => ?_⟩⟩
    · change execTripReset l tag a s = _
      exact runRequest_unfitted running unfitted fun u named => by rw [named]
    · refine (request fitted).trans (runRequest_answers running (if_pos ?_))
      rw [show (s.openRequest l i).holds l a = false from decide_eq_false other]
      rfl
    · refine (request fitted).trans (runRequest_answers running ((if_neg ?_).trans (if_pos state)))
      rw [show (s.openRequest l i).holds l a = true from decide_eq_true holder]
      exact nofun
    · have act : resets l a (s.openRequest l i) = ((axisGoes (s.openRequest l i) a
          { x with state := .idle, tripKind := none } none).hand [.alarmSourceChange (tripSource a k) false],
          .done []) := by
        unfold resets
        rw [show (s.openRequest l i).holds l a = true from decide_eq_true holder, if_neg nofun]
        refine (if_neg (not_not.2 tripped)).trans ?_
        rw [clearTrip_eq (s := s.openRequest l i) kind]
        rfl
      have goes := (request fitted).trans (runRequest_axisGoes_hand running _ _ _ act)
      rw [tripped] at goes
      exact goes

end Sys2Proof.Proofs
end

section
/-! SUPPORT. The updates of an axis (02, 2.4, 2.5, 2.7; 03, 3.2). -/

open Sys2Proof Sys2Proof.Machine

namespace Sys2Proof.Proofs

/-! ### A change of state before the rest of an update -/

/-- An axis goes on from a record it has just taken to rest from another. -/
theorem axisRests_after_axisGoes (s : State) (a : Fin 4) (y z : AxisRecord)
    (cause : Option MotionOutcome) (into : AxisState) (o : MotionOutcome) :
    axisRests (axisGoes s a y cause) a z into o =
      { (s.says (toBoth (.axisState a s.axes[a].state y.state cause) ::
          restReports a z into s.clock o)).withAxisAtRest a z into o with
        handed := s.handed ++ (axisNotices a s.axes[a].state y.state ++ axisNotices a z.state into) } := by
  have both (r rs) : (s.says [r]).says rs = s.says (r :: rs) := (says_append s [r] rs).symm
  have clock : (axisGoes s a y cause).clock = s.clock := says_clock _ _
  unfold axisRests
  rw [clock]
  unfold axisGoes
  rw [says_with_axes, both, withAxisAtRest_set (says_axes _ _), List.append_assoc]

theorem withAxis_axisGoes (s : State) (a : Fin 4) (y z : AxisRecord) (cause : Option MotionOutcome) :
    (axisGoes s a y cause).withAxis a z =
      { (s.says [toBoth (.axisState a s.axes[a].state y.state cause)]).withAxis a z with
        handed := s.handed ++ axisNotices a s.axes[a].state y.state } := by
  have set : (s.axes.set a y).set a z = s.axes.set a z := Vector.set_set _ _
  unfold axisGoes State.withAxis
  dsimp only
  rw [set, says_axes]

theorem axisGoes_axis (s : State) (a : Fin 4) (y : AxisRecord) (cause : Option MotionOutcome) :
    (axisGoes s a y cause).axes[a] = y := set_get_self s.axes a y

section
variable {s : State} {i : Instr} {a : Fin 4} {f : State → State} (running : s.power = .running)
include running

theorem runEvent_axisGoes_rests (y z : AxisRecord) (cause : Option MotionOutcome) (into : AxisState)
    (o : MotionOutcome) (h : f (s.taken i) = axisRests (axisGoes (s.taken i) a y cause) a z into o) :
    runEvent i s f = .next
      { (s.acted i (toBoth (.axisState a s.axes[a].state y.state cause) ::
          restReports a z into s.clock o)).withAxisAtRest a z into o with
        handed := s.handed.erase i ++ (axisNotices a s.axes[a].state y.state ++
          axisNotices a z.state into) } := by
  rw [runEvent_of_running running, h, axisRests_after_axisGoes, pump_withAxisAtRest, acted_eq]
  rfl

theorem runEvent_axisGoes_rests_cut (y z : AxisRecord) (cause : Option MotionOutcome) (into : AxisState)
    (o : MotionOutcome)
    (h : f (s.taken i) = (axisRests (axisGoes (s.taken i) a y cause) a z into o).withCut a) :
    runEvent i s f = .next
      { ((s.acted i (toBoth (.axisState a s.axes[a].state y.state cause) ::
          restReports a z into s.clock o)).withAxisAtRest a z into o).withCut a with
        handed := s.handed.erase i ++ (axisNotices a s.axes[a].state y.state ++
          axisNotices a z.state into) } := by
  rw [runEvent_of_running running, h, axisRests_after_axisGoes, pump_withCut, pump_withAxisAtRest,
    acted_eq, withCut_handed]
  rfl

theorem runEvent_axisGoes_withAxis (y z : AxisRecord) (cause : Option MotionOutcome)
    (h : f (s.taken i) = (axisGoes (s.taken i) a y cause).withAxis a z) :
    runEvent i s f = .next
      { (s.acted i [toBoth (.axisState a s.axes[a].state y.state cause)]).withAxis a z with
        handed := s.handed.erase i ++ axisNotices a s.axes[a].state y.state } := by
  rw [runEvent_of_running running, h, withAxis_axisGoes]
  rfl

end

/-! ### Limit switches at an update (R25, R29, R37) -/

/-- A switch on the side of c is asserted (R32). -/
def SwitchMet (s : State) (a : Fin 4) (c : ℤ) : Prop :=
  (0 < c ∧ s.inputs.levels.limHi[a] = true) ∨ (c < 0 ∧ s.inputs.levels.limLo[a] = true)

theorem limitFound_travels {s : State} {a : Fin 4} {d : Direction}
    (travels : s.axes[a].state.travels = true) (direction : s.axes[a].direction = some d) :
    s.limitFound a = s.inputs.levels.limit a d := by
  unfold State.limitFound
  rw [meets_travels travels, meets_travels travels, direction]
  cases d
  · exact Bool.or_false _
  · exact Bool.false_or _

theorem limitFound_driven {s : State} {a : Fin 4}
    (state : s.axes[a].state = .stopping ∨ s.axes[a].state = .manual) :
    s.limitFound a = true ↔ SwitchMet s a s.axes[a].c := by
  have raise : decide (sideOf s.axes[a].c = some .raise) = true ↔ 0 < s.axes[a].c := by
    rw [decide_eq_true_iff, sideOf_iff]
    exact ⟨fun h => h.elim (·.2) fun h => absurd h.1 nofun, fun h => .inl ⟨rfl, h⟩⟩
  have lower : decide (sideOf s.axes[a].c = some .lower) = true ↔ s.axes[a].c < 0 := by
    rw [decide_eq_true_iff, sideOf_iff]
    exact ⟨fun h => h.elim (fun h => absurd h.1 nofun) (·.2), fun h => .inr ⟨rfl, h⟩⟩
  unfold State.limitFound SwitchMet
  rw [meets_driven state, meets_driven state, Bool.or_eq_true, Bool.and_eq_true, Bool.and_eq_true, raise,
    lower]
  rfl

/-! ### STOPPING (R29) -/

/-- What an update in STOPPING leaves as its record (R29; log entry 16). -/
def stoppingRecord (set : AxisSettings) (c : ℤ) : UpdateRecord :=
  ⟨.stopping, none, none, none, none, none, 0, c, slewed c 0 set.stopSlew set.dMax⟩

/-- The record of an axis after an update in STOPPING. -/
def slowed (set : AxisSettings) (x : AxisRecord) : AxisRecord := x.driven (stoppingRecord set x.c)

theorem drive_stopping {s : State} {a : Fin 4} (stopping : s.axes[a].state = .stopping) :
    s.drive a none = s.withAxis a (slowed s.settings.axes[a] s.axes[a]) := by
  rw [drive_eq]
  unfold driveOf
  rw [stopping]
  rfl

section
variable {s : State} {a : Fin 4} {o : MotionOutcome} (stopping : s.axes[a].state = .stopping)
include stopping

theorem stoppingUpdate_met (outcome : s.axes[a].stopOutcome = some o) (met : SwitchMet s a s.axes[a].c) :
    s.stoppingUpdate a = (axisRests s a s.axes[a] .idle o).withCut a :=
  (if_pos ((limitFound_driven (.inl stopping)).2 met)).trans (limitMet_stopping stopping outcome)

theorem stoppingUpdate_slows (free : ¬SwitchMet s a s.axes[a].c)
    (goes : slewed s.axes[a].c 0 s.settings.axes[a].stopSlew s.settings.axes[a].dMax ≠ 0) :
    s.stoppingUpdate a = s.withAxis a (slowed s.settings.axes[a] s.axes[a]) := by
  unfold State.stoppingUpdate
  dsimp only
  rw [if_neg (mt (limitFound_driven (.inl stopping)).1 free), drive_stopping stopping, withAxis_axes_self]
  exact if_neg goes

theorem stoppingUpdate_ends (outcome : s.axes[a].stopOutcome = some o)
    (free : ¬SwitchMet s a s.axes[a].c)
    (ends : slewed s.axes[a].c 0 s.settings.axes[a].stopSlew s.settings.axes[a].dMax = 0) :
    s.stoppingUpdate a = axisRests s a (slowed s.settings.axes[a] s.axes[a]) .idle o := by
  have last : s.axes[a].outcome = o := by
    rw [AxisRecord.outcome, outcome]
    rfl
  unfold State.stoppingUpdate
  dsimp only
  rw [if_neg (mt (limitFound_driven (.inl stopping)).1 free), drive_stopping stopping, withAxis_axes_self]
  refine (if_pos ends).trans ?_
  rw [last, enterRest_eq, withAxis_axes_self, axisRests_withAxis]

end

theorem updateAxis_stopping {s : State} {a : Fin 4} {angle : Reading}
    (stopping : s.axes[a].state = .stopping) : s.updateAxis a angle = s.stoppingUpdate a := by
  unfold State.updateAxis
  rw [stopping]

theorem exec_axisUpdate {s : State} {a : Fin 4} {angle : Reading}
    (fitted : s.settings.axes[a].fitted = true) :
    exec (.axisUpdate a angle) s = runEvent (.axisUpdate a angle) s (·.updateAxis a angle) :=
  runEvent_ifFitted fitted _ (·.updateAxis a angle)

/-- DISABLING_NOTICE at a fitted axis, its notice taken. -/
def disables (a : Fin 4) (s : State) : State :=
  if s.axes[a].state = .stopping then s.enterRest a .idle s.axes[a].outcome else s

/-- Settles O15. -/
theorem stoppingComesToRest : Obligations.StoppingComesToRest := by
  intro a angle s running fitted x i j set met c y
  have update := exec_axisUpdate (angle := angle) fitted
  have notice : exec j s = runEvent j s (disables a) := runEvent_ifFitted fitted j (disables a)
  refine ⟨fun stopping o outcome => ⟨fun meets => ?_, fun free goes => ?_, fun free ends => ?_, ?_⟩,
    fun other => notice.trans (runEvent_stays running (if_neg other))⟩
  · have act := runEvent_axisRests_cut (f := (·.updateAxis a angle)) running x .idle o
      ((updateAxis_stopping (s := s.taken i) stopping).trans
        (stoppingUpdate_met (s := s.taken i) stopping outcome meets))
    rw [show x.state = .stopping from stopping] at act
    exact update.trans act
  · exact update.trans (runEvent_withAxis (f := (·.updateAxis a angle)) running y
      ((updateAxis_stopping (s := s.taken i) stopping).trans
        (stoppingUpdate_slows (s := s.taken i) stopping free goes)))
  · have act := runEvent_axisRests (f := (·.updateAxis a angle)) running y .idle o
      ((updateAxis_stopping (s := s.taken i) stopping).trans
        (stoppingUpdate_ends (s := s.taken i) stopping outcome free ends))
    rw [show y.state = .stopping from stopping] at act
    exact update.trans act
  · have last : x.outcome = o := by
      rw [AxisRecord.outcome, outcome]
      rfl
    have rests : disables a (s.taken j) = axisRests (s.taken j) a x .idle o := by
      refine (if_pos stopping).trans ?_
      rw [enterRest_eq]
      exact congrArg (axisRests (s.taken j) a x .idle) last
    have act := runEvent_axisRests running x .idle o rests
    rw [show x.state = .stopping from stopping] at act
    exact notice.trans act

/-! ### Entry to STOPPING within an update (R26, R37) -/

theorem axisStops_moving {s : State} {a : Fin 4} {x : AxisRecord} (self : s.axes[a] = x) (moves : x.c ≠ 0)
    (o : MotionOutcome) : axisStops s a x o = axisGoes s a (x.nowStopping o) (some o) := by
  unfold axisStops stopReports stopNotices State.withAxisStopping axisGoes
  rw [if_neg moves, if_neg moves, if_neg moves, List.append_nil, self, says_axes]
  rfl

theorem axisGoes_settings (s : State) (a : Fin 4) (y : AxisRecord) (cause : Option MotionOutcome) :
    (axisGoes s a y cause).settings = s.settings := says_settings s _

theorem axisGoes_inputs (s : State) (a : Fin 4) (y : AxisRecord) (cause : Option MotionOutcome) :
    (axisGoes s a y cause).inputs = s.inputs := says_inputs s _

theorem axisGoes_channels (s : State) (a : Fin 4) (y : AxisRecord) (cause : Option MotionOutcome) :
    (axisGoes s a y cause).channels = s.channels := says_channels s _

theorem switchMet_congr {s t : State} {a : Fin 4} {c : ℤ} (inputs : t.inputs = s.inputs) :
    SwitchMet t a c ↔ SwitchMet s a c := by
  unfold SwitchMet
  rw [inputs]

theorem axisRests_c (s : State) (a : Fin 4) (x : AxisRecord) (into : AxisState) (o : MotionOutcome) :
    (axisRests s a x into o).axes[a].state = into := by
  have rests := congrArg AxisRecord.state (withAxisAtRest_axis (s.says (restReports a x into s.clock o)) a
    x into o)
  exact rests

/-- With c 0 the entry to STOPPING has gone on to IDLE: there is nothing to compute. -/
theorem stopUpdate_still {s : State} {a : Fin 4} (o : MotionOutcome) (still : s.axes[a].c = 0) :
    s.stopUpdate a o = axisStops s a s.axes[a] o := by
  have state : (s.enterStopping a o).axes[a].state = .idle := by
    unfold State.enterStopping
    dsimp only
    rw [if_pos still, enterRest_eq, axisRests_c]
  unfold State.stopUpdate
  dsimp only
  rw [state, if_neg nofun, enterStopping_eq]

theorem stopUpdate_moving {s : State} {a : Fin 4} (o : MotionOutcome) (moves : s.axes[a].c ≠ 0) :
    s.stopUpdate a o =
      (axisGoes s a (s.axes[a].nowStopping o) (some o)).stoppingUpdate a := by
  have enters : s.enterStopping a o = axisGoes s a (s.axes[a].nowStopping o) (some o) := by
    rw [enterStopping_eq, axisStops_moving rfl moves]
  have state : (axisGoes s a (s.axes[a].nowStopping o) (some o)).axes[a].state = .stopping := by
    rw [axisGoes_axis]
    rfl
  unfold State.stopUpdate
  dsimp only
  rw [enters, state, if_pos rfl]

section
variable {s : State} {a : Fin 4} (o : MotionOutcome) (moves : s.axes[a].c ≠ 0)
include moves

theorem stopUpdate_met (met : SwitchMet s a s.axes[a].c) : s.stopUpdate a o =
    (axisRests (axisGoes s a (s.axes[a].nowStopping o) (some o)) a (s.axes[a].nowStopping o) .idle
      o).withCut a := by
  have record := axisGoes_axis s a (s.axes[a].nowStopping o) (some o)
  rw [stopUpdate_moving o moves, stoppingUpdate_met (o := o), record]
  · rw [record]
    rfl
  · rw [record]
    rfl
  · rw [record]
    exact (switchMet_congr (axisGoes_inputs _ _ _ _)).2 met

theorem stopUpdate_slows (free : ¬SwitchMet s a s.axes[a].c)
    (goes : slewed s.axes[a].c 0 s.settings.axes[a].stopSlew s.settings.axes[a].dMax ≠ 0) :
    s.stopUpdate a o = (axisGoes s a (s.axes[a].nowStopping o) (some o)).withAxis a
      (slowed s.settings.axes[a] (s.axes[a].nowStopping o)) := by
  have record := axisGoes_axis s a (s.axes[a].nowStopping o) (some o)
  rw [stopUpdate_moving o moves, stoppingUpdate_slows, record, axisGoes_settings]
  · rw [record]
    rfl
  · rw [record]
    exact mt (switchMet_congr (axisGoes_inputs _ _ _ _)).1 free
  · rw [record, axisGoes_settings]
    exact goes

theorem stopUpdate_ends (free : ¬SwitchMet s a s.axes[a].c)
    (ends : slewed s.axes[a].c 0 s.settings.axes[a].stopSlew s.settings.axes[a].dMax = 0) :
    s.stopUpdate a o = axisRests (axisGoes s a (s.axes[a].nowStopping o) (some o)) a
      (slowed s.settings.axes[a] (s.axes[a].nowStopping o)) .idle o := by
  have record := axisGoes_axis s a (s.axes[a].nowStopping o) (some o)
  rw [stopUpdate_moving o moves, stoppingUpdate_ends (o := o), record, axisGoes_settings]
  · rw [record]
    rfl
  · rw [record]
    rfl
  · rw [record]
    exact mt (switchMet_congr (axisGoes_inputs _ _ _ _)).1 free
  · rw [record, axisGoes_settings]
    exact ends

end

/-- An axis that enters STOPPING within an update is computed as a STOPPING update. -/
theorem stopsInUpdate {s : State} {i : Instr} {a : Fin 4} {o : MotionOutcome} {f : State → State}
    (running : s.power = .running) (event : exec i s = runEvent i s f)
    (act : f (s.taken i) = (s.taken i).stopUpdate a o) (moves : s.axes[a].c ≠ 0) :
    s.StopsInUpdate i a s.axes[a] o := by
  refine ⟨fun met => ?_, fun free goes => ?_, fun free ends => ?_⟩
  · have stops := runEvent_axisGoes_rests_cut running _ _ _ _ _
      (act.trans (stopUpdate_met (s := s.taken i) o moves met))
    exact event.trans stops
  · have stops := runEvent_axisGoes_withAxis running _ _ _
      (act.trans (stopUpdate_slows (s := s.taken i) o moves free goes))
    exact event.trans stops
  · have stops := runEvent_axisGoes_rests running _ _ _ _ _
      (act.trans (stopUpdate_ends (s := s.taken i) o moves free ends))
    exact event.trans stops

/-! ### MOVING and SETTLING (R25, R26) -/

/-- What an update in MOVING leaves as its record (R48 to R55). -/
def movingRecord (set : AxisSettings) (oil : ChannelRecord) (e c : ℤ) : UpdateRecord :=
  let idx := tableIndex set.tableMode oil.scaled (decide (0 < e))
  let u := demandMagnitude (unclampedMoving set.loopMode (set.ff.toList.getD idx 0) e set.kp) set.dMin
    set.dMax
  let demand : ℤ := if 0 < e then u else -u
  ⟨.moving, some oil.scaled, some oil.valid, some idx, some e, some u, demand, c,
    slewed c demand set.slew set.dMax⟩

theorem drive_moving {s : State} {a : Fin 4} {e : ℤ} (moving : s.axes[a].state = .moving) :
    s.drive a (some e) = s.withAxis a (s.axes[a].driven (movingRecord s.settings.axes[a]
      s.channels[s.settings.oil] e s.axes[a].c)) := by
  rw [drive_eq]
  unfold driveOf
  rw [moving]
  rfl

/-- The record of an axis counted by an update in SETTLING (R26; log entry 16). -/
def counted (set : AxisSettings) (x : AxisRecord) (e : ℤ) : AxisRecord :=
  { x.driven ⟨.settling, none, none, none, some e, none, 0, x.c, slewed x.c 0 set.slew set.dMax⟩ with
    settle := min (x.settle + 1) set.settleCount }

theorem driveOf_settling {s : State} {a : Fin 4} {x : AxisRecord} {e : Option ℤ}
    (settling : x.state = .settling) : driveOf s a x e = ⟨.settling, none, none, none, e, none, 0, x.c,
      slewed x.c 0 s.settings.axes[a].slew s.settings.axes[a].dMax⟩ := by
  unfold driveOf
  rw [settling]
  rfl

section
variable {s : State} {a : Fin 4} {x : AxisRecord} {set : AxisSettings} {e : ℤ} (self : s.axes[a] = x)
  (settings : s.settings.axes[a] = set) (settling : x.state = .settling)
include self settings settling

theorem drive_settling : (s.modAxis a fun x => { x with
      settle := min (x.settle + 1) set.settleCount }).drive a (some e) =
    s.withAxis a (counted set x e) := by
  subst self settings
  have record := driveOf_settling (s := s) (a := a) (e := some e) (x := { s.axes[a] with
    settle := min (s.axes[a].settle + 1) s.settings.axes[a].settleCount }) settling
  rw [drive_modAxis, record]
  rfl

theorem settleStep_counts
    (more : ¬(min (x.settle + 1) set.settleCount = set.settleCount ∧ slewed x.c 0 set.slew set.dMax = 0)) :
    s.settleStep a e = s.withAxis a (counted set x e) := by
  unfold State.settleStep
  dsimp only
  rw [settings, drive_settling self settings settling, withAxis_axes_self]
  exact if_neg more

theorem settleStep_ends
    (full : min (x.settle + 1) set.settleCount = set.settleCount ∧ slewed x.c 0 set.slew set.dMax = 0) :
    s.settleStep a e = axisRests s a (counted set x e) .idle .reached := by
  unfold State.settleStep
  dsimp only
  rw [settings, drive_settling self settings settling, withAxis_axes_self]
  refine (if_pos full).trans ?_
  rw [enterRest_eq, withAxis_axes_self, axisRests_withAxis]

end

section
variable {s : State} {a : Fin 4} {angle : Reading}

theorem updateAxis_invalid (invalid : angle.valid = false)
    (state : s.axes[a].state = .moving ∨ s.axes[a].state = .settling) : s.updateAxis a angle = s := by
  unfold State.updateAxis
  rcases state with state | state <;> rw [state, invalid] <;> rfl

theorem updateAxis_limit {d : Direction} (travels : s.axes[a].state.travels = true)
    (valid : angle.valid = true ∨ s.axes[a].state = .jogging) (direction : s.axes[a].direction = some d)
    (met : s.inputs.levels.limit a d = true) :
    s.updateAxis a angle = (axisRests s a s.axes[a] .idle .limit).withCut a := by
  have found : s.limitFound a = true := (limitFound_travels travels direction).trans met
  rw [← limitMet_travels travels]
  unfold State.updateAxis
  rcases (travels_iff _).1 travels with state | state | state
  · rw [state, valid.resolve_right fun jogging => absurd (state.symm.trans jogging) nofun, found]
    rfl
  · rw [state, valid.resolve_right fun jogging => absurd (state.symm.trans jogging) nofun, found]
    rfl
  · rw [state, found]
    rfl

section
variable {d : Direction} (direction : s.axes[a].direction = some d)
  (free : s.inputs.levels.limit a d = false)
include direction free

theorem updateAxis_moving (valid : angle.valid = true) (moving : s.axes[a].state = .moving) :
    s.updateAxis a angle = s.movingUpdate a angle.value := by
  have found : s.limitFound a = false :=
    (limitFound_travels ((travels_iff _).2 (.inl moving)) direction).trans free
  unfold State.updateAxis
  rw [moving, valid, found]
  rfl

theorem updateAxis_settling (valid : angle.valid = true) (settling : s.axes[a].state = .settling) :
    s.updateAxis a angle = s.settlingUpdate a angle.value := by
  have found : s.limitFound a = false :=
    (limitFound_travels ((travels_iff _).2 (.inr (.inl settling))) direction).trans free
  unfold State.updateAxis
  rw [settling, valid, found]
  rfl

theorem updateAxis_jogging (jogging : s.axes[a].state = .jogging) :
    s.updateAxis a angle = s.joggingUpdate a angle := by
  have found : s.limitFound a = false :=
    (limitFound_travels ((travels_iff _).2 (.inr (.inr jogging))) direction).trans free
  unfold State.updateAxis
  rw [jogging, found]
  rfl

end

variable {target : ℤ} (aims : s.axes[a].target = some target)
include aims

theorem error_eq (angle : ℤ) : s.axes[a].error angle = target - angle := by
  rw [AxisRecord.error, aims]
  rfl

/-- The record of an axis that goes on in SETTLING (R25). -/
def nowSettling (x : AxisRecord) : AxisRecord := { x with settle := 0, state := .settling }

theorem movingUpdate_out {angle : ℤ} (moving : s.axes[a].state = .moving)
    (out : s.settings.axes[a].inBand < (target - angle).natAbs) :
    s.movingUpdate a angle = s.withAxis a (s.axes[a].driven (movingRecord s.settings.axes[a]
      s.channels[s.settings.oil] (target - angle) s.axes[a].c)) := by
  unfold State.movingUpdate State.inBand
  dsimp only
  rw [error_eq aims, drive_moving moving]
  exact if_neg (by rw [decide_eq_false (Nat.not_le.2 out)]; exact nofun)

theorem movingUpdate_in {angle : ℤ} (inside : (target - angle).natAbs ≤ s.settings.axes[a].inBand) :
    s.movingUpdate a angle =
      (axisGoes s a (nowSettling s.axes[a]) none).settleStep a (target - angle) := by
  unfold State.movingUpdate State.inBand
  dsimp only
  rw [error_eq aims, travel_eq]
  exact if_pos (decide_eq_true inside)

end

/-- Settles O13. -/
theorem movingUpdateDrivesOrSettles : Obligations.MovingUpdateDrivesOrSettles := by
  intro a angle s running fitted moving target aims d direction i x set oil e idx u demand settled y
  have update := exec_axisUpdate (angle := angle) fitted
  have travels : x.state.travels = true := (travels_iff _).2 (.inl moving)
  have settings : (axisGoes (s.taken i) a (nowSettling x) none).settings.axes[a] = set := by
    rw [axisGoes_settings]
    rfl
  have enters (valid : angle.valid = true) (free : s.inputs.levels.limit a d = false)
      (inside : e.natAbs ≤ set.inBand) : (s.taken i).updateAxis a angle =
        (axisGoes (s.taken i) a (nowSettling x) none).settleStep a e :=
    (updateAxis_moving (s := s.taken i) direction free valid moving).trans
      (movingUpdate_in (s := s.taken i) aims inside)
  refine ⟨fun invalid => ?_, fun valid met => ?_, fun valid free out => ?_,
    fun valid free inside => ⟨fun more => ?_, fun full => ?_⟩⟩
  · exact update.trans (runEvent_stays (f := (·.updateAxis a angle)) running
      (updateAxis_invalid (s := s.taken i) invalid (.inl moving)))
  · have act := runEvent_axisRests_cut (f := (·.updateAxis a angle)) running x .idle .limit
      (updateAxis_limit (s := s.taken i) travels (.inl valid) direction met)
    rw [show x.state = .moving from moving] at act
    exact update.trans act
  · exact update.trans (runEvent_withAxis (f := (·.updateAxis a angle)) running _
      ((updateAxis_moving (s := s.taken i) direction free valid moving).trans
        (movingUpdate_out (s := s.taken i) aims moving out)))
  · have act := runEvent_axisGoes_withAxis (f := (·.updateAxis a angle)) running _ _ _
      ((enters valid free inside).trans
        (settleStep_counts (axisGoes_axis _ _ _ _) settings rfl more))
    rw [moving] at act
    exact update.trans act
  · have act := runEvent_axisGoes_rests (f := (·.updateAxis a angle)) running _ _ _ _ _
      ((enters valid free inside).trans
        (settleStep_ends (axisGoes_axis _ _ _ _) settings rfl full))
    rw [moving] at act
    exact update.trans act

section
variable {s : State} {a : Fin 4} {target angle : ℤ} (aims : s.axes[a].target = some target)
include aims

theorem settlingUpdate_in (inside : (target - angle).natAbs ≤ s.settings.axes[a].inBand) :
    s.settlingUpdate a angle = s.settleStep a (target - angle) := by
  unfold State.settlingUpdate State.inBand
  dsimp only
  rw [error_eq aims]
  exact if_pos (decide_eq_true inside)

/-- The record of an axis that goes back to MOVING (R26). -/
def nowMoving (x : AxisRecord) : AxisRecord := { x with settle := 0, state := .moving }

variable {d : Direction} (direction : s.axes[a].direction = some d)
  (out : s.settings.axes[a].inBand < (target - angle).natAbs)
include direction out

theorem settlingUpdate_returns (allowed : s.permits a d = true) :
    s.settlingUpdate a angle = (axisGoes s a (nowMoving s.axes[a]) none).withAxis a
      ((nowMoving s.axes[a]).driven (movingRecord s.settings.axes[a] s.channels[s.settings.oil]
        (target - angle) s.axes[a].c)) := by
  have side : s.axes[a].direction.getD .raise = d := by rw [direction]; rfl
  have record := axisGoes_axis s a (nowMoving s.axes[a]) none
  have drives := drive_moving (s := axisGoes s a (nowMoving s.axes[a]) none) (a := a)
    (e := target - angle) (by rw [record]; rfl)
  have oil : (axisGoes s a (nowMoving s.axes[a]) none).channels[
      (axisGoes s a (nowMoving s.axes[a]) none).settings.oil] = s.channels[s.settings.oil] := by
    simp only [axisGoes_settings, axisGoes_channels]
  rw [record, oil, axisGoes_settings] at drives
  unfold State.settlingUpdate State.inBand
  dsimp only
  rw [error_eq aims, decide_eq_false (Nat.not_le.2 out), if_neg nofun, side, allowed, if_pos rfl,
    travel_eq]
  exact drives

theorem settlingUpdate_stops (forbidden : s.permits a d = false) :
    s.settlingUpdate a angle = s.stopUpdate a .permissiveLost := by
  have side : s.axes[a].direction.getD .raise = d := by rw [direction]; rfl
  unfold State.settlingUpdate State.inBand
  dsimp only
  rw [error_eq aims, decide_eq_false (Nat.not_le.2 out), if_neg nofun, side, forbidden, if_neg nofun]

end

/-- Settles O14. -/
theorem settlingUpdateCountsOrReturns : Obligations.SettlingUpdateCountsOrReturns := by
  intro a angle s running fitted settling target aims d direction i x set oil e idx u demand settled
    count y
  have update := exec_axisUpdate (a := a) (angle := ⟨angle, true⟩) fitted
  have travels : x.state.travels = true := (travels_iff _).2 (.inr (.inl settling))
  have enters (free : s.inputs.levels.limit a d = false) :
      (s.taken i).updateAxis a ⟨angle, true⟩ = (s.taken i).settlingUpdate a angle :=
    updateAxis_settling (s := s.taken i) direction free rfl settling
  refine ⟨fun met => ?_, fun free inside => ⟨fun more => ?_, fun full => ?_⟩, fun free out allowed => ?_,
    fun free out forbidden still => ?_, fun free out forbidden moves => ?_, fun v => ?_⟩
  · have act := runEvent_axisRests_cut (f := (·.updateAxis a ⟨angle, true⟩)) running x .idle .limit
      (updateAxis_limit (s := s.taken i) travels (.inl rfl) direction met)
    rw [show x.state = .settling from settling] at act
    exact update.trans act
  · exact update.trans (runEvent_withAxis (f := (·.updateAxis a ⟨angle, true⟩)) running _
      ((enters free).trans ((settlingUpdate_in (s := s.taken i) aims inside).trans
        (settleStep_counts (s := s.taken i) rfl rfl settling more))))
  · have act := runEvent_axisRests (f := (·.updateAxis a ⟨angle, true⟩)) running y .idle .reached
      ((enters free).trans ((settlingUpdate_in (s := s.taken i) aims inside).trans
        (settleStep_ends (s := s.taken i) rfl rfl settling full)))
    rw [show y.state = .settling from settling] at act
    exact update.trans act
  · have act := runEvent_axisGoes_withAxis (f := (·.updateAxis a ⟨angle, true⟩)) running _ _ _
      ((enters free).trans (settlingUpdate_returns (s := s.taken i) aims direction out allowed))
    rw [settling] at act
    exact update.trans act
  · exact update.trans (runEvent_axisStops (f := (·.updateAxis a ⟨angle, true⟩)) running x
      .permissiveLost ((enters free).trans
        ((settlingUpdate_stops (s := s.taken i) aims direction out forbidden).trans
          (stopUpdate_still (s := s.taken i) .permissiveLost still))))
  · exact stopsInUpdate running update ((enters free).trans
      (settlingUpdate_stops (s := s.taken i) aims direction out forbidden)) moves
  · exact (exec_axisUpdate fitted).trans (runEvent_stays (f := (·.updateAxis a ⟨v, false⟩)) running
      (updateAxis_invalid (s := s.taken _) rfl (.inr settling)))

end Sys2Proof.Proofs
end

section
/-! SUPPORT. The requests that act on axes (02). -/

open Sys2Proof Sys2Proof.Machine

namespace Sys2Proof.Proofs

/-! ### The end of a request that acts on an axis -/

theorem placeReply_withAxisStopping (s : State) (l : Link) (r : Reply) (a : Fin 4) (x : AxisRecord)
    (o : MotionOutcome) (h : List Instr) :
    (({ s.withAxisStopping a x o with handed := h } : State).placeReply l r).pump =
      { (s.placeReply l r).pump.withAxisStopping a x o with handed := h } := by
  unfold State.withAxisStopping
  split <;> rfl

theorem placeReply_withAxisAtRest (s : State) (l : Link) (r : Reply) (a : Fin 4) (x : AxisRecord)
    (into : AxisState) (o : MotionOutcome) (h : List Instr) :
    (({ s.withAxisAtRest a x into o with handed := h } : State).placeReply l r).pump =
      { (s.placeReply l r).pump.withAxisAtRest a x into o with handed := h } := rfl

section
variable {s : State} {l : Link} {tag : Byte} {i : Instr} {a : Fin 4} {f : State → State × ReplyData}
  {data : ReplyData} (running : s.power = .running)
include running

theorem runRequest_axisRests (x : AxisRecord) (into : AxisState) (o : MotionOutcome)
    (h : f (s.openRequest l i) = (axisRests (s.openRequest l i) a x into o, data)) :
    runRequest i l tag s f = .next
      { (s.answered l tag i (restReports a x into s.clock o) data).withAxisAtRest a x into o with
        handed := s.handed ++ axisNotices a x.state into } := by
  rw [runRequest_of_running running, h]
  unfold axisRests
  dsimp only
  rw [placeReply_withAxisAtRest, answered_eq]
  rfl

theorem runRequest_axisStops (x : AxisRecord) (o : MotionOutcome)
    (h : f (s.openRequest l i) = (axisStops (s.openRequest l i) a x o, data)) :
    runRequest i l tag s f = .next
      { (s.answered l tag i (stopReports a x s.clock o) data).withAxisStopping a x o with
        handed := s.handed ++ stopNotices a x } := by
  rw [runRequest_of_running running, h]
  unfold axisStops
  dsimp only
  rw [placeReply_withAxisStopping, answered_eq]
  rfl

theorem runRequest_withAxis (y : AxisRecord)
    (h : f (s.openRequest l i) = ((s.openRequest l i).withAxis a y, data)) :
    runRequest i l tag s f = .next ((s.answered l tag i [] data).withAxis a y) := by
  rw [runRequest_of_running running, h]
  rfl

theorem runRequest_modAxis (k : AxisRecord → AxisRecord)
    (h : f (s.openRequest l i) = ((s.openRequest l i).modAxis a k, data)) :
    runRequest i l tag s f = .next { s.answered l tag i [] data with
      axes := s.axes.set a (k s.axes[a]) } := by
  rw [runRequest_of_running running, h]
  rfl

theorem runRequest_axisGoes (y : AxisRecord) (cause : Option MotionOutcome)
    (h : f (s.openRequest l i) = (axisGoes (s.openRequest l i) a y cause, data)) :
    runRequest i l tag s f = .next
      { s.answered l tag i [toBoth (.axisState a s.axes[a].state y.state cause)] data with
        axes := s.axes.set a y
        handed := s.handed ++ axisNotices a s.axes[a].state y.state } := by
  rw [runRequest_of_running running, h]
  rfl

/-- A request by which an axis leaves IDLE (log entry 2). -/
theorem runRequest_leaves (y : AxisRecord)
    (h : f (s.openRequest l i) = (axisGoes ((s.openRequest l i).leaveIdle a) a y none, data)) :
    runRequest i l tag s f = .next
      { s.answered l tag i [toBoth (.axisState a s.axes[a].state y.state none)] data with
        axes := s.axes.set a y
        handed := s.handed.filter (fun n => !idleNotice a n) ++
          axisNotices a s.axes[a].state y.state } := by
  have said (t : State) (rs) : (t.leaveIdle a).says rs = { t.says rs with
      handed := t.handed.filter (fun n => !idleNotice a n) } := by
    rw [says_eq, says_eq]
    rfl
  rw [runRequest_of_running running, h]
  unfold axisGoes
  rw [said]
  rfl

end

/-! ### AXIS MOVE (R21 to R23) -/

/-- AXIS MOVE, past the naming of its axis. -/
def moves (l : Link) (a : Fin 4) (target : ℤ) (s : State) : State × ReplyData :=
  match s.moveRefusal l a with
  | some code => deny s code
  | none => s.move l a target

theorem moves_refused {l : Link} {a : Fin 4} {target : ℤ} {u : State} {code : RefusalCode}
    (refuses : u.moveRefusal l a = some code) : moves l a target u = deny u code := by
  unfold moves
  rw [refuses]

theorem moves_passed {l : Link} {a : Fin 4} {target : ℤ} {u : State}
    (passes : u.moveRefusal l a = none) : moves l a target u = u.move l a target := by
  unfold moves
  rw [passes]

theorem exec_axisMove {l : Link} {tag : Byte} {a : Fin 4} {target : ℤ} {s : State}
    (fitted : s.settings.axes[a].fitted = true) :
    exec (.axisMove l tag a target) s =
      runRequest (.axisMove l tag a target) l tag s (moves l a target) := by
  change execAxisMove l tag a target s = _
  have named : (s.openRequest l (.axisMove l tag a target)).fittedAxis? a = some a :=
    fittedAxis?_of_fitted fitted
  unfold execAxisMove runRequest
  dsimp only
  rw [named]
  rfl

/-- The state of an axis allows a move, its angle VALID (R21). -/
def takesMoves (x : AxisState) : Prop := x = .idle ∨ x = .warning ∨ x = .moving ∨ x = .settling

section
variable {u : State} {l : Link} {a : Fin 4}

theorem moveRefusal_authority (other : u.holder a ≠ some l) : u.moveRefusal l a = some .noAuthority :=
  if_pos (by rw [show u.holds l a = false from decide_eq_false other]; rfl)

section
variable (holder : u.holder a = some l)
include holder

theorem moveRefusal_held (held : u.station.held = true) : u.moveRefusal l a = some .held := by
  unfold State.moveRefusal
  rw [holds_iff.2 holder, if_neg nofun, if_pos held]

variable (free : u.station.held = false)
include free

theorem moveRefusal_stopped (stop : u.alarms.stop = true) : u.moveRefusal l a = some .pumpStopped := by
  unfold State.moveRefusal
  rw [holds_iff.2 holder, free, if_neg nofun, if_neg nofun, if_pos stop]

variable (released : u.alarms.stop = false)
include released

theorem moveRefusal_tripped (tripped : u.axes[a].state = .tripped) :
    u.moveRefusal l a = some .tripped := by
  unfold State.moveRefusal
  rw [holds_iff.2 holder, free, released, tripped]
  rfl

theorem moveRefusal_busy (busy : u.axes[a].state = .stopping ∨ u.axes[a].state = .jogging ∨
    u.axes[a].state = .manual) : u.moveRefusal l a = some .busy := by
  unfold State.moveRefusal
  rw [holds_iff.2 holder, free, released]
  rcases busy with state | state | state <;> rw [state] <;> rfl

theorem moveRefusal_takes (takes : takesMoves u.axes[a].state) :
    u.moveRefusal l a = if (u.angle a).valid then none else some .sensor := by
  unfold State.moveRefusal
  rw [holds_iff.2 holder, free, released]
  rcases takes with state | state | state | state <;> rw [state] <;> rfl

end

end

theorem moveFromIdle_inBand {u : State} {l : Link} {a : Fin 4} {target : ℤ}
    (inside : (target - (u.angle a).scaled).natAbs ≤ u.settings.axes[a].inBand) :
    u.moveFromIdle l a target = done u (beInt16 target ++ [1]) := by
  rw [moveFromIdle_eq]
  exact if_pos (decide_eq_true inside)

section
variable {u : State} {l : Link} {a : Fin 4} {target : ℤ}
  (out : u.settings.axes[a].inBand < (target - (u.angle a).scaled).natAbs)
include out

theorem moveFromIdle_forbidden (forbidden : u.permits a (moveDirection u a target) = false) :
    u.moveFromIdle l a target = deny u .notPermitted := by
  rw [moveFromIdle_eq, forbidden]
  exact if_neg (by rw [State.inBand, decide_eq_false (Nat.not_le.2 out)]; exact nofun)

theorem moveFromIdle_starts (allowed : u.permits a (moveDirection u a target) = true) :
    u.moveFromIdle l a target = (moveStarted u l a (moveDirection u a target) target,
      .accepted (beInt16 target ++ [0])) := by
  rw [moveFromIdle_eq, allowed]
  exact if_neg (by rw [State.inBand, decide_eq_false (Nat.not_le.2 out)]; exact nofun)

end

/-- What a change of axis state hands on (R20). -/
theorem axisNotices_eq (a : Fin 4) {prev new : AxisState} (moves : prev ≠ new) :
    axisNotices a prev new =
      [.sourceChange (.axisState a) ⟨new.code, true⟩,
       .outputLineSourceChange (.axisActive a) (decide (new ≠ .idle ∧ new ≠ .tripped)),
       .axisStateChangeSeen a new] ++
      (if new = .idle ∨ new = .tripped then [.standClearRemoval a]
      else if prev = .idle ∧ (new = .warning ∨ new = .jogging ∨ new = .manual) then
        [.standClearPost a]
      else []) := by
  have active : new.active = decide (new ≠ .idle ∧ new ≠ .tripped) := by
    cases new <;> rfl
  unfold axisNotices
  rw [active, List.append_assoc]
  by_cases rests : new = .idle ∨ new = .tripped
  · have stays : ¬(prev = .idle ∧ (new = .warning ∨ new = .jogging ∨ new = .manual)) := by
      rcases rests with rfl | rfl <;> exact fun h => by simp at h
    rw [if_neg stays, if_pos ⟨rests, moves⟩, if_pos rests, List.nil_append]
  · have stays : ¬((new = .idle ∨ new = .tripped) ∧ prev ≠ new) := fun h => rests h.1
    rw [if_neg stays, if_neg rests, List.append_nil]

theorem idleNotice_iff (a : Fin 4) (n : Instr) : idleNotice a n = true ↔
    (∃ r, n = .holderChange a r) ∨ n = .deckHoldNotice a ∨
      (∃ l, n = .lossOfServiceLevel a l) ∨ (∃ b, n = .stopLineChange a b) ∨
      (∃ d b, n = .permissiveSlotChange a d b) ∨ (∃ d b, n = .limitSwitchChange a d b) ∨
      n = .disablingNotice a := by
  constructor
  · intro idle
    cases n <;> simp only [idleNotice, decide_eq_true_eq, Bool.false_eq_true] at idle
    all_goals
      subst idle
      simp
  · rintro (⟨r, rfl⟩ | rfl | ⟨l, rfl⟩ | ⟨b, rfl⟩ | ⟨d, b, rfl⟩ | ⟨d, b, rfl⟩ | rfl) <;>
      exact decide_eq_true rfl

theorem runEvent_ifFitted_stays {s : State} {i : Instr} {a : Fin 4} {f : State → State}
    (running : s.power = .running) (stays : f (s.taken i) = s.taken i) :
    runEvent i s (fun u => u.ifFitted a f) = .next (s.acted i []) := by
  refine runEvent_stays running ?_
  unfold State.ifFitted
  split
  · exact stays
  · rfl

/-- In IDLE an axis does nothing with these notices (log entry 2). -/
theorem exec_idleNotice {s : State} {a : Fin 4} {n : Instr} (running : s.power = .running)
    (idle : s.axes[a].state = .idle) (notice : idleNotice a n = true) :
    exec n s = .next (s.acted n []) := by
  have state (n : Instr) : (s.taken n).axes[a].state = .idle := idle
  rcases (idleNotice_iff a n).1 notice with
    ⟨r, rfl⟩ | rfl | ⟨l, rfl⟩ | ⟨b, rfl⟩ | ⟨d, b, rfl⟩ | ⟨d, b, rfl⟩ | rfl
  · refine runEvent_ifFitted_stays (f := holderChanges a r) running ?_
    refine (holderChanges_other ?_).trans (endTravel_rests ?_ ?_) <;> rw [state] <;>
      first | rfl | exact nofun
  · refine runEvent_ifFitted_stays (f := deckHolds a) running ?_
    refine (deckHolds_other ?_ ?_).trans (endTravel_rests ?_ ?_) <;> rw [state] <;>
      first | rfl | exact nofun
  · refine runEvent_ifFitted_stays (f := levelLost a l) running (if_neg ?_)
    rw [state]
    exact fun h => absurd h.1 nofun
  · refine runEvent_ifFitted_stays (f := stopChanges a b) running (if_neg ?_)
    rw [state, Bool.and_comm]
    exact nofun
  · refine runEvent_ifFitted_stays (f := slotChanges a d b) running (if_neg ?_)
    rw [state]
    exact fun h => absurd h.2.1 nofun
  · exact runEvent_ifFitted_stays (f := limitChanges a d b) running
      (limitChanges_misses (meets_rests (.inl (state _))))
  · refine runEvent_ifFitted_stays (f := disables a) running (if_neg ?_)
    rw [state]
    exact nofun

/-- Settles O10. -/
theorem axisMoveStartsFromIdle : Obligations.AxisMoveStartsFromIdle := by
  refine ⟨?_, fun a prev new => axisNotices_eq a, fun a n => ⟨idleNotice_iff a n,
    fun s running idle notice => exec_idleNotice running idle notice⟩⟩
  intro l tag a target s running fitted holder free released idle valid i x t d
  have move := exec_axisMove (l := l) (tag := tag) (target := target) fitted
  have passes : (s.openRequest l i).moveRefusal l a = none := by
    rw [moveRefusal_takes (u := s.openRequest l i) holder free released (.inl idle)]
    exact if_pos valid
  have starts : moves l a target (s.openRequest l i) = (s.openRequest l i).moveFromIdle l a t :=
    (moves_passed passes).trans (if_pos idle)
  refine ⟨fun inside => ?_, fun out => ⟨fun forbidden => ?_, fun allowed => ?_⟩⟩
  · exact move.trans (runRequest_answers running (starts.trans
      (moveFromIdle_inBand (u := s.openRequest l i) inside)))
  · exact move.trans (runRequest_answers running (starts.trans
      (moveFromIdle_forbidden (u := s.openRequest l i) out forbidden)))
  · have act := move.trans (runRequest_leaves running _ (starts.trans
      (moveFromIdle_starts (u := s.openRequest l i) out allowed)))
    rw [idle] at act
    exact act

/-! ### A retarget (R23) -/

/-- A target lies against the running direction `d` of an axis at `angle` (R23). -/
def Against (d : Direction) (target angle band : ℤ) : Prop :=
  (d = .lower ∧ angle + band < target) ∨ (d = .raise ∧ target < angle - band)

theorem retargetDirection_iff {target angle : ℤ} {band : ℕ} {d : Direction} :
    retargetDirection target angle band (some d) ≠ some d ↔ Against d target angle band := by
  unfold retargetDirection Against
  split
  · cases d <;> simp <;> omega
  split
  · cases d <;> simp <;> omega
  · cases d <;> simp <;> omega

section
variable {u : State} {a : Fin 4} {target : ℤ} {d : Direction} (direction : u.axes[a].direction = some d)
include direction

theorem retarget_against
    (against : Against d target (u.angle a).scaled u.settings.axes[a].inBand) :
    u.retarget a target = deny u .state := by
  unfold State.retarget
  dsimp only
  rw [direction]
  exact if_pos (retargetDirection_iff.2 against)

variable (along : ¬Against d target (u.angle a).scaled u.settings.axes[a].inBand)
include along

theorem retarget_forbidden (forbidden : u.permits a d = false) :
    u.retarget a target = deny u .notPermitted := by
  unfold State.retarget
  dsimp only
  rw [direction, if_neg (mt retargetDirection_iff.1 along), Option.getD_some, forbidden]
  rfl

theorem retarget_allowed (allowed : u.permits a d = true) :
    u.retarget a target = (if u.axes[a].state = .settling ∧ u.inBand a (target - (u.angle a).scaled) = false
      then (u.modAxis a (·.retarget target)).travel a .moving else u.modAxis a (·.retarget target),
      .accepted (beInt16 target ++ [0])) := by
  unfold State.retarget
  dsimp only
  rw [direction, if_neg (mt retargetDirection_iff.1 along), Option.getD_some, allowed]
  rfl

theorem retarget_stays (allowed : u.permits a d = true)
    (stays : ¬(u.axes[a].state = .settling ∧ u.inBand a (target - (u.angle a).scaled) = false)) :
    u.retarget a target = (u.modAxis a (·.retarget target), .accepted (beInt16 target ++ [0])) := by
  rw [retarget_allowed direction along allowed, if_neg stays]

end

theorem inBand_eq_false {u : State} {a : Fin 4} {e : ℤ} :
    u.inBand a e = false ↔ (u.settings.axes[a].inBand : ℤ) < e.natAbs := by
  unfold State.inBand
  rw [decide_eq_false_iff_not, Nat.not_le, Nat.cast_lt]

theorem travel_retarget (u : State) (a : Fin 4) (target : ℤ) :
    (u.modAxis a (·.retarget target)).travel a .moving =
      axisGoes u a (nowMoving (u.axes[a].retarget target)) none := by
  unfold State.travel
  rw [modAxis_modAxis]
  exact changeAxis_modAxis (s := u) (a := a) (f := fun x => { x.retarget target with settle := 0 }) rfl
    .moving none

theorem retarget_turns {u : State} {a : Fin 4} {target : ℤ} {d : Direction}
    (direction : u.axes[a].direction = some d)
    (along : ¬Against d target (u.angle a).scaled u.settings.axes[a].inBand)
    (allowed : u.permits a d = true)
    (turns : u.axes[a].state = .settling ∧ u.inBand a (target - (u.angle a).scaled) = false) :
    u.retarget a target = (axisGoes u a (nowMoving (u.axes[a].retarget target)) none,
      .accepted (beInt16 target ++ [0])) := by
  rw [retarget_allowed direction along allowed, if_pos turns, travel_retarget]

/-- Settles O11. -/
theorem axisMoveChecksAndRetargets : Obligations.AxisMoveChecksAndRetargets := by
  refine ⟨?_, ?_⟩
  · intro l tag n target s running i refuses
    refine ⟨fun unfitted => ?_, fun a named fitted => ?_⟩
    · change execAxisMove l tag n target s = _
      refine runRequest_answers running ?_
      rw [fittedAxis?_of_unfitted (s := s.openRequest l i) unfitted]
      rfl
    · subst named
      have move {code : RefusalCode} (h : (s.openRequest l i).moveRefusal l a = some code) : refuses code :=
        (exec_axisMove fitted).trans (runRequest_answers running (moves_refused h))
      refine ⟨fun other => move (moveRefusal_authority (u := s.openRequest l i) other),
        fun holder => ⟨fun held => ?_, fun free => ⟨fun stop => ?_, fun released =>
          ⟨fun tripped => ?_, fun busy => ?_, fun takes invalid => ?_⟩⟩⟩⟩
      · exact move (moveRefusal_held (u := s.openRequest l i) holder held)
      · exact move (moveRefusal_stopped (u := s.openRequest l i) holder free stop)
      · exact move (moveRefusal_tripped (u := s.openRequest l i) holder free released tripped)
      · exact move (moveRefusal_busy (u := s.openRequest l i) holder free released busy)
      · refine move ((moveRefusal_takes (u := s.openRequest l i) holder free released takes).trans
          (if_neg ?_))
        rw [show ((s.openRequest l i).angle a).valid = false from invalid]
        exact nofun
  · intro l tag a target s running fitted holder free released valid state d direction i x band t angle
      against y
    have takes : takesMoves x.state := by
      rcases state with warning | moving | settling
      · exact .inr (.inl warning)
      · exact .inr (.inr (.inl moving))
      · exact .inr (.inr (.inr settling))
    have passes : (s.openRequest l i).moveRefusal l a = none :=
      (moveRefusal_takes (u := s.openRequest l i) holder free released takes).trans (if_pos valid)
    have idle : x.state ≠ .idle := by
      rcases state with h | h | h <;> exact fun idle => absurd (idle.symm.trans h) nofun
    have turns : moves l a target (s.openRequest l i) = (s.openRequest l i).retarget a t :=
      (moves_passed passes).trans (if_neg idle)
    have move := exec_axisMove (l := l) (tag := tag) (target := target) fitted
    refine ⟨fun against => ?_, fun along forbidden => ?_, fun along allowed => ⟨fun out => ?_, fun stays => ?_⟩⟩
    · exact move.trans (runRequest_answers running (turns.trans
        (retarget_against (u := s.openRequest l i) direction against)))
    · exact move.trans (runRequest_answers running (turns.trans
        (retarget_forbidden (u := s.openRequest l i) direction along forbidden)))
    · have turned := turns.trans (retarget_turns (u := s.openRequest l i) direction along allowed
        ⟨out.1, inBand_eq_false.2 out.2⟩)
      have act := move.trans (runRequest_axisGoes running _ none turned)
      rw [out.1] at act
      exact act
    · have turned := turns.trans (retarget_stays (u := s.openRequest l i) direction along allowed
        fun h => stays ⟨h.1, inBand_eq_false.1 h.2⟩)
      exact move.trans (runRequest_modAxis running _ turned)

end Sys2Proof.Proofs
end

section
/-! SUPPORT. Jogging and manual service drive (02, 2.7, 2.8). -/

open Sys2Proof Sys2Proof.Machine

namespace Sys2Proof.Proofs

/-! ### AXIS JOG (R36, R37) -/

/-- AXIS JOG, past the naming of its axis and its direction. -/
def jogs (l : Link) (a : Fin 4) (d : Direction) (s : State) : State × ReplyData :=
  match s.jogRefusal l a with
  | some code => deny s code
  | none => s.jog l a d

theorem jogs_refused {l : Link} {a : Fin 4} {d : Direction} {u : State} {code : RefusalCode}
    (refuses : u.jogRefusal l a = some code) : jogs l a d u = deny u code := by
  unfold jogs
  rw [refuses]

theorem jogs_passed {l : Link} {a : Fin 4} {d : Direction} {u : State}
    (passes : u.jogRefusal l a = none) : jogs l a d u = u.jog l a d := by
  unfold jogs
  rw [passes]

theorem exec_axisJog {l : Link} {tag : Byte} {a : Fin 4} {d : Direction} {s : State}
    (fitted : s.settings.axes[a].fitted = true) :
    exec (.axisJog l tag a d.code) s = runRequest (.axisJog l tag a d.code) l tag s (jogs l a d) := by
  change execAxisJog l tag a d.code s = _
  have named : (s.openRequest l (.axisJog l tag a d.code)).fittedAxis? a = some a :=
    fittedAxis?_of_fitted fitted
  have side : Direction.ofCode d.code = some d := by cases d <;> rfl
  unfold execAxisJog runRequest
  dsimp only
  rw [named, side]
  rfl

theorem ofCode_undefined {code : ℕ} (one : code ≠ 1) (two : code ≠ 2) : Direction.ofCode code = none := by
  unfold Direction.ofCode
  split
  · exact absurd rfl one
  · exact absurd rfl two
  · rfl

theorem exec_axisJog_undefined {l : Link} {tag : Byte} {n code : ℕ} {s : State}
    (running : s.power = .running) (one : code ≠ 1) (two : code ≠ 2) :
    exec (.axisJog l tag n code) s =
      .next (s.answered l tag (.axisJog l tag n code) [] (.refused .badField)) := by
  change execAxisJog l tag n code s = _
  refine runRequest_answers running ?_
  rw [ofCode_undefined one two]
  cases (s.openRequest l (.axisJog l tag n code)).fittedAxis? n <;> rfl

/-- The local link holds the axis (R36). -/
def Mine (s : State) (l : Link) (a : Fin 4) : Prop := l = .localLink ∧ s.holder a = some .localLink

section
variable {u : State} {l : Link} {a : Fin 4}

theorem jogRefusal_authority (other : ¬Mine u l a) : u.jogRefusal l a = some .noAuthority := by
  refine if_pos ?_
  by_cases link : l = .localLink
  · exact .inr (decide_eq_false fun holder => other ⟨link, holder⟩)
  · exact .inl link

section
variable (mine : Mine u l a)
include mine

theorem not_refused_of_mine : ¬(l ≠ .localLink ∨ u.holds .localLink a = false) := by
  obtain ⟨link, holder⟩ := mine
  rw [holds_iff.2 holder]
  exact fun h => h.elim (· link) nofun

theorem jogRefusal_held (held : u.station.held = true) : u.jogRefusal l a = some .held := by
  unfold State.jogRefusal
  rw [if_neg (not_refused_of_mine mine), if_pos held]

variable (free : u.station.held = false)
include free

theorem jogRefusal_stopped (stop : u.alarms.stop = true) : u.jogRefusal l a = some .pumpStopped := by
  unfold State.jogRefusal
  rw [if_neg (not_refused_of_mine mine), free, if_neg nofun, if_pos stop]

variable (released : u.alarms.stop = false)
include released

theorem jogRefusal_tripped (tripped : u.axes[a].state = .tripped) :
    u.jogRefusal l a = some .tripped := by
  unfold State.jogRefusal
  rw [if_neg (not_refused_of_mine mine), free, released, tripped]
  rfl

theorem jogRefusal_busy (busy : u.axes[a].state = .warning ∨ u.axes[a].state = .moving ∨
    u.axes[a].state = .settling ∨ u.axes[a].state = .stopping ∨ u.axes[a].state = .manual) :
    u.jogRefusal l a = some .busy := by
  unfold State.jogRefusal
  rw [if_neg (not_refused_of_mine mine), free, released]
  rcases busy with state | state | state | state | state <;> rw [state] <;> rfl

theorem jogRefusal_passes (takes : u.axes[a].state = .idle ∨ u.axes[a].state = .jogging) :
    u.jogRefusal l a = none := by
  unfold State.jogRefusal
  rw [if_neg (not_refused_of_mine mine), free, released]
  rcases takes with state | state <;> rw [state] <;> rfl

end

/-- An angle has reached the soft limit of a direction (R36, R37). -/
def SoftMet (set : AxisSettings) (angle : ℤ) (d : Direction) : Prop :=
  (d = .raise ∧ set.lHi ≤ angle) ∨ (d = .lower ∧ angle ≤ set.lLo)

theorem softLimit_iff {angle : ℤ} {d : Direction} :
    u.softLimit a angle d = true ↔ SoftMet u.settings.axes[a] angle d := by
  unfold State.softLimit SoftMet
  cases d
  · rw [decide_eq_true_iff]
    exact ⟨fun h => .inl ⟨rfl, h⟩, fun h => h.elim (·.2) fun h => absurd h.1 nofun⟩
  · rw [decide_eq_true_iff]
    exact ⟨fun h => .inr ⟨rfl, h⟩, fun h => h.elim (fun h => absurd h.1 nofun) (·.2)⟩

theorem jogBlocked_iff {d : Direction} : u.jogBlocked a d = true ↔
    u.inputs.levels.limit a d = true ∨
      ((u.angle a).valid = true ∧ SoftMet u.settings.axes[a] (u.angle a).scaled d) := by
  unfold State.jogBlocked
  rw [Bool.or_eq_true, Bool.and_eq_true, softLimit_iff]
  rfl

variable {d : Direction}

theorem jog_again (jogging : u.axes[a].state = .jogging) (same : u.axes[a].direction = some d) :
    u.jog l a d = done (u.modAxis a fun x => { x with refresh := some Config.refreshWindow }) [] :=
  (if_pos jogging).trans (if_pos same)

theorem jog_other (jogging : u.axes[a].state = .jogging) (other : u.axes[a].direction ≠ some d) :
    u.jog l a d = deny u .state := (if_pos jogging).trans (if_neg other)

section
variable (idle : u.axes[a].state = .idle)
include idle

theorem jog_blocked (blocked : u.jogBlocked a d = true) : u.jog l a d = deny u .state :=
  (if_neg (by rw [idle]; exact nofun)).trans (if_pos blocked)

variable (free : ¬u.jogBlocked a d = true)
include free

theorem jog_forbidden (forbidden : u.permits a d = false) : u.jog l a d = deny u .notPermitted :=
  (if_neg (by rw [idle]; exact nofun)).trans
    ((if_neg free).trans (if_pos (by rw [forbidden]; rfl)))

theorem jog_starts (allowed : u.permits a d = true) :
    u.jog l a d = (axisGoes (u.leaveIdle a) a (jogged u l a d) none, .done []) := by
  refine (if_neg (by rw [idle]; exact nofun)).trans
    ((if_neg free).trans ((if_neg (by rw [allowed]; exact nofun)).trans ?_))
  rw [startJog_eq]
  rfl

end

end

/-- What an update in JOGGING leaves as its record (R48, R53 to R55; log entry 16). -/
def joggingRecord (set : AxisSettings) (oil : ChannelRecord) (d : Direction) (c : ℤ) : UpdateRecord :=
  let idx := tableIndex set.tableMode oil.scaled (decide (d = .raise))
  let u := demandMagnitude (set.ff.toList.getD idx 0) set.dMin set.dMax
  let demand : ℤ := if d = .raise then u else -u
  ⟨.jogging, some oil.scaled, some oil.valid, some idx, none, some u, demand, c,
    slewed c demand set.slew set.dMax⟩

theorem drive_jogging {s : State} {a : Fin 4} {d : Direction} (jogging : s.axes[a].state = .jogging)
    (direction : s.axes[a].direction = some d) :
    s.drive a none = s.withAxis a (s.axes[a].driven (joggingRecord s.settings.axes[a]
      s.channels[s.settings.oil] d s.axes[a].c)) := by
  have side : s.axes[a].direction.getD .raise = d := by rw [direction]; rfl
  rw [drive_eq]
  unfold driveOf
  rw [jogging, side]
  rfl

section
variable {s : State} {a : Fin 4} {angle : Reading} {d : Direction}
  (direction : s.axes[a].direction = some d)
include direction

theorem joggingUpdate_soft (soft : angle.valid = true ∧ SoftMet s.settings.axes[a] angle.value d) :
    s.joggingUpdate a angle = s.stopUpdate a .limit := by
  unfold State.joggingUpdate
  rw [direction, Option.getD_some, soft.1, softLimit_iff.2 soft.2]
  rfl

theorem joggingUpdate_drives (jogging : s.axes[a].state = .jogging)
    (free : ¬(angle.valid = true ∧ SoftMet s.settings.axes[a] angle.value d)) :
    s.joggingUpdate a angle = s.withAxis a (s.axes[a].driven (joggingRecord s.settings.axes[a]
      s.channels[s.settings.oil] d s.axes[a].c)) := by
  have open' : ¬(angle.valid && s.softLimit a angle.value d) = true := by
    rw [Bool.and_eq_true, softLimit_iff]
    exact free
  rw [← drive_jogging jogging direction]
  unfold State.joggingUpdate
  rw [show s.axes[a].direction.getD .raise = d by rw [direction]; rfl]
  exact if_neg open'

end

/-- Settles O21. -/
theorem axisJogStartsDrivesAndEnds : Obligations.AxisJogStartsDrivesAndEnds := by
  refine ⟨?_, ?_⟩
  · intro l tag a d s running fitted i x refuses mine atLimit
    have jog := exec_axisJog (l := l) (tag := tag) (d := d) fitted
    have refused {code : RefusalCode} (h : (s.openRequest l i).jogRefusal l a = some code) : refuses code :=
      jog.trans (runRequest_answers running (jogs_refused h))
    refine ⟨fun other => refused (jogRefusal_authority (u := s.openRequest l i) other),
      fun own held => refused (jogRefusal_held (u := s.openRequest l i) own held),
      fun own free stop => refused (jogRefusal_stopped (u := s.openRequest l i) own free stop),
      fun own free released => ?_, fun code one two => exec_axisJog_undefined running one two⟩
    have passes (takes : x.state = .idle ∨ x.state = .jogging) :
        jogs l a d (s.openRequest l i) = (s.openRequest l i).jog l a d :=
      jogs_passed (jogRefusal_passes (u := s.openRequest l i) own free released takes)
    refine ⟨fun tripped => refused (jogRefusal_tripped (u := s.openRequest l i) own free released tripped),
      fun busy => refused (jogRefusal_busy (u := s.openRequest l i) own free released busy),
      fun jogging same => ?_, fun jogging other => ?_, fun idle met => ?_, fun idle open' forbidden => ?_,
      fun idle open' allowed => ?_⟩
    · exact jog.trans (runRequest_modAxis running _ ((passes (.inr jogging)).trans
        (jog_again (u := s.openRequest l i) jogging same)))
    · exact jog.trans (runRequest_answers running ((passes (.inr jogging)).trans
        (jog_other (u := s.openRequest l i) jogging other)))
    · exact jog.trans (runRequest_answers running ((passes (.inl idle)).trans
        (jog_blocked (u := s.openRequest l i) idle (jogBlocked_iff.2 met))))
    · exact jog.trans (runRequest_answers running ((passes (.inl idle)).trans
        (jog_forbidden (u := s.openRequest l i) idle (mt jogBlocked_iff.1 open') forbidden)))
    · have act := jog.trans (runRequest_leaves running _ ((passes (.inl idle)).trans
        (jog_starts (u := s.openRequest l i) idle (mt jogBlocked_iff.1 open') allowed)))
      rw [idle] at act
      exact act
  · intro a angle s running fitted jogging d direction i x set oil idx u demand soft
    have update := exec_axisUpdate (angle := angle) fitted
    have enters (free : s.inputs.levels.limit a d = false) :
        (s.taken i).updateAxis a angle = (s.taken i).joggingUpdate a angle :=
      updateAxis_jogging (s := s.taken i) direction free jogging
    refine ⟨fun met => ?_, fun free open' => ?_, fun free met still => ?_, fun free met moves => ?_⟩
    · have act := runEvent_axisRests_cut (f := (·.updateAxis a angle)) running x .idle .limit
        (updateAxis_limit (s := s.taken i) ((travels_iff _).2 (.inr (.inr jogging))) (.inr jogging)
          direction met)
      rw [show x.state = .jogging from jogging] at act
      exact update.trans act
    · exact update.trans (runEvent_withAxis (f := (·.updateAxis a angle)) running _
        ((enters free).trans (joggingUpdate_drives (s := s.taken i) direction jogging open')))
    · exact update.trans (runEvent_axisStops (f := (·.updateAxis a angle)) running x .limit
        ((enters free).trans ((joggingUpdate_soft (s := s.taken i) direction met).trans
          (stopUpdate_still (s := s.taken i) .limit still))))
    · exact stopsInUpdate running update
        ((enters free).trans (joggingUpdate_soft (s := s.taken i) direction met)) moves

/-! ### Manual service drive (R38 to R40) -/

/-- MANUAL ENTER, past the naming of its axis. -/
def enters (l : Link) (a : Fin 4) (s : State) : State × ReplyData :=
  match s.manualRefusal l a with
  | some code => deny s code
  | none =>
    match s.axes[a].state with
    | .manual => done s []
    | .idle => done (s.startSession a) []
    | _ => deny s .busy

theorem exec_manualEnter {l : Link} {tag : Byte} {a : Fin 4} {s : State}
    (fitted : s.settings.axes[a].fitted = true) :
    exec (.manualEnter l tag a) s = runRequest (.manualEnter l tag a) l tag s (enters l a) := by
  change execManualEnter l tag a s = _
  have named : (s.openRequest l (.manualEnter l tag a)).fittedAxis? a = some a :=
    fittedAxis?_of_fitted fitted
  unfold execManualEnter runRequest
  dsimp only
  rw [named]
  rfl

section
variable {u : State} {l : Link} {a : Fin 4}

theorem enters_refused {code : RefusalCode} (refuses : u.manualRefusal l a = some code) :
    enters l a u = deny u code := by
  unfold enters
  rw [refuses]

theorem manualRefusal_level (operate : u.station.level.get l = .operate) :
    u.manualRefusal l a = some .level :=
  if_pos (by rw [atService_of_operate operate]; rfl)

section
variable (service : u.station.level.get l = .service)
include service

theorem manualRefusal_authority (other : u.holder a ≠ some l) :
    u.manualRefusal l a = some .noAuthority := by
  unfold State.manualRefusal
  rw [atService_of_service service, if_neg nofun, show u.holds l a = false from decide_eq_false other]
  rfl

variable (holder : u.holder a = some l)
include holder

theorem manualRefusal_held (held : u.station.held = true) : u.manualRefusal l a = some .held := by
  unfold State.manualRefusal
  rw [atService_of_service service, holds_iff.2 holder, held]
  rfl

variable (free : u.station.held = false)
include free

theorem manualRefusal_stopped (stop : u.alarms.stop = true) :
    u.manualRefusal l a = some .pumpStopped := by
  unfold State.manualRefusal
  rw [atService_of_service service, holds_iff.2 holder, free, stop]
  rfl

variable (released : u.alarms.stop = false)
include released

theorem manualRefusal_eq : u.manualRefusal l a =
    if u.axes[a].state = .tripped then some .tripped else none := by
  unfold State.manualRefusal
  rw [atService_of_service service, holds_iff.2 holder, free, released]
  rfl

theorem enters_again (manual : u.axes[a].state = .manual) : enters l a u = done u [] := by
  unfold enters
  rw [manualRefusal_eq service holder free released, if_neg (by rw [manual]; exact nofun), manual]

theorem enters_busy (busy : u.axes[a].state = .warning ∨ u.axes[a].state = .moving ∨
    u.axes[a].state = .settling ∨ u.axes[a].state = .stopping ∨ u.axes[a].state = .jogging) :
    enters l a u = deny u .busy := by
  unfold enters
  rw [manualRefusal_eq service holder free released]
  rcases busy with state | state | state | state | state <;> rw [state, if_neg nofun]

theorem enters_starts (idle : u.axes[a].state = .idle) :
    enters l a u = (axisGoes ((u.leaveIdle a).withAxis a (commanded u.axes[a] 0)) a
      (inManual u.axes[a]) none, .done []) := by
  unfold enters
  rw [manualRefusal_eq service holder free released, if_neg (by rw [idle]; exact nofun), idle]
  exact congrArg (done · []) (startSession_eq u a)

end

end

theorem says_leaveIdle_withAxis (s : State) (a : Fin 4) (x : AxisRecord)
    (rs : List (Option Link × ReportBody)) : ((s.leaveIdle a).withAxis a x).says rs =
      { (s.says rs).withAxis a x with handed := s.handed.filter (fun n => !idleNotice a n) } := by
  rw [says_eq, says_eq]
  rfl

theorem runRequest_enters {s : State} {l : Link} {tag : Byte} {i : Instr} {a : Fin 4}
    {f : State → State × ReplyData} {data : ReplyData} (running : s.power = .running)
    {x y : AxisRecord} (state : x.state = s.axes[a].state) (c : x.c = y.c)
    (h : f (s.openRequest l i) =
      (axisGoes (((s.openRequest l i).leaveIdle a).withAxis a x) a y none, data)) :
    runRequest i l tag s f = .next
      { (s.answered l tag i [toBoth (.axisState a s.axes[a].state y.state none)] data).withAxis a y with
        handed := s.handed.filter (fun n => !idleNotice a n) ++
          axisNotices a s.axes[a].state y.state } := by
  have record : (((s.openRequest l i).leaveIdle a).withAxis a x).axes[a] = x := withAxis_axes_self _ a x
  have set : (s.axes.set a x).set a y = s.axes.set a y := Vector.set_set _ _
  have axes : (((s.openRequest l i).leaveIdle a).withAxis a x).axes.set a y = s.axes.set a y := set
  rw [runRequest_of_running running, h]
  unfold axisGoes
  rw [record, state, says_leaveIdle_withAxis, axes]
  unfold State.withAxis
  dsimp only
  rw [← c, answered_axes]
  rfl

/-- A request within a session, past the naming of its axis. -/
def inSession (l : Link) (a : Fin 4) (f : State → State × ReplyData) (s : State) : State × ReplyData :=
  if !s.atService l then deny s .level
  else if !s.holds l a then deny s .noAuthority
  else if s.axes[a].state ≠ .manual then deny s .state
  else f s

/-- MANUAL SET within a session (R39). -/
def sets (a : Fin 4) (value : ℤ) (s : State) : State × ReplyData :=
  let dMax : ℤ := s.settings.axes[a].dMax
  let v := clampInt (-dMax) dMax value
  done (s.modAxis a fun x => { x with staged := v }) (beInt16 v)

/-- MANUAL APPLY within a session (R39). -/
def applies (a : Fin 4) (s : State) : State × ReplyData :=
  let v := s.appliedValue a
  done ((s.modAxis a fun x => { x with refresh := some Config.refreshWindow }).setC a v) (beInt16 v)

/-- MANUAL LEAVE within a session (R40). -/
def quits (a : Fin 4) (s : State) : State × ReplyData := done (s.endSession a .stopped) []

theorem inSession_eq {s : State} {l : Link} {a : Fin 4} {f : State → Fin 4 → State × ReplyData}
    (fitted : s.settings.axes[a].fitted = true) :
    s.inSession l a (f s) = inSession l a (f · a) s := by
  unfold State.inSession
  rw [fittedAxis?_of_fitted fitted]
  rfl

theorem runRequest_inSession {s : State} {l : Link} {tag : Byte} {i : Instr} {a : Fin 4}
    {f : State → Fin 4 → State × ReplyData} (fitted : s.settings.axes[a].fitted = true) :
    runRequest i l tag s (fun u => u.inSession l a (f u)) =
      runRequest i l tag s (inSession l a (f · a)) := by
  have same : (s.openRequest l i).inSession l a (f (s.openRequest l i)) =
      inSession l a (f · a) (s.openRequest l i) := inSession_eq (s := s.openRequest l i) fitted
  unfold runRequest
  dsimp only
  rw [same]

section
variable {l : Link} {tag : Byte} {a : Fin 4} {s : State} (fitted : s.settings.axes[a].fitted = true)
include fitted

theorem exec_manualSet (value : ℤ) : exec (.manualSet l tag a value) s =
    runRequest (.manualSet l tag a value) l tag s (inSession l a (sets a value)) :=
  runRequest_inSession (f := fun u b => sets b value u) fitted

theorem exec_manualApply : exec (.manualApply l tag a) s =
    runRequest (.manualApply l tag a) l tag s (inSession l a (applies a)) :=
  runRequest_inSession (f := fun u b => applies b u) fitted

theorem exec_manualLeave : exec (.manualLeave l tag a) s =
    runRequest (.manualLeave l tag a) l tag s (inSession l a (quits a)) :=
  runRequest_inSession (f := fun u b => quits b u) fitted

end

section
variable {u : State} {l : Link} {a : Fin 4} {f : State → State × ReplyData}

theorem inSession_level (operate : u.station.level.get l = .operate) :
    inSession l a f u = deny u .level :=
  if_pos (by rw [atService_of_operate operate]; rfl)

theorem inSession_authority (service : u.station.level.get l = .service) (other : u.holder a ≠ some l) :
    inSession l a f u = deny u .noAuthority := by
  unfold inSession
  rw [atService_of_service service, if_neg nofun, show u.holds l a = false from decide_eq_false other]
  rfl

theorem inSession_state (service : u.station.level.get l = .service) (holder : u.holder a = some l)
    (other : u.axes[a].state ≠ .manual) : inSession l a f u = deny u .state := by
  unfold inSession
  rw [atService_of_service service, holds_iff.2 holder, if_neg nofun, if_neg nofun]
  exact if_pos other

theorem inSession_acts (service : u.station.level.get l = .service) (holder : u.holder a = some l)
    (manual : u.axes[a].state = .manual) : inSession l a f u = f u := by
  unfold inSession
  rw [atService_of_service service, holds_iff.2 holder, if_neg nofun, if_neg nofun]
  exact if_neg (not_not.2 manual)

theorem appliedValue_eq (u : State) (a : Fin 4) : u.appliedValue a =
    if (0 < u.axes[a].staged ∧ u.inputs.levels.limHi[a] = true) ∨
      (u.axes[a].staged < 0 ∧ u.inputs.levels.limLo[a] = true) then 0 else u.axes[a].staged := by
  unfold State.appliedValue sideOf
  by_cases up : 0 < u.axes[a].staged
  · have down : ¬u.axes[a].staged < 0 := by omega
    rw [if_pos up]
    refine if_congr ?_ rfl rfl
    exact ⟨fun met => .inl ⟨up, met⟩, fun met => met.elim (·.2) fun h => absurd h.1 down⟩
  rw [if_neg up]
  by_cases down : u.axes[a].staged < 0
  · rw [if_pos down]
    refine if_congr ?_ rfl rfl
    exact ⟨fun met => .inr ⟨down, met⟩, fun met => met.elim (fun h => absurd h.1 up) (·.2)⟩
  · rw [if_neg down]
    exact (if_neg fun met => met.elim (fun h => up h.1) fun h => down h.1).symm

/-- MANUAL_REFRESH_EXPIRY, its notice taken. -/
def windowExpires (a : Fin 4) (s : State) : State :=
  if s.axes[a].refresh ≠ none ∧ s.axes[a].state = .manual then
    (s.modAxis a fun x => { x with refresh := none }).setC a 0
  else s

end

/-- Settles O22. -/
theorem manualSessionDrivesByHand : Obligations.ManualSessionDrivesByHand := by
  refine ⟨?_, ?_, ?_⟩
  · intro l tag a s running fitted i x refuses
    have enter := exec_manualEnter (l := l) (tag := tag) fitted
    have refused {code : RefusalCode} (h : (s.openRequest l i).manualRefusal l a = some code) :
        refuses code := enter.trans (runRequest_answers running (enters_refused h))
    refine ⟨fun operate => refused (manualRefusal_level (u := s.openRequest l i) operate),
      fun service => ⟨fun other => refused (manualRefusal_authority (u := s.openRequest l i) service other),
        fun holder held => refused (manualRefusal_held (u := s.openRequest l i) service holder held),
        fun holder free stop =>
          refused (manualRefusal_stopped (u := s.openRequest l i) service holder free stop),
        fun holder free released => ⟨fun tripped => ?_, fun manual => ?_, fun busy => ?_, fun idle => ?_⟩⟩⟩
    · exact refused ((manualRefusal_eq (u := s.openRequest l i) service holder free released).trans
        (if_pos tripped))
    · exact enter.trans (runRequest_answers running
        (enters_again (u := s.openRequest l i) service holder free released manual))
    · exact enter.trans (runRequest_answers running
        (enters_busy (u := s.openRequest l i) service holder free released busy))
    · have act := enter.trans (runRequest_enters running (x := commanded x 0) (y := inManual x) rfl rfl
        (enters_starts (u := s.openRequest l i) service holder free released idle))
      rw [idle] at act
      exact act
  · intro l tag a value s running fitted x dMax v against c each refused
    have setting := exec_manualSet (l := l) (tag := tag) fitted value
    have applying := exec_manualApply (l := l) (tag := tag) fitted
    have leaving := exec_manualLeave (l := l) (tag := tag) fitted
    have all {code : RefusalCode} (h : ∀ i f, inSession l a f (s.openRequest l i) =
        deny (s.openRequest l i) code) : each (refused code) :=
      ⟨setting.trans (runRequest_answers running (h _ _)),
        applying.trans (runRequest_answers running (h _ _)),
        leaving.trans (runRequest_answers running (h _ _))⟩
    refine ⟨fun operate => all fun i f => inSession_level (u := s.openRequest l i) operate,
      fun service other => all fun i f => inSession_authority (u := s.openRequest l i) service other,
      fun service holder other => all fun i f =>
        inSession_state (u := s.openRequest l i) service holder other,
      fun service holder manual => ⟨?_, ?_, ?_⟩⟩
    all_goals
      have acts (i : Instr) (f : State → State × ReplyData) :
          inSession l a f (s.openRequest l i) = f (s.openRequest l i) :=
        inSession_acts (u := s.openRequest l i) service holder manual
    · exact setting.trans (runRequest_modAxis running (fun x => { x with staged := v }) (acts _ _))
    · have act : applies a (s.openRequest l (.manualApply l tag a)) =
          ((s.openRequest l (.manualApply l tag a)).withAxis a (commanded { x with refresh := some 500 } c),
            .done (beInt16 c)) := by
        have value : (s.openRequest l (.manualApply l tag a)).appliedValue a = c := appliedValue_eq _ a
        unfold applies
        rw [value]
        exact congrArg (done · (beInt16 c)) (setC_modAxis _ a _ c)
      exact applying.trans (runRequest_withAxis running _ ((acts _ _).trans act))
    · have act : quits a (s.openRequest l (.manualLeave l tag a)) =
          (axisRests (s.openRequest l (.manualLeave l tag a)) a { x with staged := 0 } .idle .stopped,
            .done []) := congrArg (done · []) (endSession_eq _ a .stopped)
      have goes := leaving.trans (runRequest_axisRests running _ _ _ ((acts _ _).trans act))
      rw [restReports_staged, show ({ x with staged := 0 } : AxisRecord).state = .manual from manual] at goes
      exact goes
  · intro a s running i x
    refine ⟨fun manual runs => ?_, fun off => ?_⟩
    · have act : windowExpires a (s.taken i) = (s.taken i).withAxis a
          (commanded { x with refresh := none } 0) :=
        (if_pos ⟨ne_none_of_isSome runs, manual⟩).trans (setC_modAxis _ a _ 0)
      exact runEvent_withAxis (f := windowExpires a) running _ act
    · refine runEvent_stays (f := windowExpires a) running (if_neg ?_)
      exact fun ⟨runs, manual⟩ => off.elim (· manual) fun none' => runs none'

end Sys2Proof.Proofs
end

section
/-! SUPPORT. AXIS STOP, of one axis and of all (02, 2.5). -/

open Sys2Proof Sys2Proof.Machine

namespace Sys2Proof.Proofs

/-! ### One axis (R30) -/

/-- AXIS STOP, past the naming of its axis. -/
def stopsOne (a : Fin 4) (s : State) : State × ReplyData := done (s.stopAxis a) []

theorem exec_axisStop {l : Link} {tag : Byte} {a : Fin 4} {s : State}
    (fitted : s.settings.axes[a].fitted = true) :
    exec (.axisStop l tag a) s = runRequest (.axisStop l tag a) l tag s (stopsOne a) := by
  change execAxisStop l tag a s = _
  have one : a.val ≠ 0xFF := by omega
  have named : (s.openRequest l (.axisStop l tag a)).fittedAxis? a = some a :=
    fittedAxis?_of_fitted fitted
  unfold execAxisStop runRequest
  dsimp only
  rw [if_neg one, named]
  rfl

/-- The record that AXIS STOP leaves of an axis in MANUAL (R30). -/
def freed (x : AxisRecord) : AxisRecord := { x with staged := 0, refresh := none, c := 0, confirm := none }

section
variable {u : State} {a : Fin 4}

theorem stopAxis_manual (manual : u.axes[a].state = .manual) :
    u.stopAxis a = u.withAxis a (freed u.axes[a]) :=
  (if_pos manual).trans (setC_modAxis u a (fun x => { x with staged := 0, refresh := none }) 0)

theorem stopAxis_warning (warning : u.axes[a].state = .warning) :
    u.stopAxis a = axisRests u a u.axes[a] .idle .stopped :=
  (if_neg (by rw [warning]; exact nofun)).trans (endTravel_warning warning)

theorem stopAxis_travels (travels : u.axes[a].state.travels = true) :
    u.stopAxis a = axisStops u a u.axes[a] .stopped :=
  (if_neg (travels_apart travels).1).trans (endTravel_travels travels)

theorem stopAxis_stays (state : u.axes[a].state = .idle ∨ u.axes[a].state = .stopping ∨
    u.axes[a].state = .tripped) : u.stopAxis a = u := by
  refine (if_neg ?_).trans (endTravel_rests ?_ ?_) <;> rcases state with h | h | h <;> rw [h] <;>
    first | rfl | exact nofun

end

/-! ### All axes, each by itself (R17, R30; log entry 52) -/

/-- What an act on one axis makes of its record, its generator and its counters, what it reports and what
it hands on. -/
structure AxisEffect where
  record : AxisRecord
  generator : Generator
  counters : AxisCounters
  reports : List (Option Link × ReportBody)
  notices : List Instr

/-- `s` after an act on axis `a` has had the effect `e`. -/
def affected (s : State) (a : Fin 4) (e : AxisEffect) : State :=
  { s.says e.reports with
    axes := s.axes.set a e.record
    valves := s.valves.set a e.generator
    counters := { (s.says e.reports).counters with axes := s.counters.axes.set a e.counters }
    handed := s.handed ++ e.notices }

/-- The effect of AXIS STOP on one axis, by its own record (R30). -/
def stopEffect (fitted : Bool) (now : DeckTime) (a : Fin 4) (x : AxisRecord) (g : Generator)
    (k : AxisCounters) : AxisEffect :=
  let cuts := fitted && decide (x.state = .warning)
  let stops := fitted && x.state.travels
  let frees := fitted && decide (x.state = .manual)
  let rests := cuts || (stops && decide (x.c = 0))
  let y := if stops then x.nowStopping .stopped else x
  { record := if rests then y.atRest .idle now .stopped else if frees then freed x else y
    generator := if rests || frees then { g with command := 0 } else g
    counters := if rests && x.running then k.ended .stopped else k
    reports := if cuts then restReports a x .idle now .stopped
      else if stops then stopReports a x now .stopped else []
    notices := if cuts then axisNotices a .warning .idle else if stops then stopNotices a x else [] }

/-- The effect of AXIS STOP on axis `a` as the state stands. -/
def stopEffectOf (s : State) (a : Fin 4) : AxisEffect :=
  stopEffect s.settings.axes[a].fitted s.clock a s.axes[a] s.valves[a] s.counters.axes[a]

theorem affected_same (s : State) (a : Fin 4) :
    affected s a ⟨s.axes[a], s.valves[a], s.counters.axes[a], [], []⟩ = s := by
  have axes : s.axes.set a s.axes[a] = s.axes := Vector.set_getElem_self a.isLt
  have valves : s.valves.set a s.valves[a] = s.valves := Vector.set_getElem_self a.isLt
  have counts : s.counters.axes.set a s.counters.axes[a] = s.counters.axes :=
    Vector.set_getElem_self a.isLt
  unfold affected
  dsimp only
  rw [axes, valves, counts, List.append_nil]
  rfl

theorem withAxisAtRest_affected (s : State) (a : Fin 4) (x : AxisRecord) (into : AxisState)
    (o : MotionOutcome) (rs : List (Option Link × ReportBody)) (hs : List Instr) :
    { (s.says rs).withAxisAtRest a x into o with handed := s.handed ++ hs } =
      affected s a ⟨x.atRest into s.clock o, { s.valves[a] with command := 0 },
        if x.running then s.counters.axes[a].ended o else s.counters.axes[a], rs, hs⟩ := by
  unfold State.withAxisAtRest affected
  dsimp only
  rw [says_axes, says_valves, says_clock]
  refine eq_of_handed ?_ rfl
  dsimp only
  by_cases runs : x.running = true
  · rw [if_pos runs, if_pos runs, says_counters_axes]
  · have counts : s.counters.axes.set a s.counters.axes[a] = s.counters.axes :=
      Vector.set_getElem_self a.isLt
    rw [if_neg runs, if_neg runs, counts, ← says_counters_axes s rs]

/-- Only the record of an axis is set. -/
theorem axes_affected (s : State) (a : Fin 4) (y : AxisRecord)
    (rs : List (Option Link × ReportBody)) (hs : List Instr) :
    { s.says rs with axes := s.axes.set a y, handed := s.handed ++ hs } =
      affected s a ⟨y, s.valves[a], s.counters.axes[a], rs, hs⟩ := by
  have valves : s.valves.set a s.valves[a] = s.valves := Vector.set_getElem_self a.isLt
  have counts : s.counters.axes.set a s.counters.axes[a] = s.counters.axes :=
    Vector.set_getElem_self a.isLt
  unfold affected
  dsimp only
  rw [valves, counts, ← says_counters_axes s rs, ← says_valves s rs]

theorem stopEffectOf_unfitted {s : State} {a : Fin 4} (unfitted : s.settings.axes[a].fitted = false) :
    stopEffectOf s a = ⟨s.axes[a], s.valves[a], s.counters.axes[a], [], []⟩ := by
  unfold stopEffectOf
  rw [unfitted]
  rfl

section
variable {s : State} {a : Fin 4} (fitted : s.settings.axes[a].fitted = true)
include fitted

theorem stopEffectOf_stays (state : s.axes[a].state = .idle ∨ s.axes[a].state = .stopping ∨
    s.axes[a].state = .tripped) :
    stopEffectOf s a = ⟨s.axes[a], s.valves[a], s.counters.axes[a], [], []⟩ := by
  unfold stopEffectOf stopEffect
  rw [fitted]
  rcases state with state | state | state <;> rw [state] <;> rfl

theorem stopEffectOf_warning (warning : s.axes[a].state = .warning) :
    stopEffectOf s a = ⟨s.axes[a].atRest .idle s.clock .stopped, { s.valves[a] with command := 0 },
      if s.axes[a].running then s.counters.axes[a].ended .stopped else s.counters.axes[a],
      restReports a s.axes[a] .idle s.clock .stopped, axisNotices a s.axes[a].state .idle⟩ := by
  unfold stopEffectOf stopEffect
  rw [fitted, warning]
  rfl

theorem stopEffectOf_still (travels : s.axes[a].state.travels = true) (still : s.axes[a].c = 0) :
    stopEffectOf s a = ⟨(s.axes[a].nowStopping .stopped).atRest .idle s.clock .stopped,
      { s.valves[a] with command := 0 },
      if s.axes[a].running then s.counters.axes[a].ended .stopped else s.counters.axes[a],
      stopReports a s.axes[a] s.clock .stopped, stopNotices a s.axes[a]⟩ := by
  have other : decide (s.axes[a].state = .warning) = false :=
    decide_eq_false (travels_apart travels).2.2
  unfold stopEffectOf stopEffect
  rw [fitted, travels, decide_eq_true still, other]
  rfl

theorem stopEffectOf_moving (travels : s.axes[a].state.travels = true) (moves : s.axes[a].c ≠ 0) :
    stopEffectOf s a = ⟨s.axes[a].nowStopping .stopped, s.valves[a], s.counters.axes[a],
      stopReports a s.axes[a] s.clock .stopped, stopNotices a s.axes[a]⟩ := by
  have warning : decide (s.axes[a].state = .warning) = false :=
    decide_eq_false (travels_apart travels).2.2
  have manual : decide (s.axes[a].state = .manual) = false := decide_eq_false (travels_apart travels).1
  unfold stopEffectOf stopEffect
  rw [fitted, travels, decide_eq_false moves, warning, manual]
  rfl

theorem stopEffectOf_manual (manual : s.axes[a].state = .manual) :
    stopEffectOf s a = ⟨freed s.axes[a], { s.valves[a] with command := 0 }, s.counters.axes[a],
      [], []⟩ := by
  unfold stopEffectOf stopEffect
  rw [fitted, manual]
  rfl

end

theorem axisState_cases (x : AxisState) : (x = .idle ∨ x = .stopping ∨ x = .tripped) ∨ x = .warning ∨
    x.travels = true ∨ x = .manual := by
  cases x <;> decide

/-- AXIS STOP acts on each fitted axis by that axis alone. -/
theorem stopAxis_affected (s : State) (a : Fin 4) :
    (if s.settings.axes[a].fitted then s.stopAxis a else s) = affected s a (stopEffectOf s a) := by
  by_cases fitted : s.settings.axes[a].fitted = true
  swap
  · rw [if_neg fitted, stopEffectOf_unfitted (Bool.eq_false_iff.2 fitted), affected_same]
  rw [if_pos fitted]
  rcases axisState_cases s.axes[a].state with stays | warning | travels | manual
  · rw [stopAxis_stays stays, stopEffectOf_stays fitted stays, affected_same]
  · rw [stopAxis_warning warning, stopEffectOf_warning fitted warning, ← withAxisAtRest_affected]
    rfl
  · rw [stopAxis_travels travels]
    unfold axisStops State.withAxisStopping
    by_cases still : s.axes[a].c = 0
    · rw [stopEffectOf_still fitted travels still, if_pos still]
      exact withAxisAtRest_affected s a (s.axes[a].nowStopping .stopped) .idle .stopped _ _
    · rw [stopEffectOf_moving fitted travels still, if_neg still, ← axes_affected, says_axes]
  · have counts : s.counters.axes.set a s.counters.axes[a] = s.counters.axes :=
      Vector.set_getElem_self a.isLt
    rw [stopAxis_manual manual, stopEffectOf_manual fitted manual]
    unfold affected
    dsimp only
    rw [counts, List.append_nil]
    rfl

/-! ### The acts of all axes together -/

/-- `s` after acts on the axes `ks`, each having had the effect `e` names. -/
def allAffected (s : State) (ks : List (Fin 4)) (e : Fin 4 → AxisEffect) : State :=
  let rs := ks.flatMap fun b => (e b).reports
  { s.says rs with
    axes := Vector.ofFn fun b => if b ∈ ks then (e b).record else s.axes[b]
    valves := Vector.ofFn fun b => if b ∈ ks then (e b).generator else s.valves[b]
    counters := { (s.says rs).counters with
      axes := Vector.ofFn fun b => if b ∈ ks then (e b).counters else s.counters.axes[b] }
    handed := s.handed ++ ks.flatMap fun b => (e b).notices }

theorem ofFn_set {α : Type} {n : ℕ} (v : Vector α n) (k : Fin n) (ks : List (Fin n)) (F : Fin n → α) :
    (Vector.ofFn fun b => if b ∈ ks then F b else (v.set k (F k))[b]) =
      Vector.ofFn fun b => if b ∈ k :: ks then F b else v[b] := by
  refine congrArg Vector.ofFn (funext fun b => ?_)
  by_cases listed : b ∈ ks
  · rw [if_pos listed, if_pos (List.mem_cons_of_mem k listed)]
  by_cases first : b = k
  · subst first
    rw [if_neg listed, if_pos List.mem_cons_self, set_get_self]
  · rw [if_neg listed, if_neg fun h => (List.mem_cons.1 h).elim first listed, set_others _ _ _ _ first]

theorem says_affected (s : State) (a : Fin 4) (e : AxisEffect) (rs : List (Option Link × ReportBody)) :
    (affected s a e).says rs = { s.says (e.reports ++ rs) with
      axes := s.axes.set a e.record
      valves := s.valves.set a e.generator
      counters := { (s.says (e.reports ++ rs)).counters with
        axes := s.counters.axes.set a e.counters }
      handed := s.handed ++ e.notices } := by
  rw [says_append, says_eq, says_eq (s.says e.reports)]
  rfl

theorem allAffected_affected (s : State) (k : Fin 4) (ks : List (Fin 4)) (e : Fin 4 → AxisEffect) :
    allAffected (affected s k (e k)) ks e = allAffected s (k :: ks) e := by
  have axes := ofFn_set s.axes k ks fun b => (e b).record
  have valves := ofFn_set s.valves k ks fun b => (e b).generator
  have counts := ofFn_set s.counters.axes k ks fun b => (e b).counters
  unfold allAffected
  dsimp only
  rw [List.flatMap_cons, List.flatMap_cons, says_affected, ← axes, ← valves, ← counts,
    ← List.append_assoc]
  rfl

theorem allAffected_congr {s : State} {ks : List (Fin 4)} {e f : Fin 4 → AxisEffect}
    (same : ∀ b ∈ ks, e b = f b) : allAffected s ks e = allAffected s ks f := by
  have reports : (ks.flatMap fun b => (e b).reports) = ks.flatMap fun b => (f b).reports :=
    List.flatMap_congr fun b listed => by rw [same b listed]
  have notices : (ks.flatMap fun b => (e b).notices) = ks.flatMap fun b => (f b).notices :=
    List.flatMap_congr fun b listed => by rw [same b listed]
  have each {α : Type} (g : AxisEffect → α) (v : Vector α 4) :
      (Vector.ofFn fun b => if b ∈ ks then g (e b) else v[b]) =
        Vector.ofFn fun b => if b ∈ ks then g (f b) else v[b] := by
    refine congrArg Vector.ofFn (funext fun b => ?_)
    by_cases listed : b ∈ ks
    · rw [if_pos listed, if_pos listed, same b listed]
    · rw [if_neg listed, if_neg listed]
  unfold allAffected
  dsimp only
  rw [reports, notices, each (·.record), each (·.generator), each (·.counters)]

/-- An act on one axis leaves the effect of a stop on another as it was. -/
theorem stopEffectOf_affected {s : State} {a b : Fin 4} (other : b ≠ a) (e : AxisEffect) :
    stopEffectOf (affected s a e) b = stopEffectOf s b := by
  have settings : (affected s a e).settings = s.settings := says_settings s _
  have clock : (affected s a e).clock = s.clock := says_clock s _
  have axes : (affected s a e).axes[b] = s.axes[b] := set_others s.axes _ _ _ other
  have valves : (affected s a e).valves[b] = s.valves[b] := set_others s.valves _ _ _ other
  have counts : (affected s a e).counters.axes[b] = s.counters.axes[b] :=
    set_others s.counters.axes _ _ _ other
  unfold stopEffectOf
  rw [settings, clock, axes, valves, counts]

theorem foldl_stopAxis {ks : List (Fin 4)} (distinct : ks.Nodup) (s : State) :
    ks.foldl (fun s a => if s.settings.axes[a].fitted then s.stopAxis a else s) s =
      allAffected s ks (stopEffectOf s) := by
  induction ks generalizing s with
  | nil =>
    have self {α : Type} (v : Vector α 4) : (Vector.ofFn fun b : Fin 4 => v[b]) = v := by simp
    unfold allAffected
    simp only [List.flatMap_nil, List.not_mem_nil, if_false, self, List.append_nil]
    rfl
  | cons k ks ih =>
    obtain ⟨apart, distinct'⟩ := List.nodup_cons.1 distinct
    rw [List.foldl_cons, stopAxis_affected, ih distinct', ← allAffected_affected]
    refine allAffected_congr fun b listed => stopEffectOf_affected ?_ _
    rintro rfl
    exact apart listed

/-- AXIS STOP of all axes leaves every axis by its own record (log entry 52). -/
theorem stopAll_eq (s : State) : s.stopAll = allAffected s (List.finRange 4) (stopEffectOf s) :=
  foldl_stopAxis (List.nodup_finRange 4) s

/-- AXIS STOP of all axes. -/
def stopsAll (s : State) : State × ReplyData := done s.stopAll []

theorem exec_axisStop_all (l : Link) (tag : Byte) (s : State) :
    exec (.axisStop l tag 0xFF) s = runRequest (.axisStop l tag 0xFF) l tag s stopsAll := rfl

/-- Settles O17. -/
theorem axisStopByState : Obligations.AxisStopByState := by
  refine ⟨?_, ?_⟩
  · intro l tag a s running fitted i x
    have stop := exec_axisStop (l := l) (tag := tag) fitted
    refine ⟨fun stays => ?_, fun warning => ?_, fun travels => ?_, fun manual => ?_⟩
    · exact stop.trans (runRequest_answers running
        (congrArg (done · []) (stopAxis_stays (u := s.openRequest l i) stays)))
    · have act := stop.trans (runRequest_axisRests running x .idle .stopped
        (congrArg (done · []) (stopAxis_warning (u := s.openRequest l i) warning)))
      rw [show x.state = .warning from warning] at act
      exact act
    · exact stop.trans (runRequest_axisStops running x .stopped
        (congrArg (done · []) (stopAxis_travels (u := s.openRequest l i) travels)))
    · exact stop.trans (runRequest_withAxis running _
        (congrArg (done · []) (stopAxis_manual (u := s.openRequest l i) manual)))
  · intro l tag s running
    refine ⟨fun n one unfitted => ?_, ?_⟩
    · change execAxisStop l tag n s = _
      refine runRequest_answers running ?_
      rw [if_neg one, fittedAxis?_of_unfitted (s := s.openRequest l _) unfitted]
      rfl
    · intro all cuts stops frees rests y base
      have every : ∀ b : Fin 4, b ∈ List.finRange 4 := List.mem_finRange
      refine (exec_axisStop_all l tag s).trans ?_
      have act : stopsAll (s.openRequest l all) = (allAffected (s.openRequest l all) (List.finRange 4)
          (stopEffectOf (s.openRequest l all)), .done []) := congrArg (done · []) (stopAll_eq _)
      rw [runRequest_of_running running, act]
      unfold allAffected
      simp only [every, if_true]
      rfl

end Sys2Proof.Proofs
end

section
/-! SUPPORT. The station controller (04): authority, deck hold and service level. -/

open Sys2Proof Sys2Proof.Machine

namespace Sys2Proof.Proofs

/-! ### An act of the station controller -/

/-- `s` after the station controller has reported `rs` and left its record `st` and the notices `hs`. -/
def stationGoes (s : State) (rs : List (Option Link × ReportBody)) (st : Station) (hs : List Instr) : State :=
  { s.says rs with station := st, handed := hs }

theorem stationGoes_stationGoes (s : State) (rs qs : List (Option Link × ReportBody))
    (st st' : Station) (hs hs' : List Instr) :
    stationGoes (stationGoes s rs st hs) qs st' hs' = stationGoes s (rs ++ qs) st' hs' := by
  unfold stationGoes
  rw [says_append, says_eq, says_eq (s.says rs)]
  rfl

theorem stationGoes_self (s : State) : stationGoes s [] s.station s.handed = s := rfl

section
variable {s : State} {l : Link} {tag : Byte} {i : Instr} {rs : List (Option Link × ReportBody)}
  {st : Station} {hs : List Instr} (running : s.power = .running)
include running

theorem runEvent_stationGoes {f : State → State} (h : f (s.taken i) = stationGoes (s.taken i) rs st hs) :
    runEvent i s f = .next { s.acted i rs with station := st, handed := hs } := by
  rw [runEvent_of_running running, h]
  rfl

theorem runRequest_stationGoes {f : State → State × ReplyData} {data : ReplyData}
    (h : f (s.openRequest l i) = (stationGoes (s.openRequest l i) rs st hs, data)) :
    runRequest i l tag s f = .next { s.answered l tag i rs data with station := st, handed := hs } := by
  rw [runRequest_of_running running, h]
  rfl

end

section
variable {s : State} {l : Link} {tag : Byte} {i : Instr} {rs : List (Option Link × ReportBody)}
  {st : Station} (running : s.power = .running)
include running

theorem runEvent_stationOnly {f : State → State}
    (h : f (s.taken i) = stationGoes (s.taken i) rs st (s.taken i).handed) :
    runEvent i s f = .next { s.acted i rs with station := st } := by
  rw [runEvent_stationGoes running h, ← says_handed (s.taken i) rs]
  rfl

theorem runRequest_stationOnly {f : State → State × ReplyData} {data : ReplyData}
    (h : f (s.openRequest l i) = (stationGoes (s.openRequest l i) rs st (s.openRequest l i).handed, data)) :
    runRequest i l tag s f = .next { s.answered l tag i rs data with station := st } := by
  rw [runRequest_stationGoes running h, ← says_handed (s.openRequest l i) rs]
  rfl

end

/-- The station controller with the authority record of axis `a`. -/
def withAuthority (st : Station) (a : Fin 4) (x : Authority) : Station :=
  { st with auth := st.auth.set a x }

/-! ### Authority (R69 to R76) -/

theorem passHolder_eq (s : State) (a : Fin 4) (new : Option Link) (cause : StationCause)
    (reason : HolderReason) : s.passHolder a new cause reason =
      stationGoes s [toBoth (.stationChanged a (s.holder a) new cause)]
        (withAuthority s.station a ⟨new, none⟩) (s.handed ++ [.holderChange a reason]) := by
  unfold State.passHolder
  rw [report_eq]
  unfold stationGoes
  rw [says_eq]
  rfl

theorem answerRequest_eq (s : State) (a : Fin 4) (l : Link) (answer : StationAnswer) :
    s.answerRequest a l answer = stationGoes s [toLink l (.stationAnswer a answer)]
      (withAuthority s.station a ⟨s.holder a, none⟩) s.handed := by
  unfold State.answerRequest
  rw [reportOn_eq]
  unfold stationGoes
  rw [says_eq]
  rfl

theorem requestStation_eq (s : State) (l h : Link) (a : Fin 4) :
    s.requestStation l h a = stationGoes s [toLink h (.stationRequested a l s.clock)]
      (withAuthority s.station a ⟨s.holder a, some ⟨l, s.clock, 30000⟩⟩) s.handed := by
  unfold State.requestStation
  rw [reportOn_eq]
  unfold stationGoes
  rw [says_eq]
  rfl

section
variable {u : State} {l : Link} {a : Fin 4}

theorem priorityTake_iff : u.priorityTake l a = true ↔
    l = .localLink ∧ u.inputs.levels.localPriority = true ∧ u.station.auth[a].holder = some .bridge := by
  unfold State.priorityTake
  rw [Bool.and_eq_true, Bool.and_eq_true, decide_eq_true_iff, holds_iff, and_assoc]
  rfl

theorem takeAxis_priority (priority : u.priorityTake l a = true) :
    u.takeAxis l a = done (u.passHolder a (some l) .priority .passed) [] := if_pos priority

section
variable (plain : ¬u.priorityTake l a = true)
include plain

theorem takeAxis_none (none' : u.holder a = none) :
    u.takeAxis l a = done (u.passHolder a (some l) .granted .passed) [] := by
  unfold State.takeAxis
  rw [if_neg plain, none']

theorem takeAxis_own (own : u.holder a = some l) : u.takeAxis l a = done u [] := by
  unfold State.takeAxis
  rw [if_neg plain, own]
  exact if_pos rfl

theorem takeAxis_waits (held : u.holder a = some l.other) (waits : u.station.auth[a].request.isSome = true) :
    u.takeAxis l a = deny u .state := by
  have other : l.other ≠ l := by cases l <;> exact nofun
  unfold State.takeAxis
  rw [if_neg plain, held]
  exact (if_neg other).trans (if_pos waits)

variable (held : u.holder a = some l.other) (free : u.station.auth[a].request = none)
include held free

theorem takeAxis_busy (active : u.axes[a].state.active = true) : u.takeAxis l a = deny u .busy := by
  have other : l.other ≠ l := by cases l <;> exact nofun
  unfold State.takeAxis
  rw [if_neg plain, held, free]
  exact (if_neg other).trans ((if_neg nofun).trans (if_pos active))

theorem takeAxis_requests (rests : u.axes[a].state.active = false) :
    u.takeAxis l a = (u.requestStation l l.other a, .accepted []) := by
  have other : l.other ≠ l := by cases l <;> exact nofun
  unfold State.takeAxis
  rw [if_neg plain, held, free]
  exact (if_neg other).trans ((if_neg nofun).trans (if_neg (by rw [rests]; exact nofun)))

end

end

theorem exec_takeStation {l : Link} {tag : Byte} {a : Fin 4} {s : State}
    (fitted : s.settings.axes[a].fitted = true) :
    exec (.takeStation l tag a) s = runRequest (.takeStation l tag a) l tag s (·.takeAxis l a) := by
  change execTakeStation l tag a s = _
  have named : (s.openRequest l (.takeStation l tag a)).fittedAxis? a = some a :=
    fittedAxis?_of_fitted fitted
  unfold execTakeStation runRequest
  dsimp only
  rw [named]

/-- An answer to a pending request, past the naming of its axis (R72). -/
def answers (l : Link) (a : Fin 4) (f : AuthorityRequest → State → State × ReplyData) (s : State) :
    State × ReplyData :=
  if !s.holds l a then deny s .noAuthority
  else match s.station.auth[a].request with
    | none => deny s .notFound
    | some r => f r s

theorem runRequest_answering {s : State} {l : Link} {tag : Byte} {i : Instr} {a : Fin 4}
    {f : State → Fin 4 → AuthorityRequest → State × ReplyData}
    (fitted : s.settings.axes[a].fitted = true) :
    runRequest i l tag s (fun u => u.answering l a (f u)) =
      runRequest i l tag s (answers l a fun r u => f u a r) := by
  have same : (s.openRequest l i).answering l a (f (s.openRequest l i)) =
      answers l a (fun r u => f u a r) (s.openRequest l i) := by
    have named : (s.openRequest l i).fittedAxis? a = some a := fittedAxis?_of_fitted fitted
    unfold State.answering answers
    rw [named] <;> rfl
  unfold runRequest
  dsimp only
  rw [same]

section
variable {u : State} {l : Link} {a : Fin 4} {f : AuthorityRequest → State → State × ReplyData}

theorem answers_authority (other : u.holder a ≠ some l) : answers l a f u = deny u .noAuthority :=
  if_pos (by rw [show u.holds l a = false from decide_eq_false other]; rfl)

theorem answers_none (holder : u.holder a = some l) (none' : u.station.auth[a].request = none) :
    answers l a f u = deny u .notFound := by
  unfold answers
  rw [holds_iff.2 holder, none']
  rfl

theorem answers_some (holder : u.holder a = some l) {r : AuthorityRequest}
    (waits : u.station.auth[a].request = some r) : answers l a f u = f r u := by
  unfold answers
  rw [holds_iff.2 holder, waits]
  rfl

end

/-- YIELD STATION past its checks (R72). -/
def yields (a : Fin 4) (r : AuthorityRequest) (s : State) : State × ReplyData :=
  done (s.passHolder a (some r.requester) .yielded .passed) []

/-- REFUSE STATION past its checks (R73). -/
def refusesStation (a : Fin 4) (r : AuthorityRequest) (s : State) : State × ReplyData :=
  done (s.answerRequest a r.requester .refused) []

section
variable {s : State} {l : Link} {tag : Byte} {a : Fin 4} (fitted : s.settings.axes[a].fitted = true)
include fitted

theorem exec_yieldStation : exec (.yieldStation l tag a) s =
    runRequest (.yieldStation l tag a) l tag s (answers l a (yields a)) :=
  runRequest_answering (f := fun u b r => yields b r u) fitted

theorem exec_refuseStation : exec (.refuseStation l tag a) s =
    runRequest (.refuseStation l tag a) l tag s (answers l a (refusesStation a)) :=
  runRequest_answering (f := fun u b r => refusesStation b r u) fitted

end

/-- DEADLINE_EXPIRY, its notice taken (R74). -/
def deadlineExpires (a : Fin 4) (s : State) : State :=
  match s.station.auth[a].request with
  | none => s
  | some r => s.answerRequest a r.requester .timedOut

/-! ### The loss of a link (R75, R76) -/

/-- What the loss of link `l` hands on for one axis (R75). -/
def lossNotices (x : Authority) (a : Fin 4) (l : Link) : List Instr :=
  if x.holder = some l then [.holderChange a .linkLost] else []

theorem withAuthority_self (st : Station) (a : Fin 4) : withAuthority st a st.auth[a] = st := by
  have auth : st.auth.set a st.auth[a] = st.auth := Vector.set_getElem_self a.isLt
  unfold withAuthority
  rw [auth]

theorem lossAtAxis_eq (s : State) (l : Link) (a : Fin 4) :
    s.lossAtAxis l a = stationGoes s (s.station.auth[a].lossReports a l)
      (withAuthority s.station a (s.station.auth[a].afterLoss l))
      (s.handed ++ lossNotices s.station.auth[a] a l) := by
  have stays (x : Authority) (self : s.station.auth[a] = x) :
      stationGoes s [] (withAuthority s.station a x) (s.handed ++ []) = s := by
    rw [← self, withAuthority_self, List.append_nil]
    rfl
  unfold State.lossAtAxis Authority.lossReports Authority.afterLoss lossNotices
  change (match s.station.auth[a].holder, s.station.auth[a].request with
    | none, _ => s
    | some h, none => if h = l then s.passHolder a none .linkLost .linkLost else s
    | some h, some r =>
      if h = l then s.passHolder a (some r.requester) .lostToRequester .linkLost
      else if r.requester = l then s.answerRequest a h .requesterLost
      else s) = _
  cases auth : s.station.auth[a] with | mk holder request
  cases holder with
  | none => exact (stays _ auth).symm
  | some h =>
    have holds : s.holder a = some h := congrArg Authority.holder auth
    by_cases own : h = l
    · subst own
      cases request with
      | none => simp only [if_true, passHolder_eq, holds]
      | some r => simp only [if_true, passHolder_eq, holds]
    · cases request with
      | none =>
        simp only [own, if_false, Option.some.injEq]
        exact (stays _ auth).symm
      | some r =>
        by_cases asks : r.requester = l
        · simp only [own, asks, if_true, if_false, Option.some.injEq, answerRequest_eq, holds,
            List.append_nil]
        · simp only [own, asks, if_false, Option.some.injEq]
          exact (stays _ auth).symm

/-- `s` after the station controller has acted on the loss of link `l` at the axes `ks`. -/
def lostOver (s : State) (l : Link) (ks : List (Fin 4)) : State :=
  stationGoes s (ks.flatMap fun a => s.station.auth[a].lossReports a l)
    { s.station with auth := Vector.ofFn fun a =>
        if a ∈ ks then s.station.auth[a].afterLoss l else s.station.auth[a] }
    (s.handed ++ ks.flatMap fun a => lossNotices s.station.auth[a] a l)

theorem lostOver_lossAtAxis {k : Fin 4} {ks : List (Fin 4)} (apart : k ∉ ks) (s : State) (l : Link) :
    lostOver (s.lossAtAxis l k) l ks = lostOver s l (k :: ks) := by
  have auth : (s.lossAtAxis l k).station.auth = s.station.auth.set k (s.station.auth[k].afterLoss l) := by
    rw [lossAtAxis_eq]
    rfl
  have kept : ∀ a ∈ ks, (s.lossAtAxis l k).station.auth[a] = s.station.auth[a] := fun a listed => by
    have other : a ≠ k := by
      rintro rfl
      exact apart listed
    rw [auth]
    exact set_others _ _ _ _ other
  have reports : (ks.flatMap fun a => (s.lossAtAxis l k).station.auth[a].lossReports a l) =
      ks.flatMap fun a => s.station.auth[a].lossReports a l :=
    List.flatMap_congr fun a listed => by rw [kept a listed]
  have notices : (ks.flatMap fun a => lossNotices (s.lossAtAxis l k).station.auth[a] a l) =
      ks.flatMap fun a => lossNotices s.station.auth[a] a l :=
    List.flatMap_congr fun a listed => by rw [kept a listed]
  have records : (Vector.ofFn fun a => if a ∈ ks then (s.lossAtAxis l k).station.auth[a].afterLoss l
      else (s.lossAtAxis l k).station.auth[a]) =
      Vector.ofFn fun a => if a ∈ k :: ks then s.station.auth[a].afterLoss l else s.station.auth[a] := by
    rw [← ofFn_set s.station.auth k ks fun a => s.station.auth[a].afterLoss l]
    refine congrArg Vector.ofFn (funext fun a => ?_)
    by_cases listed : a ∈ ks
    · rw [if_pos listed, if_pos listed, kept a listed]
    · rw [if_neg listed, if_neg listed, auth]
  unfold lostOver
  rw [reports, notices, records, lossAtAxis_eq, stationGoes_stationGoes, List.flatMap_cons,
    List.flatMap_cons, ← List.append_assoc]
  rfl

theorem foldl_lossAtAxis {ks : List (Fin 4)} (distinct : ks.Nodup) (s : State) (l : Link) :
    ks.foldl (fun s a => s.lossAtAxis l a) s = lostOver s l ks := by
  induction ks generalizing s with
  | nil =>
    have self : (Vector.ofFn fun a : Fin 4 => s.station.auth[a]) = s.station.auth := by simp
    unfold lostOver
    simp only [List.flatMap_nil, List.not_mem_nil, if_false, self, List.append_nil]
    rfl
  | cons k ks ih =>
    obtain ⟨apart, distinct'⟩ := List.nodup_cons.1 distinct
    rw [List.foldl_cons, ih distinct', lostOver_lossAtAxis apart]

theorem flatMap_ifs {α β : Type} (xs : List α) (p : α → Bool) (f : α → β) :
    (xs.flatMap fun x => if p x = true then [f x] else []) = (xs.filter p).map f := by
  induction xs with
  | nil => rfl
  | cons x xs ih =>
    rw [List.flatMap_cons, ih]
    by_cases held : p x = true
    · rw [if_pos held, List.filter_cons_of_pos held]
      rfl
    · rw [if_neg held, List.filter_cons_of_neg held]
      rfl

theorem loseLink_eq (s : State) (l : Link) : s.loseLink l = s.linkGone l := by
  have notices : ((List.finRange 4).flatMap fun a => lossNotices s.station.auth[a] a l) =
      ((List.finRange 4).filter fun a => decide (s.holder a = some l)).map fun a =>
        .holderChange a .linkLost := by
    rw [← flatMap_ifs]
    refine List.flatMap_congr fun a _ => ?_
    simp only [decide_eq_true_iff]
    rfl
  have all := foldl_lossAtAxis (List.nodup_finRange 4) s l
  unfold lostOver at all
  simp only [List.mem_finRange, if_true] at all
  rw [notices] at all
  exact all

/-- Settles O25. -/
theorem authorityIsTakenAndRequestsAnswered : Obligations.AuthorityIsTakenAndRequestsAnswered := by
  refine ⟨?_, ?_, ?_⟩
  · intro l tag a s running fitted i auth priority passes refuses
    have take : exec i s = _ := exec_takeStation fitted
    have plain (no : ¬priority) : ¬(s.openRequest l i).priorityTake l a = true :=
      fun yes => no (priorityTake_iff.1 yes)
    have passing (cause : StationCause)
        (goes : (s.openRequest l i).takeAxis l a =
          done ((s.openRequest l i).passHolder a (some l) cause .passed) []) : passes cause :=
      take.trans (runRequest_stationGoes running (goes.trans (congrArg (done · []) (passHolder_eq _ _ _ _ _))))
    have notBridge {x : Option Link} (holder : auth.holder = x) (other : x ≠ some .bridge) : ¬priority :=
      fun ⟨_, _, held⟩ => other (holder.symm.trans held)
    refine ⟨fun yes => ?_, fun none' => ?_, fun own => ?_, fun held no => ⟨?_, ?_, ?_⟩, fun n unfitted => ?_⟩
    · exact passing _ (takeAxis_priority (priorityTake_iff.2 yes))
    · exact passing _ (takeAxis_none (plain (notBridge none' nofun)) none')
    · refine take.trans (runRequest_answers running (takeAxis_own (plain fun yes => ?_) own))
      obtain ⟨link, _, bridge⟩ := yes
      exact absurd (own.symm.trans bridge) (by rw [link]; exact nofun)
    · exact fun waits => take.trans (runRequest_answers running (takeAxis_waits (plain no) held waits))
    · intro free notIdle notTripped
      exact take.trans (runRequest_answers running (takeAxis_busy (plain no) held free
        ((active_iff _).2 ⟨notIdle, notTripped⟩)))
    · intro free rests
      have still : (s.openRequest l i).axes[a].state.active = false := by
        rw [show (s.openRequest l i).axes[a] = s.axes[a] from rfl]
        obtain idle | tripped := rests
        · rw [idle]
          rfl
        · rw [tripped]
          rfl
      refine take.trans (runRequest_stationGoes running
        ((takeAxis_requests (plain no) held free still).trans
          (congrArg (·, ReplyData.accepted []) ?_)))
      rw [requestStation_eq, show (s.openRequest l i).holder a = some l.other from held]
      rfl
    · change execTakeStation l tag n s = _
      refine runRequest_answers running ?_
      rw [fittedAxis?_of_unfitted (s := s.openRequest l (.takeStation l tag n)) unfitted]
      rfl
  · intro l tag a s running fitted auth yield refuse expiry refused becomes
    refine ⟨fun fitted other => ⟨?_, ?_⟩, fun fitted own free => ⟨?_, ?_⟩, fun fitted own r waits => ⟨?_, ?_⟩,
      fun r waits => ?_, fun free => ?_⟩
    · exact (exec_yieldStation fitted).trans (runRequest_answers running (answers_authority other))
    · exact (exec_refuseStation fitted).trans (runRequest_answers running (answers_authority other))
    · exact (exec_yieldStation fitted).trans (runRequest_answers running (answers_none own free))
    · exact (exec_refuseStation fitted).trans (runRequest_answers running (answers_none own free))
    · refine (exec_yieldStation fitted).trans (runRequest_stationGoes running
        ((answers_some (u := s.openRequest l yield) own waits).trans (congrArg (done · []) ?_)))
      rw [passHolder_eq, show (s.openRequest l yield).holder a = some l from own]
      rfl
    · refine (exec_refuseStation fitted).trans (runRequest_stationGoes running
        ((answers_some (u := s.openRequest l refuse) own waits).trans (congrArg (done · []) ?_)))
      rw [answerRequest_eq, show (s.openRequest l refuse).holder a = some l from own]
      rfl
    · have act : deadlineExpires a (s.taken expiry) =
          (s.taken expiry).answerRequest a r.requester .timedOut := by
        unfold deadlineExpires
        rw [show (s.taken expiry).station.auth[a].request = some r from waits]
      exact runEvent_stationGoes running (act.trans (answerRequest_eq _ _ _ _))
    · have act : deadlineExpires a (s.taken expiry) = s.taken expiry := by
        unfold deadlineExpires
        rw [show (s.taken expiry).station.auth[a].request = none from free]
      exact runEvent_stays running act
  · intro l s running i
    refine (execStationLinkLoss_eq running).trans ?_
    rw [show (fun u : State => u.loseLink l) = fun u => u.linkGone l from funext fun u => loseLink_eq u l]

/-! ### Deck hold (R77 to R79) -/

theorem reportClaims_eq (s : State) : s.reportClaims =
    stationGoes s [toBoth (.holdClaims s.station.claims s.station.hold)] s.station s.handed := by
  unfold State.reportClaims stationGoes
  rw [report_eq, says_eq]
  rfl

theorem reportEstablished_eq (s : State) : s.reportEstablished =
    stationGoes s [toBoth (.holdEstablished s.station.claims s.clock)] s.station s.handed := by
  unfold State.reportEstablished stationGoes
  rw [report_eq, says_eq]
  rfl

theorem stationGoes_reportEstablished (s : State) (rs : List (Option Link × ReportBody)) (st : Station)
    (hs : List Instr) : (stationGoes s rs st hs).reportEstablished =
      stationGoes s (rs ++ [toBoth (.holdEstablished st.claims s.clock)]) st hs := by
  have clock : (stationGoes s rs st hs).clock = s.clock := says_clock s rs
  rw [reportEstablished_eq, stationGoes_stationGoes, clock]
  rfl

/-- The state that a notice says axis `a` has entered. -/
def seenAt (a : Fin 4) : Instr → Option AxisState
  | .axisStateChangeSeen b x => if b = a then some x else none
  | _ => none

/-- The latest of each axis counts (R78). -/
theorem foldl_hear_active (ns : List Instr) (st : Station) (a : Fin 4) :
    (ns.foldl Station.hear st).active[a] =
      (ns.reverse.findSome? (seenAt a)).elim st.active[a] AxisState.active := by
  induction ns generalizing st with
  | nil => rfl
  | cons n ns ih =>
    rw [List.foldl_cons, ih, List.reverse_cons, List.findSome?_append]
    cases ns.reverse.findSome? (seenAt a) with
    | some x => rfl
    | none =>
      have heard : (st.hear n).active[a] = (seenAt a n).elim st.active[a] AxisState.active := by
        cases n with
        | axisStateChangeSeen b x =>
          by_cases same : b = a
          · subst same
            exact (set_get_self _ _ _).trans (by simp only [seenAt, if_true, Option.elim])
          · exact (set_others _ _ _ _ (Ne.symm same)).trans (by simp only [seenAt, same, if_false, Option.elim])
        | _ => rfl
      rw [Option.none_or]
      simp only [List.findSome?_cons, List.findSome?_nil, heard]
      cases seenAt a n <;> rfl

/-- The station controller with the active flags `v`, the claims `c` and the status `h`. -/
def withHold (st : Station) (v : Vector Bool 4) (c : Pair Bool) (h : HoldStatus) : Station :=
  { st with active := v, claims := c, hold := h }

theorem someActive_iff (st : Station) : st.someActive = true ↔ ∃ a : Fin 4, st.active[a] = true := by
  unfold Station.someActive
  rw [List.any_eq_true]
  constructor
  · rintro ⟨b, listed, on⟩
    obtain ⟨n, small, at'⟩ := Vector.mem_iff_getElem.1 (Vector.mem_toList_iff.1 listed)
    exact ⟨⟨n, small⟩, at'.trans on⟩
  · rintro ⟨a, on⟩
    exact ⟨st.active[a], Vector.mem_toList_iff.2 (Vector.getElem_mem _), on⟩

section
variable {u : State} {l : Link}

theorem held_iff (c : Pair Bool) (st : Station) (h : st.claims = c) : st.held = true ↔ c ≠ ⟨false, false⟩ := by
  obtain ⟨bridge, localLink⟩ := c
  unfold Station.held
  rw [h]
  cases bridge <;> cases localLink <;> decide

theorem claim_second (held : u.station.held = true) : u.claim l =
    stationGoes u [toBoth (.holdClaims (u.station.claims.set l true) u.station.hold)]
      { u.station with claims := u.station.claims.set l true } u.handed := by
  have claimed : (u.setClaims (u.station.claims.set l true)).reportClaims = _ := reportClaims_eq _
  exact (if_pos held).trans claimed

/-- The notices handed on with the first claim, those of axis states before it taken (R77; log entry 2). -/
def claimNotices (hs : List Instr) (h : HoldStatus) : List Instr :=
  (hs.filter fun n => !seenNotice n) ++
    (((List.finRange 4).map fun a => .deckHoldNotice a) ++ [.sourceChange .deckHold ⟨h.code, true⟩])

/-- `u` after the first claim and the notices before it, its status `h` not yet reported (R77). -/
def claimed (u : State) (v : Vector Bool 4) (c : Pair Bool) (h : HoldStatus) : State :=
  { u with station := withHold u.station v c h, handed := claimNotices u.handed h }

theorem hearAxes_eq (u : State) (c : Pair Bool) {v : Vector Bool 4}
    (heard : ∀ a : Fin 4, v[a] = (u.handed.reverse.findSome? (seenAt a)).elim u.station.active[a]
      AxisState.active) : (u.setClaims c).hearAxes =
    { u.takenFirst seenNotice with station := withHold u.station v c u.station.hold } := by
  have active : (u.handed.foldl Station.hear (u.setClaims c).station).active = v :=
    Vector.ext fun n small => (foldl_hear_active _ _ ⟨n, small⟩).trans (heard ⟨n, small⟩).symm
  unfold State.hearAxes
  rw [show (u.setClaims c).handed = u.handed from rfl, hear_frame, active]
  rfl

section
variable {v : Vector Bool 4} (heard : ∀ a : Fin 4, v[a] =
    (u.handed.reverse.findSome? (seenAt a)).elim u.station.active[a] AxisState.active)
  (free : ¬u.station.held = true)
include heard free

theorem claim_pending (active : ∃ a : Fin 4, v[a] = true) : u.claim l =
    (claimed u v (u.station.claims.set l true) .pending).reportClaims := by
  have some' : (withHold u.station v (u.station.claims.set l true) u.station.hold).someActive = true :=
    (someActive_iff _).2 active
  unfold State.claim
  dsimp only
  rw [if_neg free, hearAxes_eq u _ heard]
  refine (if_pos some').trans (congrArg State.reportClaims ?_)
  unfold claimed claimNotices State.setHold State.hand
  rw [← List.append_assoc]
  rfl

theorem claim_established (rest : ∀ a : Fin 4, v[a] = false) : u.claim l =
    (claimed u v (u.station.claims.set l true) .established).reportClaims.reportEstablished := by
  have none' : ¬(withHold u.station v (u.station.claims.set l true) u.station.hold).someActive = true :=
    fun some' => by
      obtain ⟨a, on⟩ := (someActive_iff _).1 some'
      exact absurd (on.symm.trans (rest a)) nofun
  unfold State.claim
  dsimp only
  rw [if_neg free, hearAxes_eq u _ heard]
  refine (if_neg none').trans (congrArg (fun x : State => x.reportClaims.reportEstablished) ?_)
  unfold claimed claimNotices State.setHold State.hand
  rw [← List.append_assoc]
  rfl

end

theorem claimed_reportClaims (u : State) (v : Vector Bool 4) (c : Pair Bool) (h : HoldStatus) :
    (claimed u v c h).reportClaims = stationGoes u [toBoth (.holdClaims c h)]
      (withHold u.station v c h) (claimNotices u.handed h) := by
  rw [reportClaims_eq]
  unfold stationGoes
  rw [says_eq, says_eq u]
  rfl

end

/-- DECK HOLD (R77). -/
def claims (l : Link) (s : State) : State × ReplyData :=
  let t := if s.station.claims.get l then s else s.claim l
  done t t.holdData

theorem exec_deckHold (l : Link) (tag : Byte) (s : State) :
    exec (.deckHold l tag) s = runRequest (.deckHold l tag) l tag s (claims l) := rfl

/-- What a reply to a claim carries. -/
def holdReply (st : Station) : ReplyData := .done [claimsByte st.claims, byte st.hold.code]

section
variable {u : State} {l : Link}

theorem claims_held (held : u.station.claims.get l = true) : claims l u = (u, holdReply u.station) := by
  unfold claims
  rw [held]
  rfl

theorem claims_goes (free : u.station.claims.get l = false) {rs : List (Option Link × ReportBody)}
    {st : Station} {hs : List Instr} (goes : u.claim l = stationGoes u rs st hs) :
    claims l u = (stationGoes u rs st hs, holdReply st) := by
  unfold claims
  rw [free, goes]
  rfl

end

/-- AXIS_STATE_CHANGE_SEEN, its notice taken (R78). -/
def seesAxis (a : Fin 4) (new : AxisState) (s : State) : State :=
  let t := { s with station := s.station.sees a new }
  if t.station.hold = .pending ∧ t.station.someActive = false then
    (t.setHold .established).reportEstablished
  else t

/-- DECK RESUME (R79). -/
def resumes (l : Link) (both : Nat) (s : State) : State × ReplyData :=
  match boolOfCode both with
  | none => deny s .badField
  | some b =>
    if b && decide (l = .localLink) then deny s .noAuthority
    else done (s.resume l b) (s.resume l b).holdData

theorem exec_deckResume (l : Link) (tag : Byte) (both : Nat) (s : State) :
    exec (.deckResume l tag both) s = runRequest (.deckResume l tag both) l tag s (resumes l both) := rfl

section
variable {u : State} {l : Link} {b : Bool} {c : Pair Bool} (becomes : resumed u.station.claims l b = c)
include becomes

theorem resume_same (same : c = u.station.claims) : u.resume l b = u :=
  if_pos (becomes.trans same)

theorem resume_some (other : c ≠ u.station.claims) (some' : c ≠ ⟨false, false⟩) : u.resume l b =
    stationGoes u [toBoth (.holdClaims c u.station.hold)] { u.station with claims := c } u.handed := by
  have held : (u.setClaims c).station.held = true := (held_iff c _ rfl).2 some'
  unfold State.resume
  dsimp only
  rw [becomes]
  refine (if_neg other).trans ?_
  rw [if_pos held]
  exact reportClaims_eq _

theorem resume_none (other : c ≠ u.station.claims) (none' : c = ⟨false, false⟩) : u.resume l b =
    stationGoes u [toBoth (.holdClaims c .none)] { u.station with claims := c, hold := .none }
      (u.handed ++ [.sourceChange .deckHold ⟨0, true⟩]) := by
  have free : ¬(u.setClaims c).station.held = true := fun held => (held_iff c _ rfl).1 held none'
  unfold State.resume
  dsimp only
  rw [becomes]
  refine (if_neg other).trans ?_
  rw [if_neg free]
  refine (reportClaims_eq ((u.setClaims c).setHold .none)).trans ?_
  unfold stationGoes
  rw [says_eq, says_eq u]
  rfl

end

/-- Settles O26. -/
theorem deckHoldIsClaimedEstablishedAndResumed : Obligations.DeckHoldIsClaimedEstablishedAndResumed := by
  refine ⟨?_, ?_, ?_⟩
  · intro l tag s running i st c last active data first
    let u := s.openRequest l i
    have heard : ∀ a : Fin 4, (Vector.ofFn active)[a] =
        (u.handed.reverse.findSome? (seenAt a)).elim u.station.active[a] AxisState.active := fun a => by
      have same : last a = u.handed.reverse.findSome? (seenAt a) := by
        refine congrArg (fun f => List.findSome? f s.handed.reverse) (funext fun n => ?_)
        cases n <;> rfl
      have at' : (Vector.ofFn active)[a] = active a := Vector.getElem_ofFn _
      rw [at', ← same]
      change (match last a with
        | some x => decide (x ≠ AxisState.idle ∧ x ≠ AxisState.tripped)
        | none => st.active[a]) = _
      cases last a with
      | none => rfl
      | some x => cases x <;> rfl
    refine ⟨fun held => ?_, fun free other => ?_, fun none' busy => ?_, fun none' rest => ?_⟩
    · exact runRequest_answers running (claims_held (u := u) held)
    · have some' : u.station.held = true := (held_iff _ u.station rfl).2 fun none' => by
        have := congrArg (Pair.get · l.other) none'
        exact absurd (other.symm.trans this) (by cases l <;> exact nofun)
      have act : claims l u = (stationGoes u [toBoth (.holdClaims c st.hold)] { st with claims := c }
          u.handed, data c st.hold) := claims_goes (u := u) free (claim_second some')
      exact runRequest_stationOnly running act
    all_goals
      have free : ¬u.station.held = true := fun held => (held_iff _ u.station rfl).1 held none'
      have notHeld : u.station.claims.get l = false := by
        rw [show u.station.claims = _ from none']
        cases l <;> rfl
    · have some' : ∃ a : Fin 4, (Vector.ofFn active)[a] = true := by
        obtain ⟨a, on⟩ := busy
        exact ⟨a, (Vector.getElem_ofFn _).trans on⟩
      have act : claims l u = (stationGoes u [toBoth (.holdClaims c .pending)]
          (withHold st (Vector.ofFn active) c .pending) (claimNotices s.handed .pending), data c .pending) :=
        claims_goes notHeld ((claim_pending heard free some').trans (claimed_reportClaims _ _ _ _))
      exact runRequest_stationGoes running act
    · have none'' : ∀ a : Fin 4, (Vector.ofFn active)[a] = false := fun a =>
        (Vector.getElem_ofFn _).trans (rest a)
      have goes : u.claim l = stationGoes u
          [toBoth (.holdClaims c .established), toBoth (.holdEstablished c s.clock)]
          (withHold st (Vector.ofFn active) c .established) (claimNotices s.handed .established) := by
        rw [claim_established heard free none'', claimed_reportClaims, stationGoes_reportEstablished]
        rfl
      have act : claims l u = (stationGoes u
          [toBoth (.holdClaims c .established), toBoth (.holdEstablished c s.clock)]
          (withHold st (Vector.ofFn active) c .established) (claimNotices s.handed .established),
          data c .established) := claims_goes notHeld goes
      exact runRequest_stationGoes running act
  · intro a new s running i active settled
    let u := s.taken i
    have rest : (withHold u.station active u.station.claims u.station.hold).someActive = false ↔
        ∀ b : Fin 4, active[b] = false := by
      rw [← Bool.not_eq_true, someActive_iff]
      exact ⟨fun h b => Bool.eq_false_iff.2 fun on => h ⟨b, on⟩, fun h ⟨b, on⟩ =>
        absurd (on.symm.trans (h b)) nofun⟩
    have seen : u.station.sees a new = withHold u.station active u.station.claims u.station.hold := by
      have same : new.active = decide (new ≠ .idle ∧ new ≠ .tripped) := by cases new <;> rfl
      unfold Station.sees
      rw [same]
      rfl
    refine ⟨fun pends => ?_, fun ⟨pends, still⟩ => ?_⟩
    · have act : seesAxis a new u = stationGoes u []
          (withHold u.station active u.station.claims u.station.hold) u.handed := by
        unfold seesAxis
        dsimp only
        rw [seen]
        exact if_neg fun ⟨pending, still⟩ => pends ⟨pending, rest.1 still⟩
      exact runEvent_stationOnly running act
    · have act : seesAxis a new u = stationGoes u [toBoth (.holdEstablished s.station.claims s.clock)]
          (withHold u.station active u.station.claims .established)
          (s.handed.erase i ++ [.sourceChange .deckHold ⟨2, true⟩]) := by
        unfold seesAxis
        dsimp only
        rw [seen]
        refine (if_pos ⟨pends, rest.2 still⟩).trans ((reportEstablished_eq _).trans ?_)
        unfold stationGoes
        rw [says_eq, says_eq u]
        rfl
      exact runEvent_stationGoes running act
  · intro l tag both s running i st c data may
    let u := s.openRequest l i
    have code : may → ∃ b, boolOfCode both = some b ∧ (b && decide (l = .localLink)) = false ∧
        resumed u.station.claims l b = c := fun mayBe => by
      obtain one | ⟨two, bridge⟩ := mayBe
      · exact ⟨false, by rw [one]; rfl, rfl, by unfold c; rw [one]; rfl⟩
      · exact ⟨true, by rw [two]; rfl, by rw [bridge]; rfl, by unfold c; rw [two]; rfl⟩
    have goes {b : Bool} {rs st' hs} (named : boolOfCode both = some b)
        (right : (b && decide (l = .localLink)) = false) (act : u.resume l b = stationGoes u rs st' hs) :
        resumes l both u = (stationGoes u rs st' hs, holdReply st') := by
      unfold resumes
      rw [named]
      dsimp only
      rw [right, act]
      rfl
    refine ⟨fun undefined => ?_, fun one local' => ?_, fun mayBe same => ?_, fun mayBe other some' => ?_,
      fun mayBe other none' => ?_⟩
    · have act : resumes l both u = deny u .badField := by
        unfold resumes
        rw [boolOfCode_undefined undefined]
      exact runRequest_answers running act
    · have act : resumes l both u = deny u .noAuthority := by
        unfold resumes
        rw [one, local']
        rfl
      exact runRequest_answers running act
    all_goals obtain ⟨b, named, right, becomes⟩ := code mayBe
    · have act := goes named right ((resume_same becomes same).trans (stationGoes_self u).symm)
      exact runRequest_answers running act
    · have act := goes named right (resume_some becomes other some')
      exact runRequest_stationOnly running act
    · have act := goes named right (resume_none becomes other none')
      exact runRequest_stationGoes running act

/-! ### Service level (R80, R81) -/

/-- The station controller with link `l` at `x`. -/
def withLevel (st : Station) (l : Link) (x : Level) : Station :=
  { st with level := st.level.set l x }

/-- The notices to the axes that link `m` holds (R81). -/
def lossesOfLevel (s : State) (m : Link) : List Instr :=
  ((List.finRange 4).filter fun a => decide (s.holder a = some m)).map fun a => .lossOfServiceLevel a m

theorem raiseLevel_eq (s : State) (l : Link) : s.raiseLevel l =
    stationGoes s [toBoth (.levelChanged l .service .entered)] (withLevel s.station l .service)
      (s.handed.filter fun n => n ≠ .serviceKeyRelease) := by
  have same : (fun n : Instr => !keyNotice n) = fun n => decide (n ≠ .serviceKeyRelease) :=
    funext fun n => by
      by_cases key : n = .serviceKeyRelease
      · subst key
        rfl
      · rw [decide_eq_true key]
        cases n with
        | serviceKeyRelease => exact absurd rfl key
        | _ => rfl
  unfold State.raiseLevel State.takenFirst
  dsimp only
  rw [same, report_eq]
  unfold stationGoes
  rw [says_eq]
  rfl

theorem fallLevel_eq (s : State) (l : Link) (cause : LevelCause) : s.fallLevel l cause =
    stationGoes s [toBoth (.levelChanged l .operate cause)] (withLevel s.station l .operate)
      (s.handed ++ lossesOfLevel s l) := by
  unfold State.fallLevel
  rw [report_eq]
  unfold stationGoes
  rw [says_eq]
  rfl

/-- SERVICE ENTER (R80). -/
def entersService (l : Link) (s : State) : State × ReplyData :=
  if s.atService l then done s []
  else if s.inputs.levels.serviceKey && !s.atService l.other then done (s.raiseLevel l) []
  else deny s .level

/-- SERVICE LEAVE (R81). -/
def leavesService (l : Link) (s : State) : State × ReplyData := done (s.dropLevel l .left) []

/-- SERVICE_KEY_RELEASE, its notice taken (R81). -/
def keyReleases (s : State) : State :=
  (s.dropLevel .bridge .keyReleased).dropLevel .localLink .keyReleased

/-- A link falls if it is at SERVICE. -/
theorem dropLevel_eq (s : State) (l : Link) (cause : LevelCause) : s.dropLevel l cause =
    stationGoes s (if s.station.level.get l = .service then [toBoth (.levelChanged l .operate cause)] else [])
      (withLevel s.station l .operate)
      (s.handed ++ if s.station.level.get l = .service then lossesOfLevel s l else []) := by
  unfold State.dropLevel
  cases level : s.station.level.get l with
  | service =>
    rw [if_pos (atService_of_service level)]
    exact fallLevel_eq s l cause
  | operate =>
    have self : withLevel s.station l .operate = s.station := by
      have pair : s.station.level.set l .operate = s.station.level := by rw [← level, pair_set_get]
      unfold withLevel
      rw [pair]
    rw [atService_of_operate level, if_neg nofun, if_neg nofun, if_neg nofun, self, List.append_nil]
    rfl

/-- Settles O27. -/
theorem serviceLevelRisesAndFalls : Obligations.ServiceLevelRisesAndFalls := by
  intro l tag s running enter leave lost at'
  have operates {u : State} {m : Link} (other : ¬u.station.level.get m = .service) :
      ¬u.atService m = true := fun yes => other (of_decide_eq_true yes)
  refine ⟨fun service => ?_, fun operate barred => ?_, fun operate key free => ?_, fun operate => ?_,
    fun service => ?_, ?_⟩
  · have act : entersService l (s.openRequest l enter) = done (s.openRequest l enter) [] :=
      if_pos (atService_of_service service)
    exact runRequest_answers running act
  · have act : entersService l (s.openRequest l enter) = deny (s.openRequest l enter) .level := by
      refine (if_neg (operates operate)).trans (if_neg fun both => ?_)
      obtain ⟨key, free⟩ := Bool.and_eq_true_iff.1 both
      obtain off | busy := barred
      · exact absurd (key.symm.trans off) nofun
      · have held : (s.openRequest l enter).atService l.other = true := atService_of_service busy
        rw [held] at free
        exact absurd free nofun
    exact runRequest_answers running act
  · have act : entersService l (s.openRequest l enter) = done ((s.openRequest l enter).raiseLevel l) [] := by
      refine (if_neg (operates operate)).trans (if_pos (Bool.and_eq_true_iff.2 ⟨key, ?_⟩))
      rw [Bool.not_eq_true']
      exact Bool.eq_false_iff.2 (operates free)
    exact runRequest_stationGoes running (act.trans (congrArg (done · []) (raiseLevel_eq _ _)))
  · have act : leavesService l (s.openRequest l leave) = done (s.openRequest l leave) [] :=
      congrArg (done · []) (if_neg (operates operate))
    exact runRequest_answers running act
  · have act : leavesService l (s.openRequest l leave) = done ((s.openRequest l leave).fallLevel l .left) [] :=
      congrArg (done · []) (if_pos (atService_of_service service))
    exact runRequest_stationGoes running (act.trans (congrArg (done · []) (fallLevel_eq _ _ _)))
  · have act : keyReleases (s.taken .serviceKeyRelease) = stationGoes (s.taken .serviceKeyRelease)
        ((if at' .bridge then [toBoth (.levelChanged .bridge .operate .keyReleased)] else []) ++
          (if at' .localLink then [toBoth (.levelChanged .localLink .operate .keyReleased)] else []))
        { s.station with level := ⟨.operate, .operate⟩ }
        (s.handed.erase .serviceKeyRelease ++ ((if at' .bridge then lost .bridge else []) ++
          (if at' .localLink then lost .localLink else []))) := by
      unfold keyReleases
      rw [dropLevel_eq, dropLevel_eq, stationGoes_stationGoes, ← List.append_assoc]
      rfl
    exact runEvent_stationGoes running act

end Sys2Proof.Proofs
end

section
/-! SUPPORT. What is not fitted: requests that name it, and the events of an unfitted axis. -/

open Sys2Proof Sys2Proof.Machine

namespace Sys2Proof.Proofs

section
variable {s : State} {l : Link} {tag : Byte} {n : ℕ} (running : s.power = .running)
include running

/-- A request that names no fitted axis (R17). -/
theorem runRequest_noAxis (unfitted : ∀ a : Fin 4, a.val = n → s.settings.axes[a].fitted = false) (i : Instr)
    {f : State → State × ReplyData} (refuses : ∀ u : State, u.fittedAxis? n = none → f u = deny u .badField) :
    runRequest i l tag s f = .next (s.answered l tag i [] (.refused .badField)) :=
  runRequest_refused running (refuses _ (fittedAxis?_of_unfitted (s := s.openRequest l i) unfitted))

/-- A request that names no fitted door (R85). -/
theorem runRequest_noDoor (unfitted : ∀ d : Fin 32, d.val = n → s.settings.doors[d].kind = .absent) (i : Instr)
    {f : State → State × ReplyData} (refuses : ∀ u : State, u.fittedDoor? n = none → f u = deny u .badField) :
    runRequest i l tag s f = .next (s.answered l tag i [] (.refused .badField)) :=
  runRequest_refused running (refuses _ (fittedDoor?_of_unfitted (s := s.openRequest l i) unfitted))

theorem unfittedAxis_refused (unfitted : ∀ a : Fin 4, a.val = n → s.settings.axes[a].fitted = false) :
    let refused := fun i => exec i s = .next (s.answered l tag i [] (.refused .badField))
    (∀ dir, refused (.axisJog l tag n dir)) ∧ refused (.tripReset l tag n) ∧
      (∀ v, refused (.axisMove l tag n v)) ∧ refused (.takeStation l tag n) ∧
      refused (.driveStatus l tag n) ∧
      refused (.manualEnter l tag n) ∧ (∀ v, refused (.manualSet l tag n v)) ∧
      refused (.manualApply l tag n) ∧ refused (.manualLeave l tag n) ∧
      refused (.yieldStation l tag n) ∧ refused (.refuseStation l tag n) ∧
      (n ≠ 0xFF → refused (.axisStop l tag n)) := by
  intro refused
  refine ⟨fun dir => ?_, ?_, fun v => ?_, ?_, ?_, ?_, fun v => ?_, ?_, ?_, ?_, ?_, fun one => ?_⟩
  · change execAxisJog l tag n dir s = _
    exact runRequest_noAxis running unfitted (.axisJog l tag n dir) fun u none' => by rw [none']
  · change execTripReset l tag n s = _
    exact runRequest_noAxis running unfitted (.tripReset l tag n) fun u none' => by rw [none']
  · change execAxisMove l tag n v s = _
    exact runRequest_noAxis running unfitted (.axisMove l tag n v) fun u none' => by rw [none']
  · change execTakeStation l tag n s = _
    exact runRequest_noAxis running unfitted (.takeStation l tag n) fun u none' => by rw [none']
  · change execDriveStatus l tag n s = _
    exact runRequest_noAxis running unfitted (.driveStatus l tag n) fun u none' => by rw [none']
  · change execManualEnter l tag n s = _
    exact runRequest_noAxis running unfitted (.manualEnter l tag n) fun u none' => by rw [none']
  · change execManualSet l tag n v s = _
    exact runRequest_noAxis running unfitted (.manualSet l tag n v) fun u none' => by
      unfold State.inSession
      rw [none']
  · change execManualApply l tag n s = _
    exact runRequest_noAxis running unfitted (.manualApply l tag n) fun u none' => by
      unfold State.inSession
      rw [none']
  · change execManualLeave l tag n s = _
    exact runRequest_noAxis running unfitted (.manualLeave l tag n) fun u none' => by
      unfold State.inSession
      rw [none']
  · change execYieldStation l tag n s = _
    exact runRequest_noAxis running unfitted (.yieldStation l tag n) fun u none' => by
      unfold State.answering
      rw [none']
  · change execRefuseStation l tag n s = _
    exact runRequest_noAxis running unfitted (.refuseStation l tag n) fun u none' => by
      unfold State.answering
      rw [none']
  · change execAxisStop l tag n s = _
    exact runRequest_noAxis running unfitted (.axisStop l tag n) fun u none' => by
      rw [if_neg one, none']

theorem unfittedDoor_refused (unfitted : ∀ d : Fin 32, d.val = n → s.settings.doors[d].kind = .absent) :
    let refused := fun i => exec i s = .next (s.answered l tag i [] (.refused .badField))
    refused (.doorHold l tag n) ∧ refused (.doorRelease l tag n) ∧
      refused (.doorIsolate l tag n) ∧ refused (.doorRestore l tag n) := by
  intro refused
  refine ⟨?_, ?_, ?_, ?_⟩
  · change execDoorHold l tag n s = _
    exact runRequest_noDoor running unfitted (.doorHold l tag n) fun u none' => by rw [none']
  · change execDoorRelease l tag n s = _
    exact runRequest_noDoor running unfitted (.doorRelease l tag n) fun u none' => by rw [none']
  · change execDoorIsolate l tag n s = _
    exact runRequest_noDoor running unfitted (.doorIsolate l tag n) fun u none' => by rw [none']
  · change execDoorRestore l tag n s = _
    exact runRequest_noDoor running unfitted (.doorRestore l tag n) fun u none' => by rw [none']

theorem unknownZone_refused (above : 8 ≤ n) :
    let refused := fun i => exec i s = .next (s.answered l tag i [] (.refused .badField))
    refused (.doorHoldZone l tag n) ∧ refused (.doorReleaseZone l tag n) := by
  have unknown : finOf? 8 n = none := finOf?_eq_none.2 above
  intro refused
  refine ⟨?_, ?_⟩
  · change execDoorHoldZone l tag n s = _
    exact runRequest_refused running (by rw [unknown])
  · change execDoorReleaseZone l tag n s = _
    exact runRequest_refused running (by rw [unknown])

end

/-- An event of an unfitted axis. -/
theorem runEvent_ifFitted_unfitted {s : State} {i : Instr} {a : Fin 4} {f : State → State}
    (running : s.power = .running) (unfitted : s.settings.axes[a].fitted = false) :
    runEvent i s (fun u => u.ifFitted a f) = .next (s.acted i []) :=
  runEvent_stays running (ifFitted_unfitted (s := s.taken i) unfitted)

/-- Settles O28. -/
theorem unfittedIsRefusedAndDoesNotAct : Obligations.UnfittedIsRefusedAndDoesNotAct := by
  refine ⟨fun l tag n s running => ⟨unfittedAxis_refused running, unfittedDoor_refused running,
    unknownZone_refused running⟩, ?_⟩
  intro a d b r l reason s running unfitted nothing check
  refine ⟨?_, ?_, ?_, ?_, ?_, ?_, ?_, ?_, ?_, ?_, ?_⟩
  · exact runEvent_ifFitted_unfitted (i := .axisUpdate a r) running unfitted
  · exact runEvent_ifFitted_unfitted (i := .disablingNotice a) running unfitted
  · exact runEvent_ifFitted_unfitted (i := .limitSwitchChange a d b) running unfitted
  · exact runEvent_ifFitted_unfitted (i := .permissiveSlotChange a d b) running unfitted
  · exact runEvent_ifFitted_unfitted (i := .stopLineChange a b) running unfitted
  · exact runEvent_ifFitted_unfitted (i := .deckHoldNotice a) running unfitted
  · exact runEvent_ifFitted_unfitted (i := .holderChange a reason) running unfitted
  · exact runEvent_ifFitted_unfitted (i := .angleValidityChange a b) running unfitted
  · exact runEvent_ifFitted_unfitted (i := .pressureValidityChange a b) running unfitted
  · exact runEvent_ifFitted_unfitted (i := .lossOfServiceLevel a l) running unfitted
  · exact runEvent_modAxis (f := (·.pressureNotice a r)) running _
      (pressureNotice_idle (u := s.taken check) fun on => absurd (on.1.symm.trans unfitted) nofun)

end Sys2Proof.Proofs
end

section
/-! SUPPORT. The valve frame (03, 3.3): its start, and the high ticks of a frame. -/

open Sys2Proof Sys2Proof.Machine

namespace Sys2Proof.Proofs

/-! ### The high ticks of a frame (R61) -/

theorem reverse6_lt (k : ℕ) : reverse6 k < 64 := by
  unfold reverse6
  omega

theorem reverse6_reverse6 {k : ℕ} (h : k < 64) : reverse6 (reverse6 k) = k := by
  have all : ∀ j < 64, reverse6 (reverse6 j) = j := by decide
  exact all k h

/-- As many sub-periods have a reversal below `r` as there are numbers below `r`: the reversal is its own
inverse. -/
theorem card_reverse6_lt {r : ℕ} (h : r < 64) :
    ((Finset.range 64).filter fun k => reverse6 k < r).card = r := by
  calc ((Finset.range 64).filter fun k => reverse6 k < r).card = (Finset.range r).card := by
        refine Finset.card_nbij' reverse6 reverse6 ?_ ?_ ?_ ?_
        · intro k hk
          simp only [Finset.coe_filter, Finset.mem_range, Set.mem_ofPred_eq] at hk
          simpa using hk.2
        · intro j hj
          have small : j < r := by simpa using hj
          have below : j < 64 := small.trans h
          simp only [Finset.coe_filter, Finset.mem_range, Set.mem_ofPred_eq]
          exact ⟨reverse6_lt j, by rwa [reverse6_reverse6 below]⟩
        · intro k hk
          simp only [Finset.coe_filter, Finset.mem_range, Set.mem_ofPred_eq] at hk
          exact reverse6_reverse6 hk.1
        · intro j hj
          have small : j < r := by simpa using hj
          exact reverse6_reverse6 (small.trans h)
    _ = r := Finset.card_range r

theorem highTicks_le {m : ℕ} (h : m < 4096) (k : ℕ) : highTicks m k ≤ 64 := by
  unfold highTicks
  split <;> omega

theorem tickHigh_iff {m k t : ℕ} (h : t < 64) : tickHigh m (64 * k + t) = true ↔ t < highTicks m k := by
  have sub : (64 * k + t) / 64 = k := by omega
  have pos : (64 * k + t) % 64 = t := by omega
  unfold tickHigh
  rw [decide_eq_true_iff, sub, pos]

theorem count_below (h n : ℕ) (le : h ≤ n) : Nat.count (fun t => t < h) n = h := by
  rw [Nat.count_eq_card_filter_range]
  have same : (Finset.range n).filter (fun t => t < h) = Finset.range h := by
    ext t
    simp only [Finset.mem_filter, Finset.mem_range]
    omega
  rw [same, Finset.card_range]

/-- The high ticks of a sub-period. -/
theorem count_subPeriod {m : ℕ} (h : m < 4096) (k : ℕ) :
    Nat.count (fun t => tickHigh m (64 * k + t) = true) 64 = highTicks m k := by
  rw [← count_below (highTicks m k) 64 (highTicks_le h k)]
  refine le_antisymm (Nat.count_mono_left fun t small high => ?_) (Nat.count_mono_left fun t small high => ?_)
  · exact (tickHigh_iff small).1 high
  · exact (tickHigh_iff small).2 high

/-- The high ticks of the first `n` sub-periods. -/
theorem count_subPeriods {m : ℕ} (h : m < 4096) (n : ℕ) :
    Nat.count (fun t => tickHigh m t = true) (64 * n) = ∑ k ∈ Finset.range n, highTicks m k := by
  induction n with
  | zero => rfl
  | succ n ih => rw [Nat.mul_succ, Nat.count_add, ih, count_subPeriod h, Finset.sum_range_succ]

theorem sum_highTicks (m : ℕ) : ∑ k ∈ Finset.range 64, highTicks m k = m := by
  unfold highTicks
  rw [Finset.sum_add_distrib, ← Finset.card_filter, card_reverse6_lt (Nat.mod_lt m (by decide)),
    Finset.sum_const, Finset.card_range, smul_eq_mul]
  exact Nat.div_add_mod m 64

theorem length_high {m : ℕ} (h : m < 4096) : ((List.range 4096).filter fun t => tickHigh m t).length = m := by
  have count : Nat.count (fun t => tickHigh m t = true) (64 * 64) = m :=
    (count_subPeriods h 64).trans (sum_highTicks m)
  rw [← List.countP_eq_length_filter]
  refine Eq.trans ?_ count
  unfold Nat.count
  refine congrArg (fun p => List.countP p (List.range 4096)) (funext fun t => ?_)
  rw [Bool.decide_eq_true]

/-- The last tick of a frame is low: the last sub-period has no tick more than the coarse ones. -/
theorem tickHigh_last {m : ℕ} (h : m < 4096) : tickHigh m 4095 = false := by
  have coarse : highTicks m 63 = m / 64 := by
    unfold highTicks
    rw [show reverse6 63 = 63 from by decide, if_neg (by omega), Nat.add_zero]
  have low : ¬tickHigh m (64 * 63 + 63) = true := fun high => by
    have := (tickHigh_iff (by decide)).1 high
    omega
  exact Bool.eq_false_iff.2 low

/-! ### The start of a frame (R58, R59) -/

theorem frameStart_takes {g : Generator} (h : wantedLines g.command = g.lines ∨ g.zeroInForce = true) :
    g.frameStart = { g with
      lines := wantedLines g.command, applied := g.command.natAbs, cut := false, position := g.nextPosition } :=
  if_pos h

theorem frameStart_waits {g : Generator} (h : ¬(wantedLines g.command = g.lines ∨ g.zeroInForce = true)) :
    g.frameStart = { g with applied := 0, cut := false, position := g.nextPosition } :=
  if_neg h

theorem zeroInForce_iff {g : Generator} : g.zeroInForce = true ↔ g.applied = 0 ∨ g.cut = true := by
  unfold Generator.zeroInForce
  rw [Bool.or_eq_true, decide_eq_true_iff]

theorem frameStart_command_cut (g : Generator) : g.frameStart.command = g.command ∧ g.frameStart.cut = false := by
  by_cases takes : wantedLines g.command = g.lines ∨ g.zeroInForce = true
  · rw [frameStart_takes takes]
    exact ⟨rfl, rfl⟩
  · rw [frameStart_waits takes]
    exact ⟨rfl, rfl⟩

/-- Settles O23. -/
theorem valveFramesApplyAndSumTheCommand : Obligations.ValveFramesApplyAndSumTheCommand := by
  refine ⟨?_, ?_, fun m small => length_high small, fun m small => ⟨4095, by decide, tickHigh_last small⟩,
    fun g => ?_⟩
  · intro a s running i g wanted
    have self : (s.valves.set a g.frameStart)[a] = g.frameStart := set_get_self _ _ _
    obtain ⟨command, cut⟩ := frameStart_command_cut g
    refine ⟨{ s.acted i [] with valves := s.valves.set a g.frameStart }, ?_, ?_, ?_⟩
    · change execValveFrameStart a s = _
      exact runEvent_of_running running
    · dsimp only
      rw [self]
    · dsimp only
      rw [self]
      refine ⟨command, cut, fun same => ?_, fun other zero => ?_, fun other applied uncut => ?_⟩
      · rw [frameStart_takes (Or.inl same)]
        exact ⟨same, rfl⟩
      · rw [frameStart_takes (Or.inr (zeroInForce_iff.2 zero))]
        exact ⟨rfl, rfl⟩
      · have waits : ¬(wantedLines g.command = g.lines ∨ g.zeroInForce = true) := by
          rintro (same | zero)
          · exact other same
          · obtain none' | cut' := zeroInForce_iff.1 zero
            · exact applied none'
            · exact absurd (cut'.symm.trans uncut) nofun
        rw [frameStart_waits waits]
        exact ⟨rfl, rfl⟩
  · intro m k t below small reversal
    have same : reverse6 k = reversal := by
      unfold reverse6 reversal
      omega
    have fine : m % 64 = m - 64 * (m / 64) := by omega
    rw [tickHigh_iff small]
    unfold highTicks
    rw [same, fine]
  · unfold Generator.valveLine
    rw [Bool.and_eq_true, Bool.not_eq_true']

end Sys2Proof.Proofs
end

section
/-! SUPPORT. The loop test (06, R119): sixteen widenings reach every slot that can be reached. -/

open Sys2Proof Sys2Proof.Machine

namespace Sys2Proof.Proofs

/-! ### Sets of slots -/

theorem mem_orTwoPow (r : BitVec 16) (q p : Fin 16) :
    (r ||| BitVec.twoPow 16 q.val).getLsbD p.val = true ↔ r.getLsbD p.val = true ∨ p = q := by
  rw [BitVec.getLsbD_or, Bool.or_eq_true, BitVec.getLsbD_twoPow, Bool.and_eq_true, decide_eq_true_iff,
    decide_eq_true_iff, and_iff_right q.isLt]
  exact or_congr Iff.rfl ⟨fun same => Fin.ext same.symm, fun same => congrArg Fin.val same.symm⟩

/-- The slots an entry leads to: through its term's source, an output line, to that line's source. -/
def entryLeads (x : Settings) (e : PermEntry) (q : Fin 16) : Prop :=
  ∃ k : Fin 8, x.terms[e.term].source = some (.outputLine k) ∧ x.outputs[k].source = .permissive q

/-- What a fold with a step that adds the slots of each entry holds. -/
theorem mem_foldl {α : Type} {f : BitVec 16 → α → BitVec 16} {P : α → Fin 16 → Prop}
    (step : ∀ r e p, (f r e).getLsbD p.val = true ↔ r.getLsbD p.val = true ∨ P e p) (es : List α)
    (r : BitVec 16) (p : Fin 16) :
    (es.foldl f r).getLsbD p.val = true ↔ r.getLsbD p.val = true ∨ ∃ e ∈ es, P e p := by
  induction es generalizing r with
  | nil => simp
  | cons e es ih =>
    rw [List.foldl_cons, ih, step, or_assoc]
    simp

theorem mem_leadsTo (x : Settings) (p q : Fin 16) :
    (leadsTo x p).getLsbD q.val = true ↔ leads x p q := by
  unfold leadsTo
  rw [mem_foldl (P := entryLeads x)]
  · constructor
    · rintro (none' | ⟨e, listed, k, term, line⟩)
      · simp at none'
      · exact ⟨k, ⟨e, listed, term⟩, line⟩
    · rintro ⟨k, ⟨e, listed, term⟩, line⟩
      exact Or.inr ⟨e, listed, k, term, line⟩
  · intro r e q
    unfold entryLeads
    cases term : x.terms[e.term].source with
    | none => simp
    | some src =>
      cases src with
      | outputLine k =>
        cases line : x.outputs[k].source with
        | permissive p =>
          dsimp only
          rw [line]
          dsimp only
          rw [mem_orTwoPow]
          refine or_congr Iff.rfl ⟨?_, ?_⟩
          · rintro rfl
            exact ⟨k, rfl, line⟩
          · rintro ⟨j, same, lead⟩
            cases same
            exact (OutSource.permissive.inj (lead.symm.trans line))
        | _ =>
          dsimp only
          rw [line]
          refine ⟨Or.inl, fun h => h.resolve_right ?_⟩
          rintro ⟨j, same, lead⟩
          cases same
          exact absurd (lead.symm.trans line) nofun
      | _ => simp

theorem mem_widen (v : Vector (BitVec 16) 16) (r : BitVec 16) (q : Fin 16) :
    (widen v r).getLsbD q.val = true ↔
      r.getLsbD q.val = true ∨ ∃ p : Fin 16, r.getLsbD p.val = true ∧ v[p].getLsbD q.val = true := by
  unfold widen
  rw [mem_foldl (P := fun p q => r.getLsbD p.val = true ∧ v[p].getLsbD q.val = true)]
  · simp
  · intro acc p q
    split
    · rename_i on
      rw [BitVec.getLsbD_or, Bool.or_eq_true]
      exact or_congr Iff.rfl (and_iff_right on).symm
    · rename_i off
      exact ⟨Or.inl, fun h => h.resolve_right fun both => off both.1⟩

/-! ### Sixteen steps are enough -/

/-- The slots of a set. -/
def slotsOf (r : BitVec 16) : Finset (Fin 16) := Finset.univ.filter fun p => r.getLsbD p.val = true

theorem mem_slotsOf {r : BitVec 16} {p : Fin 16} : p ∈ slotsOf r ↔ r.getLsbD p.val = true := by
  simp [slotsOf]

theorem slotsOf_injective {r q : BitVec 16} (same : slotsOf r = slotsOf q) : r = q := by
  refine BitVec.eq_of_getLsbD_eq fun n small => ?_
  have iff : r.getLsbD n = true ↔ q.getLsbD n = true := by
    have := Finset.ext_iff.1 same ⟨n, small⟩
    rwa [mem_slotsOf, mem_slotsOf] at this
  exact Bool.eq_iff_iff.2 iff

theorem slotsOf_subset_widen (v : Vector (BitVec 16) 16) (r : BitVec 16) : slotsOf r ⊆ slotsOf (widen v r) :=
  fun p listed => mem_slotsOf.2 ((mem_widen v r p).2 (Or.inl (mem_slotsOf.1 listed)))

/-- A widening that is not the last adds a slot. -/
theorem widen_grows (v : Vector (BitVec 16) 16) (r : BitVec 16) (n : ℕ) :
    Nat.repeat (widen v) (n + 1) r = Nat.repeat (widen v) n r ∨
      n + 1 ≤ (slotsOf (Nat.repeat (widen v) (n + 1) r)).card := by
  have adds (q : BitVec 16) : widen v q = q ∨ (slotsOf q).card < (slotsOf (widen v q)).card := by
    rcases (slotsOf_subset_widen v q).eq_or_ssubset with same | more
    · exact Or.inl (slotsOf_injective same).symm
    · exact Or.inr (Finset.card_lt_card more)
  induction n with
  | zero => exact (adds r).imp_right fun more => Nat.lt_of_le_of_lt (Nat.zero_le _) more
  | succ n ih =>
    rcases ih with same | many
    · exact Or.inl (congrArg (widen v) same)
    · exact (adds (Nat.repeat (widen v) (n + 1) r)).imp_right fun more => Nat.lt_of_le_of_lt many more

theorem widen_sixteen (v : Vector (BitVec 16) 16) (r : BitVec 16) :
    widen v (Nat.repeat (widen v) 16 r) = Nat.repeat (widen v) 16 r := by
  rcases widen_grows v r 16 with same | many
  · exact same
  · have few : (slotsOf (Nat.repeat (widen v) (16 + 1) r)).card ≤ 16 :=
      (Finset.card_le_univ _).trans (by simp)
    omega

/-! ### What is reached -/

section
variable (x : Settings)

theorem mem_widen_leads (r : BitVec 16) (q : Fin 16) : (widen (Vector.ofFn (leadsTo x)) r).getLsbD q.val = true ↔
    r.getLsbD q.val = true ∨ ∃ p : Fin 16, r.getLsbD p.val = true ∧ leads x p q := by
  rw [mem_widen]
  refine or_congr Iff.rfl (exists_congr fun p => and_congr Iff.rfl ?_)
  rw [← mem_leadsTo]
  simp

/-- What any number of widenings of the slots `p` leads to holds can be reached from `p`. -/
theorem reached_of_mem (p : Fin 16) (n : ℕ) {q : Fin 16}
    (h : (Nat.repeat (widen (Vector.ofFn (leadsTo x))) n (leadsTo x p)).getLsbD q.val = true) :
    Relation.TransGen (leads x) p q := by
  induction n generalizing q with
  | zero => exact Relation.TransGen.single ((mem_leadsTo x p q).1 h)
  | succ n ih =>
    rcases (mem_widen_leads x _ q).1 h with before | ⟨m, before, last⟩
    · exact ih before
    · exact Relation.TransGen.tail (ih before) last

theorem mem_repeat_of_mem (v : Vector (BitVec 16) 16) (r : BitVec 16) (n : ℕ) {q : Fin 16}
    (h : r.getLsbD q.val = true) : (Nat.repeat (widen v) n r).getLsbD q.val = true := by
  induction n with
  | zero => exact h
  | succ n ih => exact (mem_widen v _ q).2 (Or.inl ih)

theorem mem_of_reached {p q : Fin 16} (h : Relation.TransGen (leads x) p q) :
    (Nat.repeat (widen (Vector.ofFn (leadsTo x))) 16 (leadsTo x p)).getLsbD q.val = true := by
  induction h with
  | single first => exact mem_repeat_of_mem _ _ _ ((mem_leadsTo x p _).2 first)
  | tail _ last ih =>
    rw [← widen_sixteen]
    exact (mem_widen_leads x _ _).2 (Or.inr ⟨_, ih, last⟩)

end

/-- Settles O37. -/
theorem loopTestFindsEveryLoop : Obligations.LoopTestFindsEveryLoop := by
  intro x
  unfold looped
  rw [List.any_eq_true]
  constructor
  · rintro ⟨p, _, back⟩
    simp only [Fin.getElem_fin, Vector.getElem_ofFn] at back
    exact ⟨p, reached_of_mem x p 16 back⟩
  · rintro ⟨p, back⟩
    refine ⟨p, List.mem_finRange p, ?_⟩
    simp only [Fin.getElem_fin, Vector.getElem_ofFn]
    exact mem_of_reached x back

end Sys2Proof.Proofs
end

section
/-! SUPPORT. The permissive evaluator (06): source changes and the writes of its tables. -/

open Sys2Proof Sys2Proof.Machine

namespace Sys2Proof.Proofs

/-! ### An act of the evaluator -/

/-- `s` after the evaluator has reported `rs` and left its record `ev` and the notices `hs`. -/
def evaluatorGoes (s : State) (rs : List (Option Link × ReportBody)) (ev : Evaluator) (hs : List Instr) :
    State :=
  { s.says rs with evaluator := ev, handed := hs }

theorem evaluatorGoes_self (s : State) : evaluatorGoes s [] s.evaluator s.handed = s := rfl

theorem evaluatorGoes_evaluatorGoes (s : State) (rs qs : List (Option Link × ReportBody))
    (ev ev' : Evaluator) (hs hs' : List Instr) :
    evaluatorGoes (evaluatorGoes s rs ev hs) qs ev' hs' = evaluatorGoes s (rs ++ qs) ev' hs' := by
  unfold evaluatorGoes
  rw [says_append, says_eq, says_eq (s.says rs)]
  rfl

theorem runEvent_evaluatorGoes {s : State} {i : Instr} {rs : List (Option Link × ReportBody)}
    {ev : Evaluator} {hs : List Instr} {f : State → State} (running : s.power = .running)
    (h : f (s.taken i) = evaluatorGoes (s.taken i) rs ev hs) :
    runEvent i s f = .next { s.acted i rs with evaluator := ev, handed := hs } := by
  rw [runEvent_of_running running, h]
  rfl

/-- `s` with the settings `x` written and the evaluator's act on them. -/
def writtenGoes (s : State) (x : Settings) (rs : List (Option Link × ReportBody)) (ev : Evaluator)
    (hs : List Instr) : State :=
  { s.says rs with
    settings := x, store := { s.store with unstored := true }, evaluator := ev, handed := hs }

theorem evaluatorGoes_written (s : State) (x : Settings) (rs : List (Option Link × ReportBody))
    (ev : Evaluator) (hs : List Instr) : evaluatorGoes (s.written x) rs ev hs = writtenGoes s x rs ev hs := by
  unfold evaluatorGoes writtenGoes
  rw [says_eq, says_eq s]
  rfl

theorem runRequest_writtenGoes {s : State} {l : Link} {tag : Byte} {i : Instr} {x : Settings}
    {rs : List (Option Link × ReportBody)} {ev : Evaluator} {hs : List Instr}
    {f : State → State × ReplyData} {data : ReplyData} (running : s.power = .running)
    (h : f (s.openRequest l i) = (writtenGoes (s.openRequest l i) x rs ev hs, data)) :
    runRequest i l tag s f = .next { s.answered l tag i rs data with
      settings := x, store := { s.store with unstored := true }, evaluator := ev, handed := hs } := by
  rw [runRequest_of_running running, h]
  rfl

/-! ### Slots -/

theorem slotResult_eq (es : List PermEntry) (values : Vector Bool 64) :
    slotResult es values = resultOf es values := by
  refine Bool.eq_iff_iff.2 ?_
  unfold slotResult resultOf contributes
  simp

/-- What one changed slot reports (R116). -/
def slotReport (after : Vector Slot 16) (src : Option Source) (p : Fin 16) : Option Link × ReportBody :=
  toBoth (.permissiveChanged p after[p].result src)

theorem slotNotices_eq (p : Fin 16) (r : Bool) : slotNotices p r = slotTold p r := by
  unfold slotNotices slotTold slotAxis slotDirection
  by_cases small : p.val < 8
  · simp only [small, dif_pos]
  · simp only [small, dif_neg, not_false_eq_true]

theorem announceSlot_eq (s : State) (src : Option Source) (p : Fin 16) : s.announceSlot src p =
    evaluatorGoes s [slotReport s.evaluator.slots src p] s.evaluator
      (s.handed ++ slotTold p s.evaluator.slots[p].result) := by
  unfold State.announceSlot
  dsimp only
  rw [report_eq, slotNotices_eq]
  unfold evaluatorGoes
  rw [says_eq]
  rfl

theorem foldl_announceSlot (ps : List (Fin 16)) (s : State) (src : Option Source) :
    ps.foldl (State.announceSlot · src) s =
      evaluatorGoes s (ps.map (slotReport s.evaluator.slots src)) s.evaluator
        (s.handed ++ ps.flatMap fun p => slotTold p s.evaluator.slots[p].result) := by
  induction ps generalizing s with
  | nil =>
    rw [List.foldl_nil, List.map_nil, List.flatMap_nil, List.append_nil]
    rfl
  | cons p ps ih =>
    rw [List.foldl_cons, ih, announceSlot_eq, evaluatorGoes_evaluatorGoes, List.map_cons,
      List.flatMap_cons, ← List.append_assoc]
    rfl

theorem renewed_eq (s : State) (values : Vector Bool 64) (touched : Fin 16 → Bool) :
    (Vector.ofFn fun p => if touched p then
      s.evaluator.slots[p].renew (slotResult s.settings.permissives[p] values) s.clock
      else s.evaluator.slots[p]) = s.slotsAfter s.settings values touched := by
  refine congrArg Vector.ofFn (funext fun p => ?_)
  rw [slotResult_eq]
  unfold Slot.renew
  by_cases named : touched p = true
  · by_cases same : resultOf s.settings.permissives[p] values = s.evaluator.slots[p].result
    · rw [if_pos named, if_pos same, if_neg fun both => both.2 same]
    · rw [if_pos named, if_neg same, if_pos ⟨named, same⟩]
  · rw [if_neg named, if_neg fun both => named both.1]

theorem changedSlots_eq (s : State) (after : Vector Slot 16) :
    changedSlots s.evaluator.slots after = s.slotsMoved after := by
  unfold changedSlots State.slotsMoved
  refine congrArg (fun f => List.filter f (List.finRange 16)) (funext fun p => ?_)
  cases after[p].result <;> cases s.evaluator.slots[p].result <;> rfl

/-- An evaluation of the slots, handed on and reported (R112 to R116). -/
theorem reslot_eq (s : State) (values : Vector Bool 64) (touched : Fin 16 → Bool) (src : Option Source) :
    s.reslot values touched src =
      evaluatorGoes s (s.slotReports (s.slotsAfter s.settings values touched) src)
        ⟨values, s.slotsAfter s.settings values touched⟩
        (s.handed ++ s.slotNotices (s.slotsAfter s.settings values touched)) := by
  have slots := renewed_eq s values touched
  unfold State.reslot
  dsimp only
  rw [slots, foldl_announceSlot, changedSlots_eq]
  unfold evaluatorGoes
  rw [says_eq, says_eq s]
  rfl

/-! ### Source changes (R110 to R116) -/

/-- The kind of a source that can be INVALID. -/
def sourceIsChannel : Source → Bool
  | .channel _ => true
  | _ => false

theorem termValue_eq {t : TermSettings} {src : Source} (h : t.source = some src) (v : Reading) :
    termValue t v = ((!sourceIsChannel src || v.valid) && compares t.cmp v.value t.const) := by
  unfold termValue
  rw [h]
  cases src <;> simp [sourceIsChannel]

theorem listsChanged_eq (s : State) (values : Vector Bool 64) :
    s.listsChanged values = listsMoved s.settings s.evaluator.values values := by
  refine funext fun p => congrArg (fun f => List.any s.settings.permissives[p] f) (funext fun e => ?_)
  cases s.evaluator.values[e.term] <;> cases values[e.term] <;> rfl

theorem bitSet_iff (v k : ℤ) : compares .bitSet v k = true ↔
    ∃ n, n < 16 ∧ (BitVec.ofInt 16 v).getLsbD n = true ∧ (BitVec.ofInt 16 k).getLsbD n = true := by
  have none' (x y : BitVec 16) : x &&& y = 0 ↔ ∀ n, n < 16 → ¬(x.getLsbD n = true ∧ y.getLsbD n = true) := by
    constructor
    · intro zero n _ both
      have bit := congrArg (BitVec.getLsbD · n) zero
      simp [both.1, both.2] at bit
    · intro apart
      refine BitVec.eq_of_getLsbD_eq fun n small => ?_
      have off := apart n small
      rw [BitVec.getLsbD_and]
      simpa using off
  unfold compares
  dsimp only
  rw [decide_eq_true_iff, Ne, none']
  push Not
  rfl

/-- Settles O35. -/
theorem sourceChangeReevaluates : Obligations.SourceChangeReevaluates := by
  refine ⟨?_, fun v k => ?_⟩
  · intro src v s running i old channel values slots
    let u := s.taken i
    have isChannel : sourceIsChannel src = channel := by cases src <;> rfl
    have recompared : u.recompared src v = values := by
      refine congrArg Vector.ofFn (funext fun t => ?_)
      by_cases on : s.settings.terms[t].source = some src
      · exact (if_pos on).trans (((termValue_eq on v).trans (by rw [isChannel])).trans (if_pos on).symm)
      · exact (if_neg on).trans (if_neg on).symm
    have act : u.reslot (u.recompared src v) (u.listsChanged (u.recompared src v)) (some src) =
        evaluatorGoes u (s.slotReports slots (some src)) ⟨values, slots⟩
          (s.handed.erase i ++ s.slotNotices slots) := by
      rw [recompared, listsChanged_eq, reslot_eq]
      rfl
    change execSourceChange src v s = _
    exact runEvent_evaluatorGoes running act
  · refine ⟨decide_eq_true_iff, decide_eq_true_iff, decide_eq_true_iff, decide_eq_true_iff, bitSet_iff v k, ?_⟩
    unfold compares
    simp

/-! ### Writes (R117 to R120) -/

/-- TERM WRITE past the naming of link and tag (R117). -/
def writesTerm (l : Link) (term : ℕ) (data : TermData) (s : State) : State × ReplyData :=
  if !s.atService l then deny s .level
  else match finOf? 64 term, s.termTaken data with
    | some t, some x =>
      if s.store.busy then deny s .busy
      else if s.termInUse t then deny s .busy
      else if looped { s.settings with terms := s.settings.terms.set t x } then deny s .state
      else done (s.writeTerm t x) (byte t :: x.data)
    | _, _ => deny s .badField

theorem exec_termWrite (l : Link) (tag : Byte) (term : ℕ) (data : TermData) (s : State) :
    exec (.termWrite l tag term data) s =
      runRequest (.termWrite l tag term data) l tag s (writesTerm l term data) := rfl

/-- PERMISSIVE WRITE past the naming of link and tag (R118). -/
def writesList (l : Link) (slot : ℕ) (entries : List (ℕ × ℕ)) (s : State) : State × ReplyData :=
  if !s.atService l then deny s .level
  else if 8 < entries.length then deny s .badLength
  else match finOf? 16 slot, entriesTaken entries with
    | some p, some es =>
      if s.store.busy then deny s .busy
      else if s.slotInUse p then deny s .busy
      else if looped { s.settings with permissives := s.settings.permissives.set p es } then
        deny s .state
      else
        let t := s.writeList p es
        done t [boolByte t.evaluator.slots[p].result]
    | _, _ => deny s .badField

theorem exec_permissiveWrite (l : Link) (tag : Byte) (slot : ℕ) (entries : List (ℕ × ℕ)) (s : State) :
    exec (.permissiveWrite l tag slot entries) s =
      runRequest (.permissiveWrite l tag slot entries) l tag s (writesList l slot entries) := rfl

theorem inUse_iff (x : AxisState) : x.inUse = true ↔ x ≠ .idle ∧ x ≠ .stopping ∧ x ≠ .tripped := by
  cases x <;> simp [AxisState.inUse]

theorem slotInUse_iff (s : State) (p : Fin 16) : s.slotInUse p = true ↔ s.guarded p := by
  unfold State.slotInUse slotAxis State.guarded
  by_cases small : p.val < 8
  · rw [dif_pos small]
    refine (inUse_iff _).trans ⟨fun use => ⟨⟨p.val / 2, by omega⟩, ?_, use⟩, ?_⟩
    · dsimp only
      omega
    · rintro ⟨a, pair, use⟩
      have same : a = ⟨p.val / 2, by omega⟩ := Fin.ext (by dsimp only; omega)
      rwa [same] at use
  · rw [dif_neg small]
    refine ⟨nofun, ?_⟩
    rintro ⟨a, pair, _⟩
    omega

theorem termInUse_iff (s : State) (t : Fin 64) : s.termInUse t = true ↔
    ∃ p : Fin 16, s.guarded p ∧ ∃ e ∈ s.settings.permissives[p], e.term = t := by
  unfold State.termInUse
  rw [List.any_eq_true]
  refine exists_congr fun p => ?_
  rw [Bool.and_eq_true, slotInUse_iff, List.any_eq_true]
  simp

theorem sourceExists_iff (s : State) (src : Source) : s.sourceExists src = true ↔
    (∀ a, src = .axisState a → s.settings.axes[a].fitted = true) ∧
      (∀ d, src = .doorState d → s.settings.doors[d].kind ≠ .absent) := by
  cases src <;> simp [State.sourceExists, State.doorFitted]

section
variable {s : State} {data : TermData}

theorem termTaken_none (none' : data.kind = 0) : s.termTaken data = some ⟨none, .eq, 0⟩ := if_pos none'

variable (some' : data.kind ≠ 0)
include some'

theorem termTaken_some {cmp : Comparison} {src : Source} (comparison : Comparison.ofCode data.cmp = some cmp)
    (source : Source.ofCode data.kind data.index = some src) : s.termTaken data =
      if s.sourceExists src then some ⟨some src, cmp, data.const⟩ else none := by
  unfold State.termTaken
  rw [if_neg some', comparison, source]
  rfl

theorem termTaken_undefined
    (undefined : Comparison.ofCode data.cmp = none ∨ Source.ofCode data.kind data.index = none) :
    s.termTaken data = none := by
  unfold State.termTaken
  rw [if_neg some']
  rcases undefined with comparison | source
  · rw [comparison]
    rfl
  · rw [source]
    cases Comparison.ofCode data.cmp <;> rfl

end

theorem freshValue_written (s : State) (t : Fin 64) (x : TermSettings) :
    (s.written { s.settings with terms := s.settings.terms.set t x }).freshValue t =
      match x.source with
      | none => false
      | some (.channel k) => s.channels[k].valid && compares x.cmp s.channels[k].scaled x.const
      | some src => compares x.cmp (s.sourceValue src).value x.const := by
  have term : (s.written { s.settings with terms := s.settings.terms.set t x }).settings.terms[t] = x :=
    set_get_self _ _ _
  unfold State.freshValue
  rw [term]
  dsimp only
  cases source : x.source with
  | none => rfl
  | some src => cases src <;> (unfold termValue; rw [source]; rfl)

/-- A term written (R120). -/
theorem writeTerm_eq (s : State) (t : Fin 64) (x : TermSettings) {y : Settings} {values : Vector Bool 64}
    (settings : { s.settings with terms := s.settings.terms.set t x } = y)
    (fresh : s.evaluator.values.set t ((s.written y).freshValue t) = values) :
    s.writeTerm t x = writtenGoes s y
      (s.slotReports (s.slotsAfter y values (listsMoved y s.evaluator.values values)) none)
      ⟨values, s.slotsAfter y values (listsMoved y s.evaluator.values values)⟩
      (s.handed ++ s.slotNotices (s.slotsAfter y values (listsMoved y s.evaluator.values values))) := by
  unfold State.writeTerm
  dsimp only
  rw [settings, show (s.written y).evaluator.values.set t _ = values from fresh, reslot_eq,
    evaluatorGoes_written, listsChanged_eq]
  rfl

theorem writeList_eq (s : State) (p : Fin 16) (es : List PermEntry) {y : Settings}
    (settings : { s.settings with permissives := s.settings.permissives.set p es } = y) :
    s.writeList p es = writtenGoes s y
      (s.slotReports (s.slotsAfter y s.evaluator.values fun q => decide (q = p)) none)
      ⟨s.evaluator.values, s.slotsAfter y s.evaluator.values fun q => decide (q = p)⟩
      (s.handed ++ s.slotNotices (s.slotsAfter y s.evaluator.values fun q => decide (q = p))) := by
  unfold State.writeList
  dsimp only
  rw [settings, reslot_eq, evaluatorGoes_written]
  rfl

theorem slotsAfter_result (s : State) (x : Settings) (values : Vector Bool 64) (p : Fin 16) :
    (s.slotsAfter x values fun q => decide (q = p))[p].result = resultOf x.permissives[p] values := by
  unfold State.slotsAfter
  simp only [Fin.getElem_fin, Vector.getElem_ofFn, decide_true, true_and]
  split
  · rfl
  · rename_i same
    exact (not_not.1 same).symm

theorem entriesTaken_map (es : List PermEntry) :
    entriesTaken (es.map fun e => (e.term.val, e.invert.toNat)) = some es := by
  induction es with
  | nil => rfl
  | cons e es ih =>
    rw [List.map_cons]
    unfold entriesTaken
    rw [finOf?_val, boolOfCode_toNat, ih]
    rfl

theorem entriesTaken_undefined {xs : List (ℕ × ℕ)} (h : ∃ e ∈ xs, 63 < e.1 ∨ 1 < e.2) :
    entriesTaken xs = none := by
  induction xs with
  | nil => exact absurd h (by simp)
  | cons x xs ih =>
    obtain ⟨e, listed, bad⟩ := h
    unfold entriesTaken
    rcases List.mem_cons.1 listed with rfl | later
    · rcases bad with term | invert
      · rw [finOf?_eq_none.2 term]
        rfl
      · rw [boolOfCode_eq_none invert]
        cases finOf? 64 e.1 <;> rfl
    · rw [ih ⟨e, later, bad⟩]
      cases finOf? 64 x.1 <;> cases boolOfCode x.2 <;> rfl

section
variable {u : State} {l : Link} {t : Fin 64} {data : TermData}

theorem writesTerm_level {term : ℕ} (operate : u.station.level.get l = .operate) :
    writesTerm l term data u = deny u .level := by
  unfold writesTerm
  rw [atService_of_operate operate]
  rfl

variable (service : u.station.level.get l = .service)
include service

theorem writesTerm_undefined {term : ℕ} (undefined : finOf? 64 term = none ∨ u.termTaken data = none) :
    writesTerm l term data u = deny u .badField := by
  unfold writesTerm
  rw [atService_of_service service, if_neg nofun]
  rcases undefined with term' | taken
  · rw [term']
  · rw [taken]
    cases finOf? 64 term <;> rfl

variable {x : TermSettings} (taken : u.termTaken data = some x)
include taken

theorem writesTerm_eq : writesTerm l t data u =
    if u.store.busy then deny u .busy
    else if u.termInUse t then deny u .busy
    else if looped { u.settings with terms := u.settings.terms.set t x } then deny u .state
    else done (u.writeTerm t x) (byte t :: x.data) := by
  unfold writesTerm
  rw [atService_of_service service, if_neg nofun, finOf?_val, taken]

theorem writesTerm_busy (busy : u.store.busy = true ∨ u.termInUse t = true) :
    writesTerm l t data u = deny u .busy := by
  rw [writesTerm_eq service taken]
  split
  · rfl
  · rename_i free
    exact if_pos (busy.resolve_left free)

variable (free : ¬(u.store.busy = true ∨ u.termInUse t = true))
include free

theorem writesTerm_loop (loop : looped { u.settings with terms := u.settings.terms.set t x } = true) :
    writesTerm l t data u = deny u .state := by
  obtain ⟨store, use⟩ := not_or.1 free
  rw [writesTerm_eq service taken, if_neg store, if_neg use, if_pos loop]

theorem writesTerm_done (open' : looped { u.settings with terms := u.settings.terms.set t x } = false) :
    writesTerm l t data u = done (u.writeTerm t x) (byte t :: x.data) := by
  obtain ⟨store, use⟩ := not_or.1 free
  rw [writesTerm_eq service taken, if_neg store, if_neg use, open', if_neg nofun]

end

section
variable {u : State} {l : Link} {p : Fin 16} {es : List PermEntry} {xs : List (ℕ × ℕ)}

theorem writesList_level {slot : ℕ} (operate : u.station.level.get l = .operate) :
    writesList l slot xs u = deny u .level := by
  unfold writesList
  rw [atService_of_operate operate]
  rfl

variable (service : u.station.level.get l = .service)
include service

theorem writesList_long {slot : ℕ} (long : 8 < xs.length) : writesList l slot xs u = deny u .badLength := by
  unfold writesList
  rw [atService_of_service service, if_neg nofun, if_pos long]

theorem writesList_undefined {slot : ℕ} (short : ¬8 < xs.length)
    (undefined : finOf? 16 slot = none ∨ entriesTaken xs = none) :
    writesList l slot xs u = deny u .badField := by
  unfold writesList
  rw [atService_of_service service, if_neg nofun, if_neg short]
  rcases undefined with slot' | taken
  · rw [slot']
  · rw [taken]
    cases finOf? 16 slot <;> rfl

variable (short : ¬8 < xs.length) (taken : entriesTaken xs = some es)
include short taken

theorem writesList_eq : writesList l p xs u =
    if u.store.busy then deny u .busy
    else if u.slotInUse p then deny u .busy
    else if looped { u.settings with permissives := u.settings.permissives.set p es } then deny u .state
    else done (u.writeList p es) [boolByte (u.writeList p es).evaluator.slots[p].result] := by
  unfold writesList
  rw [atService_of_service service, if_neg nofun, if_neg short, finOf?_val, taken]

theorem writesList_busy (busy : u.store.busy = true ∨ u.slotInUse p = true) :
    writesList l p xs u = deny u .busy := by
  rw [writesList_eq service short taken]
  split
  · rfl
  · rename_i free
    exact if_pos (busy.resolve_left free)

variable (free : ¬(u.store.busy = true ∨ u.slotInUse p = true))
include free

theorem writesList_loop
    (loop : looped { u.settings with permissives := u.settings.permissives.set p es } = true) :
    writesList l p xs u = deny u .state := by
  obtain ⟨store, use⟩ := not_or.1 free
  rw [writesList_eq service short taken, if_neg store, if_neg use, if_pos loop]

theorem writesList_done
    (open' : looped { u.settings with permissives := u.settings.permissives.set p es } = false) :
    writesList l p xs u =
      done (u.writeList p es) [boolByte (u.writeList p es).evaluator.slots[p].result] := by
  obtain ⟨store, use⟩ := not_or.1 free
  rw [writesList_eq service short taken, if_neg store, if_neg use, open', if_neg nofun]

end

/-- Settles O36. -/
theorem tableWritesCheckThenEvaluate : Obligations.TableWritesCheckThenEvaluate := by
  refine ⟨?_, ?_⟩
  · intro l tag t data s running i refuses busy named taken
    let u := s.openRequest l i
    have writes : exec i s = _ := exec_termWrite l tag t data s
    have busyIff : busy ↔ u.store.busy = true ∨ u.termInUse t = true :=
      or_congr Iff.rfl (termInUse_iff u t).symm
    refine ⟨fun operate => writes.trans (runRequest_refused running (writesTerm_level (u := u) operate)),
      fun service => ?_⟩
    have takes (x : TermSettings) (h : u.termTaken data = some x) : taken x := by
      unfold taken
      intro y values slots
      refine ⟨fun inUse => ?_, fun free loop => ?_, fun free open' => ?_⟩
      · exact writes.trans (runRequest_refused running
          (writesTerm_busy (u := u) service h (busyIff.1 inUse)))
      · exact writes.trans (runRequest_refused running
          (writesTerm_loop (u := u) service h (mt busyIff.2 free) loop))
      · have fresh : u.evaluator.values.set t ((u.written y).freshValue t) = values :=
          congrArg (fun b => s.evaluator.values.set t b)
            ((freshValue_written u t x).trans (by cases x.source with
              | none => rfl
              | some src => cases src <;> rfl))
        have act := (writesTerm_done (u := u) service h (mt busyIff.2 free) open').trans
          (congrArg (done · (byte t :: x.data)) (writeTerm_eq u t x (y := y) rfl fresh))
        exact writes.trans (runRequest_writtenGoes running act)
    have bad {term : ℕ} (h : finOf? 64 term = none ∨ (s.openRequest l (.termWrite l tag term data)).termTaken data = none) :
        exec (.termWrite l tag term data) s =
          .next (s.answered l tag (.termWrite l tag term data) [] (.refused .badField)) :=
      (exec_termWrite l tag term data s).trans (runRequest_refused running
        (writesTerm_undefined (u := s.openRequest l (.termWrite l tag term data)) service h))
    refine ⟨fun none' => takes _ (termTaken_none none'), fun some' cmp comparison src source => ⟨?_, ?_⟩,
      fun some' undefined => ?_, fun n above => ?_⟩
    · exact fun exists' => takes _ ((termTaken_some some' comparison source).trans
        (if_pos ((sourceExists_iff u src).2 exists')))
    · exact fun missing => bad (Or.inr ((termTaken_some some' comparison source).trans
        (if_neg (mt (sourceExists_iff u src).1 missing))))
    · exact bad (Or.inr (termTaken_undefined some' undefined))
    · exact bad (Or.inl (finOf?_eq_none.2 above))
  · intro l tag p es s running i refuses y slots
    let u := s.openRequest l i
    have writes : exec i s = _ := exec_permissiveWrite l tag p _ s
    have entries := entriesTaken_map es
    have length : (es.map fun e => (e.term.val, e.invert.toNat)).length = es.length := List.length_map _
    have free (store : s.store.inFlight = none) (use : ¬s.guarded p) :
        ¬(u.store.busy = true ∨ u.slotInUse p = true) := by
      rintro (inFlight | guarded)
      · exact absurd (inFlight.symm.trans (congrArg Option.isSome store)) nofun
      · exact use ((slotInUse_iff u p).1 guarded)
    refine ⟨fun operate => writes.trans (runRequest_refused running (writesList_level (u := u) operate)),
      fun service => ⟨fun long => ?_, fun short busy => ?_, fun short store use loop => ?_,
        fun short store use open' => ?_, fun n xs short undefined => ?_⟩⟩
    · exact writes.trans (runRequest_refused running (writesList_long (u := u) service (length ▸ long)))
    · exact writes.trans (runRequest_refused running (writesList_busy (u := u) service
        (by rw [length]; omega) entries (busy.imp_right (slotInUse_iff u p).2)))
    · exact writes.trans (runRequest_refused running (writesList_loop (u := u) service
        (by rw [length]; omega) entries (free store use) loop))
    · have written := writeList_eq u p es (y := y) rfl
      have result : (u.writeList p es).evaluator.slots[p].result = resultOf es s.evaluator.values := by
        have self : y.permissives[p] = es := set_get_self _ _ _
        rw [written, ← self]
        exact slotsAfter_result u y _ p
      have act := writesList_done (u := u) service (by rw [length]; omega) entries (free store use) open'
      rw [result, written] at act
      exact writes.trans (runRequest_writtenGoes running act)
    · refine (exec_permissiveWrite l tag n xs s).trans (runRequest_refused running
        (writesList_undefined (u := s.openRequest l (.permissiveWrite l tag n xs)) service (by omega) ?_))
      exact undefined.imp finOf?_eq_none.2 entriesTaken_undefined

end Sys2Proof.Proofs
end

section
/-! SUPPORT. The board scanner (08): frames, winners, buttons and the pattern table. -/

open Sys2Proof Sys2Proof.Machine

namespace Sys2Proof.Proofs

/-! ### Winners (R141) -/

/-- `c` does not rank before `w`. -/
def ranksNotBefore (c w : Call) : Prop :=
  c.priority ≤ w.priority ∧ (c.priority = w.priority → w.sequence ≤ c.sequence)

theorem outranks_iff (c d : Call) : outranks c d = true ↔ ¬ranksNotBefore c d := by
  unfold outranks ranksNotBefore
  simp only [Bool.or_eq_true, Bool.and_eq_true, decide_eq_true_eq]
  omega

theorem ranksNotBefore_self (c : Call) : ranksNotBefore c c := ⟨Nat.le_refl _, fun _ => Nat.le_refl _⟩

theorem ranksNotBefore_trans {c d e : Call} (h : ranksNotBefore c d) (k : ranksNotBefore d e) :
    ranksNotBefore c e := by
  unfold ranksNotBefore at *
  omega

theorem ranksNotBefore_of_outranks {c d : Call} (h : outranks c d = true) : ranksNotBefore d c := by
  have := (outranks_iff c d).1 h
  unfold ranksNotBefore at *
  omega

section
variable {b : Fin 16}

/-- What the better of a call and a winner so far is. -/
theorem betterFor_eq_some {best : Option Call} {c w : Call} (h : betterFor b best c = some w) :
    (best = some w ∨ (c = w ∧ laneIn c.lanes b = true)) ∧
      (∀ d, best = some d → ranksNotBefore d w) ∧ (laneIn c.lanes b = true → ranksNotBefore c w) := by
  unfold betterFor at h
  cases lane : laneIn c.lanes b with
  | false =>
    rw [lane] at h
    have same : best = some w := h
    refine ⟨Or.inl same, fun d so => ?_, nofun⟩
    obtain rfl : d = w := Option.some.inj (so.symm.trans same)
    exact ranksNotBefore_self d
  | true =>
    rw [lane, if_neg nofun] at h
    cases best with
    | none =>
      obtain rfl : c = w := Option.some.inj h
      exact ⟨Or.inr ⟨rfl, rfl⟩, fun d none' => absurd none' nofun, fun _ => ranksNotBefore_self c⟩
    | some d =>
      dsimp only at h
      by_cases first : outranks c d = true
      · rw [if_pos first] at h
        obtain rfl : c = w := Option.some.inj h
        refine ⟨Or.inr ⟨rfl, rfl⟩, fun e so => ?_, fun _ => ranksNotBefore_self c⟩
        obtain rfl : d = e := Option.some.inj so
        exact ranksNotBefore_of_outranks first
      · rw [if_neg first] at h
        obtain rfl : d = w := Option.some.inj h
        refine ⟨Or.inl rfl, fun e so => ?_, fun _ => not_not.1 (mt (outranks_iff c d).2 first)⟩
        obtain rfl : d = e := Option.some.inj so
        exact ranksNotBefore_self d

theorem betterFor_eq_none {best : Option Call} {c : Call} :
    betterFor b best c = none ↔ best = none ∧ laneIn c.lanes b = false := by
  unfold betterFor
  cases laneIn c.lanes b with
  | false => simp
  | true =>
    rw [if_neg nofun]
    cases best with
    | none => simp
    | some d =>
      dsimp only
      split <;> simp

theorem foldl_betterFor_eq_none (cs : List Call) (best : Option Call) :
    cs.foldl (betterFor b) best = none ↔ best = none ∧ ∀ c ∈ cs, laneIn c.lanes b = false := by
  induction cs generalizing best with
  | nil => simp
  | cons c cs ih =>
    rw [List.foldl_cons, ih, betterFor_eq_none, List.forall_mem_cons, and_assoc]

theorem foldl_betterFor_eq_some {cs : List Call} {best : Option Call} {w : Call}
    (h : cs.foldl (betterFor b) best = some w) :
    (best = some w ∨ (w ∈ cs ∧ laneIn w.lanes b = true)) ∧
      (∀ d, best = some d → ranksNotBefore d w) ∧
      ∀ c ∈ cs, laneIn c.lanes b = true → ranksNotBefore c w := by
  induction cs generalizing best with
  | nil =>
    refine ⟨Or.inl h, fun d so => ?_, by simp⟩
    obtain rfl : d = w := Option.some.inj (so.symm.trans h)
    exact ranksNotBefore_self d
  | cons c cs ih =>
    obtain ⟨from', before, later⟩ := ih h
    cases better : betterFor b best c with
    | none =>
      obtain ⟨none', off⟩ := betterFor_eq_none.1 better
      rw [better] at from'
      refine ⟨Or.inr ?_, fun d so => absurd (so.symm.trans none') nofun, ?_⟩
      · obtain ⟨listed, on⟩ := from'.resolve_left nofun
        exact ⟨List.mem_cons_of_mem c listed, on⟩
      · exact List.forall_mem_cons.2 ⟨fun on => absurd (on.symm.trans off) nofun, later⟩
    | some d =>
      obtain ⟨one, prior, own⟩ := betterFor_eq_some better
      have beats := before d better
      refine ⟨?_, fun e so => ranksNotBefore_trans (prior e so) beats,
        List.forall_mem_cons.2 ⟨fun on => ranksNotBefore_trans (own on) beats, later⟩⟩
      rw [better] at from'
      rcases from' with same | ⟨listed, on⟩
      · obtain rfl : d = w := Option.some.inj same
        rcases one with so | ⟨rfl, on⟩
        · exact Or.inl so
        · exact Or.inr ⟨List.mem_cons_self, on⟩
      · exact Or.inr ⟨List.mem_cons_of_mem c listed, on⟩

end

/-! ### An act of the scanner -/

/-- `s` after the scanner has reported `rs` and left its record `sc` and the notices `hs`. -/
def scannerGoes (s : State) (rs : List (Option Link × ReportBody)) (sc : Scanner) (hs : List Instr) :
    State :=
  { s.says rs with scanner := sc, handed := hs }

theorem scannerGoes_self (s : State) : scannerGoes s [] s.scanner s.handed = s := rfl

theorem scannerGoes_scannerGoes (s : State) (rs qs : List (Option Link × ReportBody))
    (sc sc' : Scanner) (hs hs' : List Instr) :
    scannerGoes (scannerGoes s rs sc hs) qs sc' hs' = scannerGoes s (rs ++ qs) sc' hs' := by
  unfold scannerGoes
  rw [says_append, says_eq, says_eq (s.says rs)]
  rfl

theorem runEvent_scannerGoes {s : State} {i : Instr} {rs : List (Option Link × ReportBody)}
    {sc : Scanner} {hs : List Instr} {f : State → State} (running : s.power = .running)
    (h : f (s.taken i) = scannerGoes (s.taken i) rs sc hs) :
    runEvent i s f = .next { s.acted i rs with scanner := sc, handed := hs } := by
  rw [runEvent_of_running running, h]
  rfl

/-- What an act on one board leaves: its shown record, its button, and what is told of the button. -/
structure BoardEffect where
  shown : Shown
  button : Button
  reports : List (Option Link × ReportBody)
  notices : List Instr

/-- `s` after an act on board `b` with the effect `e`. -/
def boardGoes (s : State) (b : Fin 16) (e : BoardEffect) : State :=
  scannerGoes s e.reports
    { s.scanner with shown := s.scanner.shown.set b e.shown, buttons := s.scanner.buttons.set b e.button }
    (s.handed ++ e.notices)

/-- `s` after acts on the boards `ks`, each with the effect `e` names. -/
def boardsGo (s : State) (ks : List (Fin 16)) (e : Fin 16 → BoardEffect) : State :=
  scannerGoes s (ks.flatMap fun b => (e b).reports)
    { s.scanner with
      shown := Vector.ofFn fun b => if b ∈ ks then (e b).shown else s.scanner.shown[b]
      buttons := Vector.ofFn fun b => if b ∈ ks then (e b).button else s.scanner.buttons[b] }
    (s.handed ++ ks.flatMap fun b => (e b).notices)

theorem boardsGo_boardGoes (s : State) (k : Fin 16) (ks : List (Fin 16)) (e : Fin 16 → BoardEffect) :
    boardsGo (boardGoes s k (e k)) ks e = boardsGo s (k :: ks) e := by
  have shown := ofFn_set s.scanner.shown k ks fun b => (e b).shown
  have buttons := ofFn_set s.scanner.buttons k ks fun b => (e b).button
  unfold boardsGo
  rw [List.flatMap_cons, List.flatMap_cons, ← shown, ← buttons, ← List.append_assoc]
  exact scannerGoes_scannerGoes _ _ _ _ _ _ _

theorem boardsGo_congr {s : State} {ks : List (Fin 16)} {e f : Fin 16 → BoardEffect}
    (same : ∀ b ∈ ks, e b = f b) : boardsGo s ks e = boardsGo s ks f := by
  have reports : (ks.flatMap fun b => (e b).reports) = ks.flatMap fun b => (f b).reports :=
    List.flatMap_congr fun b listed => by rw [same b listed]
  have notices : (ks.flatMap fun b => (e b).notices) = ks.flatMap fun b => (f b).notices :=
    List.flatMap_congr fun b listed => by rw [same b listed]
  have each {α : Type} (g : BoardEffect → α) (v : Vector α 16) :
      (Vector.ofFn fun b => if b ∈ ks then g (e b) else v[b]) =
        Vector.ofFn fun b => if b ∈ ks then g (f b) else v[b] := by
    refine congrArg Vector.ofFn (funext fun b => ?_)
    by_cases listed : b ∈ ks
    · rw [if_pos listed, if_pos listed, same b listed]
    · rw [if_neg listed, if_neg listed]
  unfold boardsGo
  rw [reports, notices, each (·.shown), each (·.button)]

/-- A row of acts, each of an effect that another board's act leaves as it is. -/
theorem foldl_boards {f : State → Fin 16 → State} {effect : State → Fin 16 → BoardEffect}
    (acts : ∀ s b, f s b = boardGoes s b (effect s b))
    (apart : ∀ s {a b : Fin 16} e, b ≠ a → effect (boardGoes s a e) b = effect s b)
    {ks : List (Fin 16)} (distinct : ks.Nodup) (s : State) :
    ks.foldl f s = boardsGo s ks (effect s) := by
  induction ks generalizing s with
  | nil =>
    have self {α : Type} (v : Vector α 16) : (Vector.ofFn fun b : Fin 16 => v[b]) = v := by simp
    unfold boardsGo
    simp only [List.flatMap_nil, List.not_mem_nil, if_false, self, List.append_nil]
    rfl
  | cons k ks ih =>
    obtain ⟨once, distinct'⟩ := List.nodup_cons.1 distinct
    rw [List.foldl_cons, acts, ih distinct', ← boardsGo_boardGoes]
    refine boardsGo_congr fun b listed => apart s _ ?_
    rintro rfl
    exact once listed

theorem boardGoes_shown_button {s : State} {a b : Fin 16} (other : b ≠ a) (e : BoardEffect) :
    (boardGoes s a e).scanner.shown[b] = s.scanner.shown[b] ∧
      (boardGoes s a e).scanner.buttons[b] = s.scanner.buttons[b] :=
  ⟨set_others s.scanner.shown _ _ _ other, set_others s.scanner.buttons _ _ _ other⟩

theorem flatMap_when {α β : Type} (xs : List α) (p : α → Bool) (f : α → List β) :
    (xs.flatMap fun x => if p x = true then f x else []) = (xs.filter p).flatMap f := by
  induction xs with
  | nil => rfl
  | cons x xs ih =>
    rw [List.flatMap_cons, ih]
    by_cases held : p x = true
    · rw [if_pos held, List.filter_cons_of_pos held]
      rfl
    · rw [if_neg held, List.filter_cons_of_neg held]
      rfl

/-! ### Buttons (R145, R146) -/

theorem buttonNotices_eq (n : Fin 16) (pressed : Bool) : buttonNotices n pressed =
    .sourceChange (.laneButton n) ⟨if pressed then 1 else 0, true⟩ ::
      (if pressed then [.laneAcknowledgement n] else []) := by
  cases pressed <;> rfl

theorem changeButton_eq (s : State) (n : Fin 16) (pressed : Bool) : s.changeButton n pressed =
    boardGoes s n ⟨s.scanner.shown[n], ⟨pressed, 0⟩, [toBoth (.laneButton n pressed)],
      buttonNotices n pressed⟩ := by
  have self : s.scanner.shown.set n s.scanner.shown[n] = s.scanner.shown := Vector.set_getElem_self n.isLt
  unfold State.changeButton boardGoes
  rw [self, report_eq]
  unfold scannerGoes
  rw [says_eq]
  rfl

theorem setButton_eq (s : State) (n : Fin 16) (x : Button) :
    s.setButton n x = boardGoes s n ⟨s.scanner.shown[n], x, [], []⟩ := by
  have self : s.scanner.shown.set n s.scanner.shown[n] = s.scanner.shown := Vector.set_getElem_self n.isLt
  unfold boardGoes
  rw [self, List.append_nil]
  rfl

/-- A sample at level `v` is the third in a row that differs (R145). -/
def third (s : State) (n : Fin 16) (v : Bool) : Bool :=
  (v != s.scanner.buttons[n].pressed) && decide (2 ≤ s.scanner.buttons[n].count)

/-- What one sample of the button of board `n` leaves (R145). -/
def sampledButton (x : Button) (v : Bool) : Button :=
  if (v != x.pressed) = false then { x with count := 0 }
  else if x.count < 2 then { x with count := x.count + 1 }
  else ⟨v, 0⟩

/-- The effect of one sample of one button (R145, R146). -/
def sampleEffect (levels : Vector Bool 16) (s : State) (n : Fin 16) : BoardEffect where
  shown := s.scanner.shown[n]
  button := sampledButton s.scanner.buttons[n] levels[n]
  reports := if third s n levels[n] then [toBoth (.laneButton n levels[n])] else []
  notices := if third s n levels[n] then buttonNotices n levels[n] else []

theorem sampleButton_eq (levels : Vector Bool 16) (s : State) (n : Fin 16) :
    s.sampleButton n levels[n] = boardGoes s n (sampleEffect levels s n) := by
  unfold State.sampleButton sampleEffect sampledButton third
  dsimp only
  by_cases same : levels[n] = s.scanner.buttons[n].pressed
  · rw [if_pos same, setButton_eq, same, bne_self_eq_false]
    rfl
  · have differs : (levels[n] != s.scanner.buttons[n].pressed) = true := bne_iff_ne.2 same
    rw [if_neg same, differs, if_neg (show ¬true = false from nofun)]
    by_cases few : s.scanner.buttons[n].count < 2
    · have short : s.scanner.buttons[n].count + 1 < 3 := by omega
      rw [if_pos short, if_pos few, setButton_eq, decide_eq_false (by omega)]
      rfl
    · have enough : ¬s.scanner.buttons[n].count + 1 < 3 := by omega
      rw [if_neg enough, if_neg few, changeButton_eq, decide_eq_true (by omega)]
      rfl

/-- The buttons sampled, one after the other. -/
theorem foldl_sampleButton (levels : Vector Bool 16) {ks : List (Fin 16)} (distinct : ks.Nodup) (s : State) :
    ks.foldl (fun s n => s.sampleButton n levels[n]) s = boardsGo s ks (sampleEffect levels s) := by
  refine foldl_boards (sampleButton_eq levels) (fun s a b e other => ?_) distinct s
  obtain ⟨shown, button⟩ := boardGoes_shown_button (s := s) other e
  unfold sampleEffect third
  rw [shown, button]

/-! ### Boards cleared and loaded (R140, R142, R143) -/

/-- The effect of clearing a board (R140). -/
def clearEffect (s : State) (b : Fin 16) : BoardEffect where
  shown := Shown.dark
  button := ⟨false, 0⟩
  reports := if s.scanner.buttons[b].pressed then [toBoth (.laneButton b false)] else []
  notices := if s.scanner.buttons[b].pressed then [.sourceChange (.laneButton b) ⟨0, true⟩] else []

theorem clearBoard_eq (s : State) (b : Fin 16) : s.clearBoard b = boardGoes s b (clearEffect s b) := by
  unfold State.clearBoard clearEffect
  dsimp only
  cases s.scanner.buttons[b].pressed with
  | false =>
    rw [if_neg nofun, if_neg nofun, if_neg nofun]
    unfold boardGoes
    rw [List.append_nil]
    rfl
  | true =>
    rw [if_pos rfl, if_pos rfl, if_pos rfl]
    unfold State.changeButton boardGoes
    rw [report_eq]
    unfold scannerGoes
    rw [says_eq]
    rfl

/-- The boards from `n` up, cleared (R140; log entry 34). -/
theorem clearBoardsFrom_eq (s : State) (n : ℕ) : s.clearBoardsFrom n =
    scannerGoes s ((s.releasedBoards n).map fun b => toBoth (.laneButton b false))
      { s.scanner with
        shown := Vector.ofFn fun b => if b.val < n then s.scanner.shown[b] else Shown.dark
        buttons := Vector.ofFn fun b => if b.val < n then s.scanner.buttons[b] else ⟨false, 0⟩ }
      (s.handed ++ (s.releasedBoards n).map fun b => .sourceChange (.laneButton b) ⟨0, true⟩) := by
  have above {α : Type} (b : Fin 16) (x y : α) :
      (if b ∈ (List.finRange 16).filter fun b => decide (n ≤ b.val) then x else y) =
        if b.val < n then y else x := by
    by_cases small : b.val < n
    · rw [if_pos small, if_neg (by simp [small])]
    · rw [if_neg small, if_pos (by simpa using small)]
  have released {β : Type} (f : Fin 16 → β) :
      (((List.finRange 16).filter fun b => decide (n ≤ b.val)).flatMap fun b =>
        if s.scanner.buttons[b].pressed = true then [f b] else []) = (s.releasedBoards n).map f := by
    rw [flatMap_ifs, List.filter_filter]
    refine congrArg (fun p => (List.filter p (List.finRange 16)).map f) (funext fun b => ?_)
    rw [Bool.and_comm, Bool.decide_and, Bool.decide_eq_true]
  refine (foldl_boards clearBoard_eq (fun s a b e other => ?_)
    (nodup_filter_finRange fun b => decide (n ≤ b.val)) s).trans ?_
  · unfold clearEffect
    rw [(boardGoes_shown_button (s := s) other e).2]
  · unfold boardsGo clearEffect
    simp only [above]
    rw [released, released]

theorem loadShown_eq (s : State) (b : Fin 16) :
    loadShown s.settings.patterns (winnerOf s.calls.table b) (flashLitAt s.clock) = s.loadedBoard b := by
  have dark (c : Call) : darkFor (some c) (flashLitAt s.clock) =
      decide (6 ≤ c.priority ∧ s.clock.toNat / 500 % 2 = 1) := by
    have off : (!flashLitAt s.clock) = decide (s.clock.toNat / 500 % 2 = 1) := by
      unfold flashLitAt
      rw [← decide_not]
      exact decide_eq_decide.2 (by omega)
    unfold darkFor
    rw [off, Bool.decide_and]
  unfold loadShown State.loadedBoard
  cases winnerOf s.calls.table b with
  | none => rfl
  | some c =>
    rw [dark]
    by_cases on : 6 ≤ c.priority ∧ s.clock.toNat / 500 % 2 = 1
    · simp only [on, and_self, decide_true]
      rfl
    · simp only [on, decide_false]
      rfl

/-- BOARD_FRAME_START, its notice taken (R139, R140, R142). -/
def framesStart (s : State) : State :=
  if s.settings.boards = 0 then s else (s.clearBoardsFrom s.settings.boards).loadBoards

/-- LAST_SCAN_FRAME_END, its notice taken (R140). -/
def framesEnd (s : State) : State :=
  if s.settings.boards ≠ 0 then s
  else
    let t := s.clearBoardsFrom 0
    { t with scanner := { t.scanner with frame := none } }

/-- The scanner with the fitted boards loaded and the others cleared, at the start of a frame. -/
def framed (s : State) : Scanner where
  shown := Vector.ofFn fun b =>
    if b.val < s.settings.boards then s.loadedBoard b else ⟨none, none, false, 0⟩
  buttons := Vector.ofFn fun b =>
    if b.val < s.settings.boards then s.scanner.buttons[b] else ⟨false, 0⟩
  frame := some ⟨s.settings.boards, s.settings.blanking, 0⟩
  flashLit := decide (s.clock.toNat / 500 % 2 = 0)

theorem loadBoards_cleared (s : State) : (s.clearBoardsFrom s.settings.boards).loadBoards =
    scannerGoes s ((s.releasedBoards s.settings.boards).map fun b => toBoth (.laneButton b false))
      (framed s)
      (s.handed ++ (s.releasedBoards s.settings.boards).map fun b =>
        .sourceChange (.laneButton b) ⟨0, true⟩) := by
  have cleared := clearBoardsFrom_eq s s.settings.boards
  have settings : (s.clearBoardsFrom s.settings.boards).settings = s.settings := by
    rw [cleared]
    exact says_settings s _
  have clock : (s.clearBoardsFrom s.settings.boards).clock = s.clock := by
    rw [cleared]
    exact says_clock s _
  have calls : (s.clearBoardsFrom s.settings.boards).calls = s.calls := by
    rw [cleared]
    exact says_calls s _
  unfold State.loadBoards
  dsimp only
  rw [settings, clock, calls, cleared]
  unfold framed
  simp only [loadShown_eq]
  have shown : (Vector.ofFn fun b : Fin 16 => if b.val < s.settings.boards then s.loadedBoard b
      else (Vector.ofFn fun b : Fin 16 => if b.val < s.settings.boards then s.scanner.shown[b]
        else Shown.dark)[b]) =
      Vector.ofFn fun b => if b.val < s.settings.boards then s.loadedBoard b else ⟨none, none, false, 0⟩ := by
    refine congrArg Vector.ofFn (funext fun b => ?_)
    split
    · rfl
    · rename_i high
      simp only [Fin.getElem_fin, Vector.getElem_ofFn]
      exact if_neg high
  unfold scannerGoes
  dsimp only
  rw [shown, says_eq]
  rfl

/-! ### What a frame presents (R139) -/

theorem driven_past {x : Scanner} {f : ScanFrame} (frame : x.frame = some f) (past : f.boards ≤ f.position) :
    x.driven = none := by
  unfold Scanner.driven
  rw [frame]
  exact if_neg (by omega)

theorem driven_at {x : Scanner} {f : ScanFrame} (frame : x.frame = some f) {b : Fin 16}
    (at' : f.position + b.val + 1 = f.boards) : x.driven = some (b, x.shown[b].segments) := by
  have named : f.boards - 1 - f.position = b.val := by omega
  unfold Scanner.driven
  rw [frame]
  refine (if_pos (by omega)).trans ?_
  rw [named, finOf?_val]
  rfl

/-- Settles O40. -/
theorem framesLoadTheWinners : Obligations.FramesLoadTheWinners := by
  refine ⟨?_, fun cs b => ⟨?_, fun w winner => ?_⟩, fun x => ⟨fun none' => ?_, fun f frame =>
    ⟨driven_past frame, fun b => driven_at frame⟩⟩⟩
  · intro s running n tells reports
    refine ⟨?_, ?_⟩
    · intro i
      refine ⟨fun none' => ?_, fun some' => ?_⟩
      · exact runEvent_stays (f := framesStart) running (if_pos none')
      · have act : framesStart (s.taken i) = _ :=
          (if_neg (show ¬n = 0 by omega)).trans (loadBoards_cleared (s.taken i))
        exact runEvent_scannerGoes (f := framesStart) running act
    · intro i
      refine ⟨fun some' => ?_, fun none' => ?_⟩
      · exact runEvent_stays (f := framesEnd) running (if_pos (show n ≠ 0 by omega))
      · have act : framesEnd (s.taken i) = scannerGoes (s.taken i) (reports (s.releasedBoards 0))
            { s.scanner with
              shown := Vector.replicate 16 ⟨none, none, false, 0⟩
              buttons := Vector.replicate 16 ⟨false, 0⟩
              frame := none }
            (s.handed.erase i ++ tells (s.releasedBoards 0)) := by
          have dark {α : Type} (v : Fin 16 → α) (x : α) :
              (Vector.ofFn fun b : Fin 16 => if b.val < 0 then v b else x) = Vector.replicate 16 x := by
            simp [Vector.ext_iff]
          refine (if_neg (not_not.2 none')).trans ?_
          dsimp only
          rw [clearBoardsFrom_eq, dark, dark]
          rfl
        exact runEvent_scannerGoes (f := framesEnd) running act
  · exact (foldl_betterFor_eq_none cs none).trans (and_iff_right rfl)
  · obtain ⟨from', _, best⟩ := foldl_betterFor_eq_some winner
    obtain ⟨listed, on⟩ := from'.resolve_left nofun
    exact ⟨listed, on, best⟩
  · unfold Scanner.driven
    rw [none']

/-! ### The events of a button, and the pattern table (R144 to R146) -/

/-- BUTTON_SAMPLE, its notice taken. -/
def samples (levels : Vector Bool 16) (s : State) : State :=
  ((List.finRange 16).filter s.sampled).foldl (fun s n => s.sampleButton n levels[n]) s

/-- LANE_BUTTON_CHANGE, its notice taken. -/
def buttonChanges (n : Fin 16) (pressed : Bool) (s : State) : State :=
  if s.sampled n && (s.scanner.buttons[n].pressed != pressed) then s.changeButton n pressed else s

theorem sampled_iff (s : State) (n : Fin 16) :
    s.sampled n = true ↔ ∃ f, s.scanner.frame = some f ∧ n.val < f.boards := by
  unfold State.sampled
  cases s.scanner.frame <;> simp

theorem samples_eq (levels : Vector Bool 16) (s : State) : samples levels s =
    scannerGoes s
      (((List.finRange 16).filter fun b => s.sampled b && third s b levels[b]).map fun b =>
        toBoth (.laneButton b levels[b]))
      { s.scanner with
        buttons := Vector.ofFn fun b =>
          if s.sampled b = false then s.scanner.buttons[b]
          else sampledButton s.scanner.buttons[b] levels[b] }
      (s.handed ++ ((List.finRange 16).filter fun b => s.sampled b && third s b levels[b]).flatMap fun b =>
        buttonNotices b levels[b]) := by
  have row := foldl_sampleButton levels (nodup_filter_finRange s.sampled) s
  have filtered : (((List.finRange 16).filter s.sampled).filter fun b => third s b levels[b]) =
      (List.finRange 16).filter fun b => s.sampled b && third s b levels[b] := by
    rw [List.filter_filter]
    exact congrArg (fun p => List.filter p (List.finRange 16)) (funext fun b => Bool.and_comm _ _)
  have shown : (Vector.ofFn fun b => if b ∈ (List.finRange 16).filter s.sampled then s.scanner.shown[b]
      else s.scanner.shown[b]) = s.scanner.shown := by simp
  have buttons : (Vector.ofFn fun b => if b ∈ (List.finRange 16).filter s.sampled then
      sampledButton s.scanner.buttons[b] levels[b] else s.scanner.buttons[b]) =
      Vector.ofFn fun b => if s.sampled b = false then s.scanner.buttons[b]
        else sampledButton s.scanner.buttons[b] levels[b] := by
    refine congrArg Vector.ofFn (funext fun b => ?_)
    cases read : s.sampled b <;> simp [read]
  refine row.trans ?_
  unfold boardsGo sampleEffect
  dsimp only
  rw [flatMap_ifs, flatMap_when, filtered, shown, buttons]

/-- PATTERN WRITE (R144). -/
def writesPattern (l : Link) (pattern : ℕ) (segments : Segments) (s : State) : State × ReplyData :=
  if !s.atService l then deny s .level
  else match finOf? 64 pattern with
    | none => deny s .badField
    | some p => if s.store.busy then deny s .busy else done (s.writePattern p segments) []

theorem exec_patternWrite (l : Link) (tag : Byte) (pattern : ℕ) (segments : Segments) (s : State) :
    exec (.patternWrite l tag pattern segments) s =
      runRequest (.patternWrite l tag pattern segments) l tag s (writesPattern l pattern segments) := rfl

/-- Settles O41. -/
theorem buttonsAndPatterns : Obligations.ButtonsAndPatterns := by
  refine ⟨?_, ?_, ?_⟩
  · intro levels s running i read differs moved
    let u := s.taken i
    have same : (fun b : Fin 16 => u.sampled b && third u b levels[b]) = fun b =>
        read b && differs b && decide (2 ≤ s.scanner.buttons[b].count) :=
      funext fun b => (Bool.and_assoc _ _ _).symm
    have act := samples_eq levels u
    rw [same] at act
    simp only [buttonNotices_eq] at act
    exact runEvent_scannerGoes (f := samples levels) running act
  · intro n pressed s running i read
    let u := s.taken i
    refine ⟨fun stays => ?_, fun on other => ?_⟩
    · refine runEvent_stays (f := buttonChanges n pressed) running (if_neg fun both => ?_)
      obtain ⟨sampled, differs⟩ := Bool.and_eq_true_iff.1 both
      exact stays.elim (fun off => off ((sampled_iff u n).1 sampled)) (bne_iff_ne.1 differs)
    · have act : buttonChanges n pressed u = scannerGoes u [toBoth (.laneButton n pressed)]
          { s.scanner with buttons := s.scanner.buttons.set n ⟨pressed, 0⟩ }
          (u.handed ++ (.sourceChange (.laneButton n) ⟨if pressed then 1 else 0, true⟩ ::
            (if pressed then [.laneAcknowledgement n] else []))) := by
        have self : u.scanner.shown.set n u.scanner.shown[n] = u.scanner.shown :=
          Vector.set_getElem_self n.isLt
        refine (if_pos (Bool.and_eq_true_iff.2 ⟨(sampled_iff u n).2 on, bne_iff_ne.2 other⟩)).trans ?_
        rw [changeButton_eq, buttonNotices_eq]
        unfold boardGoes
        rw [self]
        rfl
      exact runEvent_scannerGoes (f := buttonChanges n pressed) running act
  · intro l tag p segments s running i refuses
    have writes : exec i s = _ := exec_patternWrite l tag p segments s
    refine ⟨fun operate => ?_, fun service => ⟨fun n above => ?_, fun busy => ?_, fun free => ?_⟩⟩
    · have act : writesPattern l p segments (s.openRequest l i) = deny (s.openRequest l i) .level := by
        unfold writesPattern
        rw [atService_of_operate (s := s.openRequest l i) operate]
        rfl
      exact writes.trans (runRequest_refused running act)
    · have act : writesPattern l n segments (s.openRequest l (.patternWrite l tag n segments)) =
          deny (s.openRequest l (.patternWrite l tag n segments)) .badField := by
        unfold writesPattern
        rw [atService_of_service (s := s.openRequest l (.patternWrite l tag n segments)) service,
          if_neg nofun, finOf?_eq_none.2 above]
      exact (exec_patternWrite l tag n segments s).trans (runRequest_refused running act)
    all_goals
      have taken : writesPattern l p segments (s.openRequest l i) = if s.store.busy then
          deny (s.openRequest l i) .busy else done ((s.openRequest l i).writePattern p segments) [] := by
        unfold writesPattern
        rw [atService_of_service (s := s.openRequest l i) service, if_neg nofun, finOf?_val]
        rfl
    · exact writes.trans (runRequest_refused running (taken.trans (if_pos busy)))
    · have idle : ¬s.store.busy = true := fun busy =>
        absurd (busy.symm.trans (congrArg Option.isSome free)) nofun
      refine writes.trans ((runRequest_of_running running).trans ?_)
      rw [taken, if_neg idle]
      rfl

end Sys2Proof.Proofs
end

section
/-! SUPPORT. The alarm unit (09): entries, acknowledgements and the trip lines. -/

open Sys2Proof Sys2Proof.Machine

namespace Sys2Proof.Proofs

/-! ### An act of the alarm unit -/

/-- `s` after the alarm unit has reported `rs` and left its record `au` and the notices `hs`. -/
def alarmsGo (s : State) (rs : List (Option Link × ReportBody)) (au : AlarmUnit) (hs : List Instr) : State :=
  { s.says rs with alarms := au, handed := hs }

theorem alarmsGo_self (s : State) : alarmsGo s [] s.alarms s.handed = s := rfl

theorem alarmsGo_alarmsGo (s : State) (rs qs : List (Option Link × ReportBody))
    (au au' : AlarmUnit) (hs hs' : List Instr) :
    alarmsGo (alarmsGo s rs au hs) qs au' hs' = alarmsGo s (rs ++ qs) au' hs' := by
  unfold alarmsGo
  rw [says_append, says_eq, says_eq (s.says rs)]
  rfl

section
variable {s : State} {i : Instr} {rs : List (Option Link × ReportBody)} {au : AlarmUnit} {hs : List Instr}
  (running : s.power = .running)
include running

theorem runEvent_alarmsGo {f : State → State} (h : f (s.taken i) = alarmsGo (s.taken i) rs au hs) :
    runEvent i s f = .next { s.acted i rs with alarms := au, handed := hs } := by
  rw [runEvent_of_running running, h]
  rfl

theorem runRequest_alarmsGo {l : Link} {tag : Byte} {f : State → State × ReplyData} {data : ReplyData}
    (h : f (s.openRequest l i) = (alarmsGo (s.openRequest l i) rs au hs, data)) :
    runRequest i l tag s f = .next { s.answered l tag i rs data with alarms := au, handed := hs } := by
  rw [runRequest_of_running running, h]
  rfl

end

/-- The alarm list and lines of an act rest on the settings and the alarm unit before it. -/
theorem withAlarms_eq {s base : State} (settings : base.settings = s.settings) (au : AlarmUnit)
    (es : List AlarmEntry) : { base with alarms := au }.withAlarms es =
      { base with alarms := ({ s with alarms := au }.withAlarms es).alarms } := by
  unfold State.withAlarms State.linesFollowing
  dsimp only
  rw [settings]

/-! ### The trip lines (R157 to R159) -/

theorem setAlarmLine_eq (s : State) (level : Bool) : s.setAlarmLine level =
    alarmsGo s (if level = s.alarms.alarm then [] else [toBoth (.tripLineChanged false level)])
      { s.alarms with alarm := level } s.handed := by
  unfold State.setAlarmLine
  split
  · rename_i same
    rw [same]
    rfl
  · rw [report_eq]
    unfold alarmsGo
    rw [says_eq]
    rfl

theorem setStopLine_eq (s : State) (level : Bool) : s.setStopLine level =
    alarmsGo s (if level = s.alarms.stop then [] else [toBoth (.tripLineChanged true level)])
      { s.alarms with stop := level } s.handed := by
  unfold State.setStopLine
  split
  · rename_i same
    rw [same]
    rfl
  · rw [report_eq]
    unfold alarmsGo
    rw [says_eq]
    rfl

theorem linedState_eq (s : State) : linedState s = alarmsGo s (s.tripReports s.alarms.list)
    { s.alarms with
      alarm := (s.withAlarms s.alarms.list).alarms.alarm
      stop := (s.withAlarms s.alarms.list).alarms.stop } s.handed := by
  have stop : (s.setAlarmLine s.alarmNow).stopNow = (s.withAlarms s.alarms.list).alarms.stop := by
    unfold State.stopNow
    rw [setAlarmLine_alarms, setAlarmLine_settings]
    rfl
  unfold linedState
  rw [stop, setStopLine_eq, setAlarmLine_alarms, setAlarmLine_eq]
  exact alarmsGo_alarmsGo _ _ _ _ _ _ _

theorem lineNotices_self (s : State) : s.lineNotices s.alarms.lines = [] := by
  have none' : ((List.finRange 8).filter fun k =>
      decide (s.alarms.lines[k].level ≠ s.alarms.lines[k].level)) = [] := by simp
  unfold State.lineNotices
  rw [none', List.map_nil]

/-- What a change of the STOP line hands on (R158). -/
def stopNotices (s : State) (stop : Bool) : List Instr :=
  if stop = s.alarms.stop then [] else (List.finRange 4).map fun a => .stopLineChange a stop

theorem tripNotices_eq (s : State) (es : List AlarmEntry) : s.tripNotices es =
    stopNotices s (s.withAlarms es).alarms.stop ++ s.lineNotices (s.withAlarms es).alarms.lines := rfl

theorem linedState_hand (s : State) {x : Bool} (stop : (linedState s).alarms.stop = x) :
    (if (linedState s).alarms.stop = s.alarms.stop then linedState s
      else (linedState s).hand ((List.finRange 4).map fun a => .stopLineChange a (linedState s).alarms.stop)) =
      { linedState s with handed := s.handed ++ stopNotices s x } := by
  have handed : (linedState s).handed = s.handed := by rw [linedState_eq]; rfl
  unfold stopNotices
  rw [stop, ← handed]
  split
  · rw [List.append_nil]
  · rfl

/-- What a re-evaluation of the trip lines leaves. -/
theorem evalLines_eq (s : State) : s.evalLines = alarmsGo s (s.tripReports s.alarms.list)
    (s.withAlarms s.alarms.list).alarms (s.handed ++ s.tripNotices s.alarms.list) := by
  let after := (s.withAlarms s.alarms.list).alarms
  have lined := linedState_eq s
  have settings : (linedState s).settings = s.settings := by rw [lined]; exact says_settings s _
  have alarm : (linedState s).alarms.alarm = after.alarm := by rw [lined]; rfl
  have stop : (linedState s).alarms.stop = after.stop := by rw [lined]; rfl
  have lines : (linedState s).alarms.lines = s.alarms.lines := by rw [lined]; rfl
  let told : State := { linedState s with handed := s.handed ++ stopNotices s after.stop }
  have eval : s.evalLines = if after.alarm = s.alarms.alarm then told
      else told.driveFollowers .alarmLine after.alarm := by
    rw [← alarm]
    exact congrArg (fun v : State => if (linedState s).alarms.alarm = s.alarms.alarm then v
      else v.driveFollowers .alarmLine (linedState s).alarms.alarm) (linedState_hand s stop)
  rw [eval, tripNotices_eq, ← List.append_assoc]
  by_cases same : after.alarm = s.alarms.alarm
  · have kept : after.lines = s.alarms.lines := if_pos same
    rw [if_pos same, show (s.withAlarms s.alarms.list).alarms.lines = s.alarms.lines from kept,
      lineNotices_self, List.append_nil]
    have unit : ({ s.alarms with alarm := after.alarm, stop := after.stop } : AlarmUnit) = after :=
      congrArg (fun ls => ({ s.alarms with alarm := after.alarm, stop := after.stop, lines := ls } : AlarmUnit))
        kept.symm
    unfold told
    rw [lined]
    exact congrArg (fun x => alarmsGo s (s.tripReports s.alarms.list) x
      (s.handed ++ stopNotices s after.stop)) unit
  · have moved : after.lines = told.linesFollowing .alarmLine after.alarm := by
      unfold State.linesFollowing
      rw [show told.settings = s.settings from settings, show told.alarms.lines = s.alarms.lines from lines]
      exact if_neg same
    have notices : told.lineNotices after.lines = s.lineNotices after.lines := by
      unfold State.lineNotices
      rw [show told.alarms.lines = s.alarms.lines from lines]
    rw [if_neg same, driveFollowers_eq_withLines, ← moved]
    unfold withLines
    rw [notices]
    unfold told
    rw [lined]
    rfl

/-! ### Entries (R151 to R153) -/

theorem putEntry_none (es : List AlarmEntry) (code : Fin 60) :
    putEntry es code none = es.filter fun e => e.source ≠ code := rfl

theorem putEntry_new {es : List AlarmEntry} {code : Fin 60} (absent : findEntry es code = none)
    (x : AlarmEntry) : putEntry es code (some x) = es ++ [x] := by
  unfold putEntry
  rw [absent]
  rfl

theorem putEntry_standing {es : List AlarmEntry} {code : Fin 60} {e : AlarmEntry}
    (standing : findEntry es code = some e) (x : AlarmEntry) :
    putEntry es code (some x) = replaced es code x := by
  unfold putEntry
  rw [standing]
  rfl

theorem changeEntry_eq {s : State} {code : Fin 60} {new : Option AlarmEntry} {cause : AlarmCause}
    {old : Option AlarmEntry} (before : findEntry s.alarms.list code = old) (other : new ≠ old) :
    s.changeEntry code new cause = alarmsGo s [toBoth (changeReport code old new s.clock cause)]
      { s.alarms with list := putEntry s.alarms.list code new } s.handed := by
  unfold State.changeEntry
  dsimp only
  rw [before, if_neg other, report_eq]
  unfold alarmsGo
  rw [says_eq]
  rfl

theorem changeEntry_same {s : State} {code : Fin 60} {new : Option AlarmEntry} {cause : AlarmCause}
    (same : new = findEntry s.alarms.list code) : s.changeEntry code new cause = s := if_pos same

/-- The alarm unit with other entries, and the trip lines re-evaluated from them. -/
theorem evalLines_alarmsGo (s : State) (rs : List (Option Link × ReportBody)) (au : AlarmUnit) :
    (alarmsGo s rs au s.handed).evalLines =
      alarmsGo s (rs ++ { s with alarms := au }.tripReports au.list)
        ({ s with alarms := au }.withAlarms au.list).alarms
        (s.handed ++ { s with alarms := au }.tripNotices au.list) := by
  have after := withAlarms_eq (base := s.says rs) (says_settings s rs) au au.list
  have alarms : ((alarmsGo s rs au s.handed).withAlarms au.list).alarms =
      ({ s with alarms := au }.withAlarms au.list).alarms := congrArg (·.alarms) after
  have reports : (alarmsGo s rs au s.handed).tripReports au.list =
      { s with alarms := au }.tripReports au.list := by
    unfold State.tripReports
    dsimp only
    rw [alarms]
    rfl
  have notices : (alarmsGo s rs au s.handed).tripNotices au.list =
      { s with alarms := au }.tripNotices au.list := by
    unfold State.tripNotices
    dsimp only
    rw [alarms]
    rfl
  have eval := evalLines_eq (alarmsGo s rs au s.handed)
  rw [show (alarmsGo s rs au s.handed).alarms.list = au.list from rfl, alarms, reports, notices,
    alarmsGo_alarmsGo] at eval
  exact eval

/-- A change of one entry and the trip lines after it. -/
def entryGoes (s : State) (flags : Vector Bool 60) (es : List AlarmEntry) (report : ReportBody) : State :=
  alarmsGo s (toBoth report :: s.tripReports es)
    ({ s with alarms := { s.alarms with flags := flags } }.withAlarms es).alarms
    (s.handed ++ s.tripNotices es)

theorem evalLines_changed (s : State) (flags : Vector Bool 60) (es : List AlarmEntry) (report : ReportBody) :
    (alarmsGo s [toBoth report] { s.alarms with flags := flags, list := es } s.handed).evalLines =
      entryGoes s flags es report :=
  evalLines_alarmsGo _ _ _

theorem tripReports_taken (s : State) (i : Instr) (es : List AlarmEntry) :
    (s.taken i).tripReports es = s.tripReports es := rfl

theorem tripNotices_taken (s : State) (i : Instr) (es : List AlarmEntry) :
    (s.taken i).tripNotices es = s.tripNotices es := rfl

theorem withAlarms_taken (s : State) (i : Instr) (au : AlarmUnit) (es : List AlarmEntry) :
    ({ s.taken i with alarms := au }.withAlarms es).alarms = ({ s with alarms := au }.withAlarms es).alarms :=
  rfl

/-- An event of the alarm unit that changes one entry. -/
theorem runEvent_entryGoes {s : State} {i : Instr} {f : State → State} {flags : Vector Bool 60}
    {es : List AlarmEntry} {report : ReportBody} (running : s.power = .running)
    (h : f (s.taken i) = entryGoes (s.taken i) flags es report) :
    runEvent i s f = .next
      { { s.acted i (toBoth report :: s.tripReports es) with
            alarms := { s.alarms with flags := flags } }.withAlarms es with
        handed := s.handed.erase i ++ s.tripNotices es } := by
  have settings : (s.acted i (toBoth report :: s.tripReports es)).settings = s.settings :=
    acted_settings s i _
  unfold entryGoes at h
  rw [tripReports_taken, tripNotices_taken, withAlarms_taken] at h
  rw [runEvent_alarmsGo running h, withAlarms_eq settings { s.alarms with flags := flags } es]
  dsimp only [State.taken_alarms]
  rfl

theorem acted_withAlarms (s : State) (i : Instr) (rs : List (Option Link × ReportBody))
    (es : List AlarmEntry) : (s.acted i rs).withAlarms es =
      { s.acted i rs with alarms := (s.withAlarms es).alarms } := by
  have self : ({ s.acted i rs with alarms := s.alarms } : State) = s.acted i rs :=
    congrArg (fun x => ({ s.acted i rs with alarms := x } : State)) (acted_alarms s i rs).symm
  have after := withAlarms_eq (acted_settings s i rs) s.alarms es
  rw [self] at after
  exact after

/-- An event of the alarm unit that changes one entry and no flag. -/
theorem runEvent_entryOnly {s : State} {i : Instr} {f : State → State} {es : List AlarmEntry}
    {rs : List (Option Link × ReportBody)} (running : s.power = .running)
    (h : f (s.taken i) = alarmsGo (s.taken i) rs (s.withAlarms es).alarms
      (s.handed.erase i ++ s.tripNotices es)) :
    runEvent i s f = .next
      { (s.acted i rs).withAlarms es with handed := s.handed.erase i ++ s.tripNotices es } := by
  rw [runEvent_alarmsGo running h, acted_withAlarms]

/-! ### Condition flags and momentary raises -/

theorem exec_alarmSourceChange (src : CondSource) (active : Bool) (s : State) :
    exec (.alarmSourceChange src active) s =
      runEvent (.alarmSourceChange src active) s (·.setFlag src active) := rfl

theorem exec_momentaryRaise (src : MomentarySource) (s : State) :
    exec (.momentaryRaise src) s = runEvent (.momentaryRaise src) s (·.raiseMomentary src) := rfl

theorem setFlag_eq {s : State} {src : CondSource} {active : Bool} {old new : Option AlarmEntry}
    (flag : s.alarms.flags[src.code] ≠ active) (before : findEntry s.alarms.list src.code = old)
    (entry : s.flagEntry src.code active = new) (other : new ≠ old) : s.setFlag src active =
      entryGoes s (s.alarms.flags.set src.code active) (putEntry s.alarms.list src.code new)
        (changeReport src.code old new s.clock (if active then .active else .returned)) := by
  have change := changeEntry_eq (s := { s with alarms := { s.alarms with
    flags := s.alarms.flags.set src.code active } }) (cause := if active then .active else .returned)
    before other
  unfold State.setFlag
  dsimp only
  rw [if_neg flag, entry, change, ← evalLines_changed]
  unfold alarmsGo
  rw [says_eq, says_eq s]
  rfl

theorem raiseMomentary_eq {s : State} {src : MomentarySource} {old new : Option AlarmEntry}
    (before : findEntry s.alarms.list src.code = old) (entry : momentaryEntry src.code s.clock old = new)
    (other : new ≠ old) : s.raiseMomentary src =
      entryGoes s s.alarms.flags (putEntry s.alarms.list src.code new)
        (changeReport src.code old new s.clock .momentary) := by
  unfold State.raiseMomentary
  rw [before, entry, changeEntry_eq before other]
  exact evalLines_changed _ _ _ _

theorem raiseMomentary_same {s : State} {src : MomentarySource} {e : AlarmEntry}
    (before : findEntry s.alarms.list src.code = some e)
    (same : momentaryEntry src.code s.clock (some e) = some e) : s.raiseMomentary src =
      alarmsGo s (s.tripReports s.alarms.list) (s.withAlarms s.alarms.list).alarms
        (s.handed ++ s.tripNotices s.alarms.list) := by
  unfold State.raiseMomentary
  rw [before, same, changeEntry_same before.symm, evalLines_eq]

theorem raisedEntry_returned {code : Fin 60} {now : DeckTime} {e : AlarmEntry}
    (returned : e.state = .returnedUnacked) : raisedEntry code now (some e) =
      some ⟨e.source, .activeUnacked, e.first, now, min (e.occurrences + 1) 255⟩ := by
  unfold raisedEntry
  dsimp only
  rw [returned]
  rfl

theorem returnedEntry_unacked {now : DeckTime} {e : AlarmEntry} (active : e.state = .activeUnacked) :
    returnedEntry now (some e) = some { e with state := .returnedUnacked, last := now } := by
  unfold returnedEntry
  dsimp only
  rw [active]

theorem returnedEntry_acked {now : DeckTime} {e : AlarmEntry} (active : e.state = .activeAcked) :
    returnedEntry now (some e) = none := by
  unfold returnedEntry
  dsimp only
  rw [active]

theorem momentaryEntry_returned {code : Fin 60} {now : DeckTime} {e : AlarmEntry}
    (returned : e.state = .returnedUnacked) : momentaryEntry code now (some e) =
      some { e with last := now, occurrences := min (e.occurrences + 1) 255 } := by
  unfold momentaryEntry
  dsimp only
  rw [returned]
  rfl

/-- Settles O42. -/
theorem alarmEntriesFollowTheirSources : Obligations.AlarmEntriesFollowTheirSources := by
  refine ⟨?_, ?_⟩
  · intro src active s running i code es becomes
    let u := s.taken i
    have event : exec i s = _ := exec_alarmSourceChange src active s
    have goes {old new : Option AlarmEntry} {cause : AlarmCause} (flag : s.alarms.flags[code] ≠ active)
        (because : (if active then AlarmCause.active else .returned) = cause)
        (before : findEntry es code = old) (entry : u.flagEntry code active = new) (other : new ≠ old)
        {list : List AlarmEntry} (put : putEntry es code new = list) :
        becomes list (changeReport code old new s.clock cause) := by
      have act := setFlag_eq (s := u) flag before entry other
      rw [show putEntry u.alarms.list src.code new = list from put, because] at act
      exact event.trans (runEvent_entryGoes running act)
    have raised (on : active = true) {old : Option AlarmEntry} (before : findEntry es code = old) :
        u.flagEntry code active = raisedEntry code s.clock old := by
      rw [on, ← before]
      rfl
    have returned (off : active = false) {old : Option AlarmEntry} (before : findEntry es code = old) :
        u.flagEntry code active = returnedEntry s.clock old := by
      rw [off, ← before]
      rfl
    refine ⟨fun same => event.trans (runEvent_stays running (if_pos same)),
      fun flag on => ⟨fun absent => ?_, fun e standing state => ?_⟩,
      fun flag off e standing => ⟨fun state => ?_, fun state => ?_⟩⟩
    · exact goes flag (if_pos on) absent (raised on absent) nofun (putEntry_new absent _)
    · have source : e.source = code := findEntry_source standing
      have other : some (⟨e.source, .activeUnacked, e.first, s.clock, min (e.occurrences + 1) 255⟩ :
          AlarmEntry) ≠ some e := fun same => by
        have := congrArg AlarmEntry.state (Option.some.inj same)
        exact absurd (this.trans state) nofun
      have act := goes flag (if_pos on) standing ((raised on standing).trans (raisedEntry_returned state))
        other (putEntry_standing standing _)
      rw [source, show changeReport code (some e) (some ⟨code, .activeUnacked, e.first, s.clock,
        min (e.occurrences + 1) 255⟩) s.clock .active = .alarmChanged code (some e.state)
          (some .activeUnacked) (min (e.occurrences + 1) 255) e.first s.clock .active from rfl, state] at act
      exact act
    · have other : some ({ e with state := .returnedUnacked, last := s.clock } : AlarmEntry) ≠ some e :=
        fun same => by
          have := congrArg AlarmEntry.state (Option.some.inj same)
          exact absurd (this.trans state) nofun
      have act := goes flag (if_neg (by rw [off]; exact nofun)) standing
        ((returned off standing).trans (returnedEntry_unacked state)) other (putEntry_standing standing _)
      rw [show changeReport code (some e) (some { e with state := .returnedUnacked, last := s.clock })
        s.clock .returned = .alarmChanged code (some e.state) (some .returnedUnacked) e.occurrences e.first
          s.clock .returned from rfl, state] at act
      exact act
    · have act := goes flag (if_neg (by rw [off]; exact nofun)) standing
        ((returned off standing).trans (returnedEntry_acked state)) nofun rfl
      rw [show changeReport code (some e) none s.clock .returned = .alarmChanged code (some e.state) none
        e.occurrences e.first s.clock .returned from rfl, state] at act
      exact act
  · intro src s running i code es becomes
    let u := s.taken i
    have event : exec i s = _ := exec_momentaryRaise src s
    have goes {old new : Option AlarmEntry} (before : findEntry es code = old)
        (entry : momentaryEntry code s.clock old = new) (other : new ≠ old)
        {list : List AlarmEntry} (put : putEntry es code new = list) :
        becomes list (changeReport code old new s.clock .momentary) := by
      have act := raiseMomentary_eq (s := u) before entry other
      rw [show putEntry u.alarms.list src.code new = list from put] at act
      unfold entryGoes at act
      rw [tripReports_taken, tripNotices_taken, withAlarms_taken] at act
      exact event.trans (runEvent_entryOnly running act)
    refine ⟨fun absent => goes absent rfl nofun (putEntry_new absent _), fun e standing state => ?_⟩
    intro x
    refine ⟨fun other => ?_, fun same => ?_⟩
    · have act := goes standing (momentaryEntry_returned state) (fun same => other (Option.some.inj same))
        (putEntry_standing standing _)
      rw [show changeReport code (some e) (some x) s.clock .momentary = _ from
        congrArg (fun st => ReportBody.alarmChanged code (some st) (some st) x.occurrences e.first
          s.clock .momentary) state] at act
      exact act
    · have act := raiseMomentary_same (s := u) (src := src) standing
        ((momentaryEntry_returned state).trans (congrArg some same))
      exact event.trans (runEvent_entryOnly running act)

/-! ### Acknowledgements (R154) -/

theorem ackedEntry_some (now : DeckTime) (e : AlarmEntry) :
    ackedEntry now (some e) = acknowledged now e := by
  unfold ackedEntry acknowledged
  rfl

theorem acknowledged_source {now : DeckTime} {e x : AlarmEntry} (h : acknowledged now e = some x) :
    x.source = e.source := by
  unfold acknowledged at h
  split at h
  · exact Option.some.inj h ▸ rfl
  · exact absurd h nofun
  · exact Option.some.inj h ▸ rfl

/-- The report of the acknowledgement of an entry (R153; log entry 38). -/
def ackReport (now : DeckTime) (e : AlarmEntry) : Option Link × ReportBody :=
  toBoth (.alarmChanged e.source (some e.state) ((acknowledged now e).map (·.state)) e.occurrences
    e.first now .ack)

theorem acknowledged_acked {now : DeckTime} {e : AlarmEntry} (acked : e.state = .activeAcked) :
    acknowledged now e = some e := by
  unfold acknowledged
  rw [acked]

theorem acknowledged_changes {now : DeckTime} {e : AlarmEntry} (open' : e.state ≠ .activeAcked) :
    acknowledged now e ≠ some e ∧
      changeReport e.source (some e) (acknowledged now e) now .ack = (ackReport now e).2 := by
  have three : e.state = .activeUnacked ∨ e.state = .returnedUnacked := by
    cases state : e.state with
    | activeUnacked => exact Or.inl rfl
    | returnedUnacked => exact Or.inr rfl
    | activeAcked => exact absurd state open'
  rcases three with state | state
  · have gone : acknowledged now e = some { e with state := .activeAcked, last := now } := by
      unfold acknowledged
      rw [state]
    refine ⟨fun same => ?_, ?_⟩
    · have := congrArg AlarmEntry.state (Option.some.inj (gone.symm.trans same))
      exact absurd (this.trans state) nofun
    · unfold ackReport
      rw [gone]
      rfl
  · have gone : acknowledged now e = none := by
      unfold acknowledged
      rw [state]
    refine ⟨by rw [gone]; exact nofun, ?_⟩
    unfold ackReport
    rw [gone]
    rfl

section
variable {pre post : List AlarmEntry} {e : AlarmEntry}
  (distinct : ((pre ++ e :: post).map (·.source)).Nodup)
include distinct

theorem others_apart : ∀ x ∈ pre ++ post, x.source ≠ e.source := by
  rw [List.map_append, List.map_cons] at distinct
  have apart := (List.nodup_middle.1 distinct)
  rw [← List.map_append] at apart
  exact fun x listed same => (List.nodup_cons.1 apart).1 (same ▸ List.mem_map_of_mem listed)

theorem findEntry_middle : findEntry (pre ++ e :: post) e.source = some e := by
  have before : pre.find? (fun x => decide (x.source = e.source)) = none :=
    List.find?_eq_none.2 fun x listed => by
      simpa using others_apart distinct x (List.mem_append_left post listed)
  unfold findEntry
  rw [List.find?_append, before, Option.none_or, List.find?_cons_of_pos (by simp)]

theorem putEntry_middle (new : Option AlarmEntry) :
    putEntry (pre ++ e :: post) e.source new = pre ++ (new.toList ++ post) := by
  have apart := others_apart distinct
  cases new with
  | none =>
    have keeps (xs : List AlarmEntry) (h : ∀ x ∈ xs, x.source ≠ e.source) :
        (xs.filter fun x => decide (x.source ≠ e.source)) = xs :=
      List.filter_eq_self.2 fun x listed => decide_eq_true (h x listed)
    rw [putEntry_none, List.filter_append, List.filter_cons_of_neg (by simp),
      keeps pre fun x listed => apart x (List.mem_append_left post listed),
      keeps post fun x listed => apart x (List.mem_append_right pre listed)]
    rfl
  | some y =>
    have keeps (xs : List AlarmEntry) (h : ∀ x ∈ xs, x.source ≠ e.source) :
        (xs.map fun x => if x.source = e.source then y else x) = xs :=
      (List.map_congr_left fun x listed => if_neg (h x listed)).trans (List.map_id _)
    rw [putEntry_standing (findEntry_middle distinct)]
    unfold replaced
    rw [List.map_append, List.map_cons, if_pos rfl,
      keeps pre fun x listed => apart x (List.mem_append_left post listed),
      keeps post fun x listed => apart x (List.mem_append_right pre listed)]
    rfl

/-- One entry acknowledged, in its place in the list. -/
theorem ackEntry_middle {s : State} (list : s.alarms.list = pre ++ e :: post) :
    s.ackEntry e.source = alarmsGo s (if e.state ≠ .activeAcked then [ackReport s.clock e] else [])
      { s.alarms with list := pre ++ ((acknowledged s.clock e).toList ++ post) } s.handed := by
  have found : findEntry s.alarms.list e.source = some e := by
    rw [list]
    exact findEntry_middle distinct
  have put := putEntry_middle distinct (acknowledged s.clock e)
  unfold State.ackEntry
  rw [found, ackedEntry_some]
  by_cases acked : e.state = .activeAcked
  · have kept : pre ++ ((acknowledged s.clock e).toList ++ post) = s.alarms.list := by
      rw [acknowledged_acked acked, list]
      rfl
    rw [changeEntry_same ((acknowledged_acked acked).trans found.symm), if_neg (not_not.2 acked), kept]
    rfl
  · obtain ⟨other, report⟩ := acknowledged_changes (now := s.clock) acked
    rw [changeEntry_eq found other, if_pos acked, report, list, put]
    rfl

end

/-- The reports of the entries an acknowledgement changes. -/
def ackReports (now : DeckTime) (es : List AlarmEntry) : List (Option Link × ReportBody) :=
  (es.filter fun e => decide (e.state ≠ .activeAcked)).map (ackReport now)

theorem ackReports_cons (now : DeckTime) (e : AlarmEntry) (es : List AlarmEntry) :
    ackReports now (e :: es) =
      (if e.state ≠ .activeAcked then [ackReport now e] else []) ++ ackReports now es := by
  unfold ackReports
  by_cases open' : e.state ≠ .activeAcked
  · rw [List.filter_cons_of_pos (by simpa using open'), if_pos open']
    rfl
  · rw [List.filter_cons_of_neg (by simpa using open'), if_neg open']
    rfl

/-- Every entry of the end of the list acknowledged, one after the other. -/
theorem foldl_ackEntry (post pre : List AlarmEntry) (s : State) (list : s.alarms.list = pre ++ post)
    (distinct : ((pre ++ post).map (·.source)).Nodup) :
    (post.map (·.source)).foldl State.ackEntry s = alarmsGo s (ackReports s.clock post)
      { s.alarms with list := pre ++ post.filterMap (acknowledged s.clock) } s.handed := by
  induction post generalizing pre s with
  | nil =>
    rw [List.filterMap_nil, ← list]
    rfl
  | cons e post ih =>
    let next := pre ++ (acknowledged s.clock e).toList
    have step := ackEntry_middle distinct list
    have clock : (s.ackEntry e.source).clock = s.clock := by
      rw [step]
      exact says_clock s _
    have list' : (s.ackEntry e.source).alarms.list = next ++ post := by
      rw [step, List.append_assoc]
      rfl
    have distinct' : ((next ++ post).map (·.source)).Nodup := by
      refine distinct.sublist ?_
      rw [List.append_assoc, List.map_append, List.map_append, List.map_append, List.map_cons]
      refine (List.Sublist.refl _).append ?_
      cases gone : acknowledged s.clock e with
      | none => exact List.sublist_cons_self _ _
      | some x =>
        rw [← acknowledged_source gone]
        exact List.Sublist.refl _
    have filterMap : (e :: post).filterMap (acknowledged s.clock) =
        (acknowledged s.clock e).toList ++ post.filterMap (acknowledged s.clock) := by
      rw [List.filterMap_cons]
      cases acknowledged s.clock e <;> rfl
    have whole : pre ++ ((acknowledged s.clock e).toList ++ post.filterMap (acknowledged s.clock)) =
        next ++ post.filterMap (acknowledged s.clock) := (List.append_assoc _ _ _).symm
    rw [List.map_cons, List.foldl_cons, ih next _ list' distinct', clock, step, alarmsGo_alarmsGo,
      ackReports_cons, filterMap, whole]
    rfl

/-- Entries acknowledged that leave the list `new`, and the trip lines after them. -/
theorem ackEntries_eq {s : State} {codes : List (Fin 60)} {rs : List (Option Link × ReportBody)}
    {new : List AlarmEntry}
    (fold : codes.foldl State.ackEntry s = alarmsGo s rs { s.alarms with list := new } s.handed) :
    s.ackEntries codes = alarmsGo s (rs ++ s.tripReports new) (s.withAlarms new).alarms
      (s.handed ++ s.tripNotices new) := by
  unfold State.ackEntries
  rw [fold]
  exact evalLines_alarmsGo _ _ _

theorem answered_withAlarms (s : State) (l : Link) (tag : Byte) (i : Instr)
    (rs : List (Option Link × ReportBody)) (data : ReplyData) (es : List AlarmEntry) :
    (s.answered l tag i rs data).withAlarms es =
      { s.answered l tag i rs data with alarms := (s.withAlarms es).alarms } := by
  have self : ({ s.answered l tag i rs data with alarms := s.alarms } : State) = s.answered l tag i rs data :=
    congrArg (fun x => ({ s.answered l tag i rs data with alarms := x } : State))
      (answered_alarms s l tag i rs data).symm
  have after := withAlarms_eq (answered_settings s l tag i rs data) s.alarms es
  rw [self] at after
  exact after

/-- ALARM ACK (R154). -/
def acks (source : ℕ) (s : State) : State × ReplyData :=
  if source = 255 then
    done (s.ackEntries (s.alarms.list.map (·.source))) [byte (ackChanges s.alarms.list)]
  else match finOf? 60 source with
    | none => deny s .badField
    | some code =>
      match findEntry s.alarms.list code with
      | none => deny s .notFound
      | some e => done (s.ackEntries [code]) [byte (ackChanges [e])]

theorem exec_alarmAck (l : Link) (tag : Byte) (source : ℕ) (s : State) :
    exec (.alarmAck l tag source) s = runRequest (.alarmAck l tag source) l tag s (acks source) := rfl

theorem acks_code {s : State} (code : Fin 60) : acks code s = match findEntry s.alarms.list code with
    | none => deny s .notFound
    | some e => done (s.ackEntries [code]) [byte (ackChanges [e])] := by
  have small : ¬code.val = 255 := by omega
  unfold acks
  rw [if_neg small, finOf?_val]

theorem ackChanges_eq (es : List AlarmEntry) :
    ackChanges es = (es.filter fun e => decide (e.state ≠ .activeAcked)).length := by
  unfold ackChanges
  refine congrArg (fun p => (List.filter p es).length) (funext fun e => ?_)
  cases e.state <;> rfl

/-- A request that leaves the alarm list `new`. -/
theorem runRequest_acks {s : State} {l : Link} {tag : Byte} {n : ℕ} {rs : List (Option Link × ReportBody)}
    {new : List AlarmEntry} {data : ReplyData} (running : s.power = .running)
    (h : acks n (s.openRequest l (.alarmAck l tag n)) =
      (alarmsGo (s.openRequest l (.alarmAck l tag n)) (rs ++ s.tripReports new) (s.withAlarms new).alarms
        (s.handed ++ s.tripNotices new), data)) :
    exec (.alarmAck l tag n) s = .next
      { (s.answered l tag (.alarmAck l tag n) (rs ++ s.tripReports new) data).withAlarms new with
        handed := s.handed ++ s.tripNotices new } := by
  rw [exec_alarmAck, runRequest_alarmsGo running h, answered_withAlarms]

/-- Settles O43. -/
theorem alarmAckAcknowledges : Obligations.AlarmAckAcknowledges := by
  intro l tag s running distinct es acked
  refine ⟨?_, fun code standing => ?_, fun code absent => ?_, fun n above other => ?_⟩
  · let u := s.openRequest l (.alarmAck l tag 255)
    have fold := foldl_ackEntry es [] u rfl distinct
    have act : acks 255 u = (alarmsGo u (ackReports s.clock es ++ s.tripReports
        (es.filterMap (acknowledged s.clock))) (s.withAlarms (es.filterMap (acknowledged s.clock))).alarms
        (s.handed ++ s.tripNotices (es.filterMap (acknowledged s.clock))),
        .done [byte (ackChanges es)]) :=
      congrArg (·, ReplyData.done [byte (ackChanges es)]) (ackEntries_eq fold)
    have result := runRequest_acks running act
    rw [ackChanges_eq] at result
    exact result
  · obtain ⟨e, listed, rfl⟩ := standing
    obtain ⟨pre, post, split⟩ := List.append_of_mem listed
    let u := s.openRequest l (.alarmAck l tag e.source)
    have distinct' : ((pre ++ e :: post).map (·.source)).Nodup := by
      rw [← split]
      exact distinct
    have apart := others_apart distinct'
    have fold : [e.source].foldl State.ackEntry u = _ := ackEntry_middle distinct' (s := u) split
    let picks : AlarmEntry → Bool := fun x => decide (x.source = e.source)
    have unpicked (xs : List AlarmEntry) (h : ∀ x ∈ xs, x.source ≠ e.source) :
        (xs.filterMap fun x => if picks x then acknowledged s.clock x else some x) = xs := by
      have same : (xs.filterMap fun x => if picks x then acknowledged s.clock x else some x) =
          xs.filterMap some :=
        List.filterMap_congr fun x listed => if_neg (by simpa [picks] using h x listed)
      rw [same, List.filterMap_some]
    have new : (es.filterMap fun x => if picks x then acknowledged s.clock x else some x) =
        pre ++ ((acknowledged s.clock e).toList ++ post) := by
      have own : (if picks e then acknowledged s.clock e else some e) = acknowledged s.clock e :=
        if_pos (by simp [picks])
      rw [split, List.filterMap_append, List.filterMap_cons, own,
        unpicked pre fun x listed => apart x (List.mem_append_left post listed),
        unpicked post fun x listed => apart x (List.mem_append_right pre listed)]
      cases acknowledged s.clock e <;> rfl
    have changed : (es.filter fun x => picks x && decide (x.state ≠ .activeAcked)) =
        [e].filter fun x => decide (x.state ≠ .activeAcked) := by
      have none' (xs : List AlarmEntry) (h : ∀ x ∈ xs, x.source ≠ e.source) :
          (xs.filter fun x => picks x && decide (x.state ≠ .activeAcked)) = [] :=
        List.filter_eq_nil_iff.2 fun x listed => by simp [picks, h x listed]
      rw [split, List.filter_append, List.filter_cons,
        none' pre fun x listed => apart x (List.mem_append_left post listed),
        none' post fun x listed => apart x (List.mem_append_right pre listed)]
      simp [picks, List.filter_cons]
    have reports : (if e.state ≠ .activeAcked then [ackReport u.clock e] else []) =
        (es.filter fun x => picks x && decide (x.state ≠ .activeAcked)).map (ackReport s.clock) := by
      rw [changed]
      by_cases open' : e.state ≠ .activeAcked <;> simp [open', u]
    have found : findEntry u.alarms.list e.source = some e := by
      rw [show u.alarms.list = _ from split]
      exact findEntry_middle distinct'
    have act : acks e.source u = (u.ackEntries [e.source], .done [byte (ackChanges [e])]) := by
      rw [acks_code, found] <;> rfl
    rw [ackEntries_eq fold, reports, ackChanges_eq, ← changed] at act
    have result := runRequest_acks running act
    rw [show u.clock = s.clock from rfl, ← new] at result
    exact result
  · have none' : findEntry s.alarms.list code = none :=
      (findEntry_isNone_iff _ _).2 fun listed => by
        obtain ⟨e, member, source⟩ := List.mem_map.1 listed
        exact absent e member source
    have act : acks code (s.openRequest l (.alarmAck l tag code)) =
        deny (s.openRequest l (.alarmAck l tag code)) .notFound := by
      rw [acks_code, show findEntry (s.openRequest l (.alarmAck l tag code)).alarms.list code = none from none']
    exact (exec_alarmAck l tag code s).trans (runRequest_refused running act)
  · have act : acks n (s.openRequest l (.alarmAck l tag n)) =
        deny (s.openRequest l (.alarmAck l tag n)) .badField := by
      unfold acks
      rw [if_neg other, finOf?_eq_none.2 above]
    exact (exec_alarmAck l tag n s).trans (runRequest_refused running act)

end Sys2Proof.Proofs
end

section
/-! SUPPORT. The link controllers (10): the receiver, supervision, restarts and the report selection. -/

open Sys2Proof Sys2Proof.Machine

namespace Sys2Proof.Proofs

/-! ### One link's record and counters -/

theorem modLink_eq (s : State) (l : Link) (f : LinkController → LinkController) :
    s.modLink l f = s.withLink l (f (s.links.get l)) (s.counters.links.get l) := by
  unfold State.withLink
  rw [pair_set_get]
  rfl

theorem countLink_eq (s : State) (l : Link) (f : LinkCounters → LinkCounters) :
    s.countLink l f = s.withLink l (s.links.get l) (f (s.counters.links.get l)) := by
  unfold State.withLink
  rw [pair_set_get]
  rfl

section
variable (s : State) (l : Link) (c d : LinkController) (k n : LinkCounters)

@[simp] theorem withLink_links_get : (s.withLink l c k).links.get l = c := pair_get_set_self _ _ _

@[simp] theorem withLink_counters_get : (s.withLink l c k).counters.links.get l = k := pair_get_set_self _ _ _

@[simp] theorem withLink_withLink : (s.withLink l c k).withLink l d n = s.withLink l d n := by
  unfold State.withLink
  dsimp only
  rw [pair_set_set, pair_set_set]

theorem modLink_withLink (f : LinkController → LinkController) :
    (s.withLink l c k).modLink l f = s.withLink l (f c) k := by
  rw [modLink_eq, withLink_links_get, withLink_counters_get, withLink_withLink]

theorem countLink_withLink (f : LinkCounters → LinkCounters) :
    (s.withLink l c k).countLink l f = s.withLink l c (f k) := by
  rw [countLink_eq, withLink_links_get, withLink_counters_get, withLink_withLink]

end

theorem runEvent_withLink {s : State} {i : Instr} {l : Link} {f : State → State} {c : LinkController}
    {k : LinkCounters} (running : s.power = .running) (h : f (s.taken i) = (s.taken i).withLink l c k) :
    runEvent i s f = .next ((s.taken i).withLink l c k).pump := by
  rw [runEvent_of_running running, h]

/-! ### The receiver (R165) -/

/-- BYTE_RECEIVED, its notice taken. -/
def receives (l : Link) (b : Byte) (s : State) : State :=
  match (s.links.get l).receiver with
  | .hunt =>
    if b = 0xC3 then s.modLink l fun c => { c with receiver := .length, assembly := some [] } else s
  | .length =>
    if 2 ≤ b.toNat ∧ b.toNat ≤ 250 then
      s.modLink l fun c => { c with receiver := .body, assembly := some [b] }
    else s.discardFrame l
  | .body => s.bodyByte l (((s.links.get l).assembly.getD []) ++ [b])

/-- FRAME_DISCARD, its notice taken. -/
def discards (l : Link) (cause : DiscardCause) (s : State) : State :=
  match (s.links.get l).receiver, cause with
  | .length, _ => s.discardFrame l
  | .body, .missingStop => s.discardFrame l
  | .body, .badLength => s
  | .hunt, _ => s

/-- GAP_ABORT, its notice taken. -/
def aborts (l : Link) (s : State) : State :=
  if (s.links.get l).receiver = .hunt then s
  else (s.modLink l (·.hunt)).countLink l fun k => { k with gap := saturate k.gap }

theorem exec_byteReceived (l : Link) (b : Byte) (s : State) :
    exec (.byteReceived l b) s = runEvent (.byteReceived l b) s (receives l b) := rfl

theorem exec_frameDiscard (l : Link) (cause : DiscardCause) (s : State) :
    exec (.frameDiscard l cause) s = runEvent (.frameDiscard l cause) s (discards l cause) := rfl

theorem exec_gapAbort (l : Link) (s : State) :
    exec (.gapAbort l) s = runEvent (.gapAbort l) s (aborts l) := rfl

theorem discardFrame_eq (s : State) (l : Link) : s.discardFrame l =
    s.withLink l (s.links.get l).hunt
      { s.counters.links.get l with crc := saturate (s.counters.links.get l).crc } := by
  unfold State.discardFrame State.countCrc
  rw [modLink_eq, countLink_withLink]

section
variable {u : State} {l : Link} {b : Byte}

theorem receives_hunt (hunt : (u.links.get l).receiver = .hunt) : receives l b u =
    if b = 0xC3 then u.modLink l fun c => { c with receiver := .length, assembly := some [] } else u := by
  unfold receives
  rw [hunt]

theorem receives_length (length : (u.links.get l).receiver = .length) : receives l b u =
    if 2 ≤ b.toNat ∧ b.toNat ≤ 250 then
      u.modLink l fun c => { c with receiver := .body, assembly := some [b] }
    else u.discardFrame l := by
  unfold receives
  rw [length]

theorem receives_body (body : (u.links.get l).receiver = .body) {bs : List Byte}
    (assembly : (u.links.get l).assembly = some bs) : receives l b u = u.bodyByte l (bs ++ [b]) := by
  unfold receives
  rw [body, assembly]
  rfl

theorem discards_missingStop (busy : (u.links.get l).receiver ≠ .hunt) :
    discards l .missingStop u = u.discardFrame l := by
  unfold discards
  cases state : (u.links.get l).receiver with
  | hunt => exact absurd state busy
  | length => rfl
  | body => rfl

theorem discards_length (length : (u.links.get l).receiver = .length) (cause : DiscardCause) :
    discards l cause u = u.discardFrame l := by
  unfold discards
  rw [length]

theorem discards_hunt (hunt : (u.links.get l).receiver = .hunt) (cause : DiscardCause) :
    discards l cause u = u := by
  unfold discards
  rw [hunt]

theorem aborts_busy (busy : (u.links.get l).receiver ≠ .hunt) : aborts l u =
    u.withLink l (u.links.get l).hunt
      { u.counters.links.get l with gap := saturate (u.counters.links.get l).gap } := by
  unfold aborts
  rw [if_neg busy, modLink_eq, countLink_withLink]

end

/-! ### A complete frame (R166, R169) -/

/-- Link `l` in HUNT with one good frame more counted. -/
def frameSeen (l : Link) (h : Heard) : Heard :=
  (h.1.set l (h.1.get l).hunt, h.2.set l { h.2.get l with good := saturate (h.2.get l).good })

theorem hearOn_frameSeen (now : DeckTime) (l m : Link) (h : Heard) (b : ReportBody) :
    hearOn now (frameSeen l h) m b = frameSeen l (hearOn now h m b) := by
  cases l <;> cases m <;> rfl

theorem hear_frameSeen (now : DeckTime) (l : Link) (h : Heard) (r : Option Link × ReportBody) :
    hear now (frameSeen l h) r = frameSeen l (hear now h r) := by
  unfold hear
  cases r.1 with
  | some m => exact hearOn_frameSeen now l m h r.2
  | none =>
    dsimp only
    rw [hearOn_frameSeen, hearOn_frameSeen]

theorem hearAll_frameSeen (now : DeckTime) (l : Link) (rs : List (Option Link × ReportBody)) (h : Heard) :
    hearAll now (frameSeen l h) rs = frameSeen l (hearAll now h rs) := by
  unfold hearAll
  induction rs generalizing h with
  | nil => rfl
  | cons r rs ih => rw [List.foldl_cons, List.foldl_cons, hear_frameSeen, ih]

/-- Link `l` has seen a good frame. -/
def seesFrame (s : State) (l : Link) : State := hearing s (frameSeen l (heardBy s))

theorem seesFrame_eq (s : State) (l : Link) : seesFrame s l =
    s.withLink l (s.links.get l).hunt
      { s.counters.links.get l with good := saturate (s.counters.links.get l).good } := rfl

theorem says_seesFrame (s : State) (l : Link) (rs : List (Option Link × ReportBody)) :
    (seesFrame s l).says rs = seesFrame (s.says rs) l := by
  have heard := hearAll_frameSeen s.clock l rs (heardBy s)
  rw [says_eq, says_eq s]
  unfold seesFrame
  rw [heardBy_hearing, hearing_hearing, hearing_clock, heard, heardBy_hearing, hearing_hearing]

theorem linkGone_seesFrame (s : State) (l m : Link) :
    (seesFrame s l).linkGone m = seesFrame (s.linkGone m) l := by
  have reports := says_seesFrame s l ((List.finRange 4).flatMap fun a => s.station.auth[a].lossReports a m)
  unfold State.linkGone
  rw [show (seesFrame s l).station = s.station from rfl, reports]
  rfl

/-- The state a frame is judged in: a loss of its link still on its way is taken (log entry 2). -/
def lossTaken (s : State) (l : Link) : State :=
  if .stationLinkLoss l ∈ s.handed then (s.taken (.stationLinkLoss l)).linkGone l else s

theorem endLoss_seesFrame (s : State) (l : Link) : (seesFrame s l).endLoss l = seesFrame (lossTaken s l) l := by
  unfold lossTaken
  by_cases lost : .stationLinkLoss l ∈ s.handed
  · rw [endLoss_of_mem (s := seesFrame s l) lost, if_pos lost, loseLink_eq, ← linkGone_seesFrame]
    rfl
  · rw [endLoss_of_none (s := seesFrame s l) lost, if_neg lost]

theorem hearOn_state (now : DeckTime) (l m : Link) (h : Heard) (b : ReportBody) :
    ((hearOn now h m b).1.get l).state = (h.1.get l).state := by
  cases l <;> cases m <;> rfl

theorem hearAll_state (now : DeckTime) (l : Link) (rs : List (Option Link × ReportBody)) (h : Heard) :
    ((hearAll now h rs).1.get l).state = (h.1.get l).state := by
  have one (h : Heard) (r : Option Link × ReportBody) :
      ((hear now h r).1.get l).state = (h.1.get l).state := by
    unfold hear
    cases r.1 with
    | some m => exact hearOn_state now l m h r.2
    | none => exact (hearOn_state now l _ _ _).trans (hearOn_state now l _ _ _)
  unfold hearAll
  induction rs generalizing h with
  | nil => rfl
  | cons r rs ih => rw [List.foldl_cons, ih, one]

theorem lossTaken_state (s : State) (l : Link) :
    ((lossTaken s l).links.get l).state = (s.links.get l).state := by
  unfold lossTaken
  split
  · unfold State.linkGone
    rw [says_eq]
    exact hearAll_state _ l _ _
  · rfl

theorem lossTaken_settings (s : State) (l : Link) : (lossTaken s l).settings = s.settings := by
  unfold lossTaken
  split
  · exact says_settings _ _
  · rfl

/-- `base` with the good frame `f` received on link `l` (R166, R169). -/
def goodIn (base : State) (l : Link) (f : Frame) : State :=
  let c := base.links.get l
  let k := base.counters.links.get l
  { base.withLink l
      { c with
        receiver := .hunt
        assembly := none
        state := .up
        timer := some (base.settings.supervision.get l)
        waiting := if c.waiting = none then some f else c.waiting }
      { k with
        good := min (k.good + 1) 4294967295
        overrun := if c.waiting = none then k.overrun else min (k.overrun + 1) 4294967295 } with
    handed := base.handed ++
      (if c.state = .lost then [.alarmSourceChange (.linkLost l) false] else []) }

theorem goodIn_state (base : State) (l : Link) (f : Frame) : ((goodIn base l f).links.get l).state = .up := by
  cases l <;> rfl

theorem frameIn_good {s : State} {l : Link} {f : Frame} {crc : BitVec 16} (good : Frame.crc f = crc) :
    s.frameIn l f crc = goodIn (lossTaken s l) l f := by
  have base : (if crc16 (byte (f.payload.length + 2) :: f.kind :: f.tag :: f.payload) = crc ∧
      .stationLinkLoss l ∈ s.handed then (s.taken (.stationLinkLoss l)).linkGone l else s) =
      lossTaken s l := by
    unfold lossTaken
    by_cases lost : .stationLinkLoss l ∈ s.handed
    · rw [if_pos lost]
      exact if_pos ⟨good, lost⟩
    · rw [if_neg lost]
      exact if_neg fun both => lost both.2
  rw [← base]
  exact if_neg (not_not.2 good)

theorem frameIn_bad {s : State} {l : Link} {f : Frame} {crc : BitVec 16} (bad : Frame.crc f ≠ crc) :
    s.frameIn l f crc = s.withLink l (s.links.get l).hunt
      { s.counters.links.get l with crc := saturate (s.counters.links.get l).crc } := by
  have base : (if crc16 (byte (f.payload.length + 2) :: f.kind :: f.tag :: f.payload) = crc ∧
      .stationLinkLoss l ∈ s.handed then (s.taken (.stationLinkLoss l)).linkGone l else s) = s :=
    if_neg fun ⟨good, _⟩ => bad good
  conv_rhs => rw [← base]
  exact if_pos bad

theorem acceptFrame_withLink (s : State) (l : Link) (c : LinkController) (k : LinkCounters) (f : Frame) :
    (s.withLink l c k).acceptFrame l f = s.withLink l
      { c with waiting := if c.waiting = none then some f else c.waiting }
      { k with overrun := if c.waiting = none then k.overrun else saturate k.overrun } := by
  unfold State.acceptFrame
  rw [withLink_links_get]
  by_cases free : c.waiting = none
  · rw [if_pos free, modLink_withLink, if_pos free, if_pos free]
  · rw [if_neg free, countLink_withLink, if_neg free, if_neg free]

theorem acceptFrame_hand (s : State) (l : Link) (f : Frame) (hs : List Instr) :
    (s.hand hs).acceptFrame l f = (s.acceptFrame l f).hand hs := by
  unfold State.acceptFrame
  split
  · rename_i free
    exact (if_pos (show (s.links.get l).waiting = none from free)).symm ▸ rfl
  · rename_i busy
    exact (if_neg (show ¬(s.links.get l).waiting = none from busy)).symm ▸ rfl

/-- A complete frame is judged by its CRC (R166). -/
theorem completeFrame_eq (s : State) (l : Link) (f : Frame) (crc : BitVec 16) :
    s.completeFrame l f crc = s.frameIn l f crc := by
  by_cases good : Frame.crc f = crc
  · have seen : ((s.modLink l (·.hunt)).countLink l fun k => { k with good := saturate k.good }) =
        seesFrame s l := by rw [modLink_eq, countLink_withLink]; rfl
    have state : ((seesFrame s l).links.get l).state = ((lossTaken s l).links.get l).state := by
      rw [lossTaken_state, seesFrame_eq, withLink_links_get]
      rfl
    have settings : (seesFrame s l).settings = (lossTaken s l).settings := (lossTaken_settings s l).symm
    rw [frameIn_good good]
    refine (if_pos good).trans ?_
    rw [seen]
    unfold State.supervise
    dsimp only
    rw [state, settings, endLoss_seesFrame, seesFrame_eq, modLink_withLink]
    unfold goodIn
    dsimp only
    split
    · rw [acceptFrame_hand, acceptFrame_withLink]
      rfl
    · rw [acceptFrame_withLink, List.append_nil]
      rfl
  · rw [frameIn_bad good]
    refine (if_neg good).trans ?_
    unfold State.countCrc
    rw [modLink_eq, countLink_withLink]

theorem bodyByte_more {s : State} {l : Link} {bs : List Byte} (more : bs.length < fieldByte bs 0 + 3) :
    s.bodyByte l bs = s.modLink l fun c => { c with assembly := some bs } := if_pos more

theorem bodyByte_last {s : State} {l : Link} {bs : List Byte} (last : ¬bs.length < fieldByte bs 0 + 3) :
    s.bodyByte l bs = s.completeFrame l (frameOf bs).1 (frameOf bs).2 := if_neg last

theorem fieldByte_append {bs : List Byte} (some' : bs ≠ []) (b : Byte) :
    fieldByte (bs ++ [b]) 0 = (bs.headD 0).toNat := by
  cases bs with
  | nil => exact absurd rfl some'
  | cons x xs => rfl

/-- The frame that the bytes from LENGTH to the second byte of the CRC spell (10.1). -/
theorem frameOf_bytes (n kind tag hi b : Byte) (payload : List Byte) :
    frameOf (n :: kind :: tag :: (payload ++ [hi]) ++ [b]) = (⟨kind, tag, payload⟩, hi ++ b) := by
  have bytes : n :: kind :: tag :: (payload ++ [hi]) ++ [b] = n :: kind :: tag :: (payload ++ [hi, b]) := by
    simp
  have length : (n :: kind :: tag :: (payload ++ [hi, b])).length = payload.length + 5 := by simp
  have word : fieldWord (n :: kind :: tag :: (payload ++ [hi, b])) (payload.length + 3) =
      hi.toNat * 256 + b.toNat := by
    unfold fieldWord fieldByte
    simp
  unfold frameOf
  rw [bytes, length, show payload.length + 5 - 2 = payload.length + 3 by omega, word]
  refine Prod.ext ?_ ?_
  · simp
  · refine BitVec.eq_of_toNat_eq ?_
    rw [BitVec.toNat_append]
    have small := hi.isLt
    have small' := b.isLt
    simp only [BitVec.toNat_ofNat]
    rw [← Nat.shiftLeft_add_eq_or_of_lt small', Nat.shiftLeft_eq]
    omega

theorem transmit_state (c : LinkController) : c.transmit.state = c.state := by
  unfold LinkController.transmit
  split
  · rfl
  · rfl
  · split
    · rfl
    · split <;> rfl

theorem pump_links_get (s : State) (l : Link) : s.pump.links.get l = (s.links.get l).transmit := by
  cases l <;> rfl

/-- What the loss of link `l` leaves of an authority record (R75, R76). -/
theorem afterLoss_spec (x : Authority) (l : Link) :
    (x.afterLoss l).holder = (if x.holder = some l then x.request.map (·.requester) else x.holder) ∧
      ((x.afterLoss l).request = none ∨ x.holder = none ∨
        (x.holder ≠ some l ∧ (x.afterLoss l).request = x.request ∧
          ∀ r, (x.afterLoss l).request = some r → r.requester ≠ l)) := by
  obtain ⟨holder, request⟩ := x
  unfold Authority.afterLoss
  cases holder with
  | none => exact ⟨rfl, Or.inr (Or.inl rfl)⟩
  | some h =>
    by_cases own : h = l
    · subst own
      cases request <;> simp
    · cases request with
      | none => simp [own]
      | some r => by_cases asks : r.requester = l <;> simp [own, asks]

/-- Settles O45. -/
theorem receiverAssemblesAndJudgesFrames : Obligations.ReceiverAssemblesAndJudgesFrames := by
  refine ⟨?_, ?_⟩
  · intro l b s running c k hunts i becomes discarded stands
    have byte' : exec i s = _ := exec_byteReceived l b s
    have modded {f : LinkController → LinkController} (h : receives l b (s.taken i) = (s.taken i).modLink l f) :
        becomes i (f c) k := byte'.trans (runEvent_withLink running (h.trans (modLink_eq _ _ _)))
    have stay (h : receives l b (s.taken i) = s.taken i) : stands i := byte'.trans (runEvent_stays running h)
    refine ⟨fun hunt sync => ?_, fun hunt other => ?_, fun length low high => ?_, fun length bad => ?_,
      fun body bs assembly more some' => ?_, fun hunt => ⟨?_, ?_⟩, fun busy => ⟨?_, ?_⟩, fun length => ?_⟩
    · exact modded ((receives_hunt (u := s.taken i) hunt).trans (if_pos sync))
    · exact stay ((receives_hunt (u := s.taken i) hunt).trans (if_neg other))
    · exact modded ((receives_length (u := s.taken i) length).trans (if_pos ⟨low, high⟩))
    · exact byte'.trans (runEvent_withLink running ((receives_length (u := s.taken i) length).trans
        ((if_neg (by omega)).trans (discardFrame_eq _ _))))
    · have shorter : (bs ++ [b]).length < fieldByte (bs ++ [b]) 0 + 3 := by
        rw [fieldByte_append some', List.length_append]
        exact more
      exact modded ((receives_body (u := s.taken i) body assembly).trans (bodyByte_more shorter))
    · exact (exec_gapAbort l s).trans (runEvent_stays running (if_pos hunt))
    · exact (exec_frameDiscard l _ s).trans (runEvent_stays running
        (discards_hunt (u := s.taken (.frameDiscard l .missingStop)) hunt _))
    · exact (exec_gapAbort l s).trans (runEvent_withLink running
        (aborts_busy (u := s.taken (.gapAbort l)) busy))
    · exact (exec_frameDiscard l _ s).trans (runEvent_withLink running
        ((discards_missingStop (u := s.taken (.frameDiscard l .missingStop)) busy).trans
          (discardFrame_eq _ _)))
    · exact (exec_frameDiscard l _ s).trans (runEvent_withLink running
        ((discards_length (u := s.taken (.frameDiscard l .badLength)) length _).trans
          (discardFrame_eq _ _)))
  · intro l kind tag payload s running f
    have complete (crc : BitVec 16) : exec (.frameComplete l kind tag payload crc) s =
        .next ((s.taken (.frameComplete l kind tag payload crc)).frameIn l f crc).pump := by
      have act : exec (.frameComplete l kind tag payload crc) s =
          runEvent (.frameComplete l kind tag payload crc) s (·.completeFrame l f crc) := rfl
      rw [act, runEvent_of_running running, completeFrame_eq]
    refine ⟨complete, fun n hi b body assembly length => ?_, fun lost => ?_⟩
    · intro i
      have last : ¬(n :: kind :: tag :: (payload ++ [hi]) ++ [b]).length <
          fieldByte (n :: kind :: tag :: (payload ++ [hi]) ++ [b]) 0 + 3 := by
        rw [fieldByte_append (bs := n :: kind :: tag :: (payload ++ [hi])) nofun]
        simp only [List.length_append, List.length_cons, List.length_nil, List.headD_cons]
        omega
      have act : receives l b (s.taken i) = (s.taken i).frameIn l f (hi ++ b) := by
        rw [receives_body (u := s.taken i) body assembly, bodyByte_last last, frameOf_bytes,
          completeFrame_eq]
      rw [exec_byteReceived, runEvent_of_running running, act]
    · intro crc
      let i := Instr.frameComplete l kind tag payload crc
      have other : Instr.stationLinkLoss l ≠ .frameComplete l kind tag payload crc := nofun
      have way : .stationLinkLoss l ∈ (s.taken i).handed := (List.mem_erase_of_ne other).2 lost
      have base : lossTaken (s.taken i) l = ((s.taken i).taken (.stationLinkLoss l)).linkGone l := if_pos way
      have good : (s.taken i).frameIn l f crc = goodIn (lossTaken (s.taken i) l) l f :=
        frameIn_good (s := s.taken i) (l := l) (f := f) rfl
      have auth (a : Fin 4) : ((s.taken i).frameIn l f crc).pump.station.auth[a] =
          s.station.auth[a].afterLoss l := by
        rw [good, base]
        exact Vector.getElem_ofFn a.isLt
      refine ⟨_, complete crc, ?_, fun a => ?_⟩
      · rw [good, pump_links_get, transmit_state, goodIn_state]
      · obtain ⟨holder, request⟩ := afterLoss_spec s.station.auth[a] l
        unfold State.holder
        rw [auth a]
        exact ⟨holder, request⟩

/-! ### Restarts, losses and the report selection (R169, R171 to R173) -/

theorem restarted_eq (c : LinkController) (l : Link) : c.restarted l = c.cleared l := by
  cases l <;> rfl

/-- A restart of a link (R173). -/
theorem restartLink_eq (s : State) (l : Link) : s.restartLink l =
    { s.linkRestarted l with handed := s.handed ++ s.restartNotices l } := by
  have clear : s.modLink l (·.restarted l) =
      { s with links := s.links.set l ((s.links.get l).cleared l) } := by
    rw [← restarted_eq]
    rfl
  have source (x : State) : (if (s.links.get l).state = .lost then
      x.hand [.alarmSourceChange (.linkLost l) false] else x) =
      x.hand (if (s.links.get l).state = .lost then [.alarmSourceChange (.linkLost l) false] else []) := by
    split
    · rfl
    · unfold State.hand
      rw [List.append_nil]
  unfold State.restartLink
  dsimp only
  rw [source, dropLevel_eq, clear]
  unfold stationGoes State.linkRestarted State.restartNotices
  dsimp only
  rw [says_eq, says_eq, ← List.append_assoc]
  rfl

theorem restartNotices_openRequest (s : State) (l : Link) (i : Instr) :
    (s.openRequest l i).restartNotices l = s.restartNotices l := by
  have state : ((s.openRequest l i).links.get l).state = (s.links.get l).state := by
    have free (c : LinkController) : c.freeSlot.state = c.state := by
      unfold LinkController.freeSlot
      cases c.slot <;> rfl
    refine (congrArg LinkController.state (pair_get_set_self _ _ _)).trans ?_
    exact free _
  unfold State.restartNotices
  rw [state]
  rfl

/-- LINK_LOST, its notice taken (R169). -/
def losesLink (l : Link) (s : State) : State :=
  let c := s.links.get l
  if c.timer = none then s
  else if c.state = .up then
    (s.modLink l fun c => { c with state := .lost, timer := none }).hand
      [.alarmSourceChange (.linkLost l) true, .stationLinkLoss l]
  else s.modLink l fun c => { c with timer := none }

/-- REPORT SELECT (R172). -/
def selects (l : Link) (flags : Vector ℕ 7) (s : State) : State × ReplyData :=
  match flagsTaken flags with
  | none => deny s .badField
  | some sel => done (s.modLink l fun c => { c with selection := sel }) [bitsByte sel.toList]

theorem exec_reportSelect (l : Link) (tag : Byte) (flags : Vector ℕ 7) (s : State) :
    exec (.reportSelect l tag flags) s = runRequest (.reportSelect l tag flags) l tag s (selects l flags) :=
  rfl

/-- The report selection of a link plays no part in what its transmitter begins or in a reply placed. -/
def selecting (sel : Vector Bool 7) (c : LinkController) : LinkController := { c with selection := sel }

theorem transmit_selecting (sel : Vector Bool 7) (c : LinkController) :
    (selecting sel c).transmit = selecting sel c.transmit := by
  unfold LinkController.transmit selecting
  dsimp only
  split
  · rfl
  · rfl
  · split
    · rfl
    · split <;> rfl

theorem pump_selecting (s : State) (l : Link) (sel : Vector Bool 7) :
    (s.modLink l (selecting sel)).pump = s.pump.modLink l (selecting sel) := by
  have same := transmit_selecting sel
  unfold State.pump State.modLink
  cases l
  · exact congrArg (fun c => ({ s with links := ⟨c, s.links.localLink.transmit⟩ } : State)) (same _)
  · exact congrArg (fun c => ({ s with links := ⟨s.links.bridge.transmit, c⟩ } : State)) (same _)

theorem placeReply_selecting (s : State) (l : Link) (r : Reply) (sel : Vector Bool 7) :
    (s.modLink l (selecting sel)).placeReply l r = (s.placeReply l r).modLink l (selecting sel) := by
  cases l <;> rfl

theorem flagsTaken_undefined {m : ℕ} {flags : Vector ℕ m} (bad : ∃ n : Fin m, 1 < flags[n]) :
    flagsTaken flags = none := by
  obtain ⟨n, high⟩ := bad
  refine if_neg fun all => ?_
  have defined := List.all_eq_true.1 all flags[n] (Vector.mem_toList_iff.2 (Vector.getElem_mem n.isLt))
  rw [boolOfCode_eq_none high] at defined
  exact absurd defined nofun

theorem flagsTaken_defined {m : ℕ} {flags : Vector ℕ m} (good : ∀ n : Fin m, flags[n] ≤ 1) :
    flagsTaken flags = some (Vector.ofFn fun n => decide (flags[n] = 1)) := by
  refine if_pos (List.all_eq_true.2 fun x listed => ?_)
  obtain ⟨n, small, at'⟩ := Vector.mem_iff_getElem.1 (Vector.mem_toList_iff.1 listed)
  have le : x ≤ 1 := by
    rw [← at']
    exact good ⟨n, small⟩
  interval_cases x <;> rfl

/-- Settles O46. -/
theorem linkEventsAndRequests : Obligations.LinkEventsAndRequests := by
  intro l tag s running c
  refine ⟨?_, ?_, ?_, ?_, fun flags => ?_⟩
  · intro i
    refine ⟨fun none' => runEvent_stays (f := losesLink l) running (if_pos none'), fun some' up => ?_⟩
    have act : losesLink l (s.taken i) =
        ((s.taken i).withLink l { c with state := .lost, timer := none } (s.counters.links.get l)).hand
          [.alarmSourceChange (.linkLost l) true, .stationLinkLoss l] :=
      (if_neg some').trans ((if_pos up).trans (congrArg (State.hand · _) (modLink_eq _ _ _)))
    refine (runEvent_of_running (f := losesLink l) running).trans ?_
    rw [act]
    rfl
  · intro i
    refine (runEvent_of_running (f := (·.restartLink l)) running).trans ?_
    dsimp only
    rw [restartLink_eq]
    rfl
  · intro i
    refine (runRequest_of_running (f := fun s => done (s.restartLink l) []) running).trans ?_
    rw [restartLink_eq, restartNotices_openRequest]
    rfl
  · intro i
    exact runEvent_withLink (f := (·.modLink l fun c => { c with line := none })) running (modLink_eq _ _ _)
  · intro i
    have request : exec i s = _ := exec_reportSelect l tag flags s
    refine ⟨fun bad => request.trans (runRequest_refused running ?_), fun good => ?_⟩
    · unfold selects
      rw [flagsTaken_undefined bad]
    · intro sel t
      have act : selects l flags (s.openRequest l i) =
          done ((s.openRequest l i).modLink l fun c => { c with selection := sel })
            [bitsByte sel.toList] := by
        unfold selects
        rw [flagsTaken_defined good]
      have reply := placeReply_selecting (s.openRequest l i) l ⟨i.kind, tag, .done [bitsByte sel.toList]⟩ sel
      have pump := pump_selecting
        ((s.openRequest l i).placeReply l ⟨i.kind, tag, .done [bitsByte sel.toList]⟩) l sel
      refine request.trans ((runRequest_of_running running).trans ?_)
      rw [act]
      exact congrArg Host.Outcome.next ((congrArg State.pump reply).trans pump)

end Sys2Proof.Proofs
end

section
/-! SUPPORT. The settings store, the counters, the clock and the identity (11). -/

open Sys2Proof Sys2Proof.Machine

namespace Sys2Proof.Proofs

/-! ### Storing (R178) -/

/-- STORE SETTINGS (R178). -/
def stores (l : Link) (s : State) : State × ReplyData :=
  if !s.atService l then deny s .level
  else if s.store.busy then deny s .busy
  else ({ s with store := { s.store with inFlight := some s.copyToStore } }, .accepted [])

theorem exec_storeSettings (l : Link) (tag : Byte) (s : State) :
    exec (.storeSettings l tag) s = runRequest (.storeSettings l tag) l tag s (stores l) := rfl

/-- STORE_COMPLETION, its notice taken (R178). -/
def storeCompletes (readBack : Option Image) (s : State) : State :=
  match s.store.inFlight with
  | none => s
  | some copy => s.endStore copy (readBack.getD copy)

theorem exec_storeCompletion (readBack : Option Image) (s : State) :
    exec (.storeCompletion readBack) s = runEvent (.storeCompletion readBack) s (storeCompletes readBack) := rfl

theorem not_busy_of_none {s : State} (free : s.store.inFlight = none) : ¬s.store.busy = true := fun busy =>
  absurd (busy.symm.trans (congrArg Option.isSome free)) nofun

theorem copyToStore_eq {s : State} (small : s.store.revision ≤ 65535) :
    s.copyToStore = ⟨s.settings, (s.store.revision + 1) % 65536, true⟩ := by
  have next : (if s.store.revision = 65535 then 0 else s.store.revision + 1) =
      (s.store.revision + 1) % 65536 := by
    split <;> omega
  unfold State.copyToStore
  rw [next]

theorem stores_eq {s : State} {l : Link} (service : s.station.level.get l = .service) : stores l s =
    if s.store.busy then deny s .busy
    else ({ s with store := { s.store with inFlight := some s.copyToStore } }, .accepted []) := by
  unfold stores
  rw [atService_of_service service]
  rfl

/-- An event that reports and leaves the store as `st`. -/
theorem runEvent_store {s : State} {i : Instr} {f : State → State} {st : Store} {b : ReportBody}
    (running : s.power = .running) (h : f (s.taken i) = { s.taken i with store := st }.report b) :
    runEvent i s f = .next { s.acted i [toBoth b] with store := st } := by
  rw [runEvent_of_running running, h, report_eq]
  unfold State.acted
  rw [says_eq]
  rfl

section
variable {s : State} {copy img : Image}

theorem endStore_done (same : img = copy) : s.endStore copy img =
    { s with store := ⟨copy, none, copy.revision, s.store.defaulted, false⟩ }.report
      (.storeResult true copy.revision) := by
  subst same
  exact if_pos rfl

theorem endStore_failed (other : img ≠ copy) : s.endStore copy img =
    { s with store := { s.store with image := img, inFlight := none } }.report
      (.storeResult false s.store.revision) := if_neg other

end

/-! ### Counters, clock and identity (R181, R182) -/

/-- READ COUNTERS (R181). -/
def readsCounters (group clear : ℕ) (s : State) : State × ReplyData :=
  match s.counters.groupBytes group, boolOfCode clear with
  | some bs, some c => done (if c then { s with counters := s.counters.cleared group } else s) bs
  | _, _ => deny s .badField

theorem exec_readCounters (l : Link) (tag : Byte) (group clear : ℕ) (s : State) :
    exec (.readCounters l tag group clear) s =
      runRequest (.readCounters l tag group clear) l tag s (readsCounters group clear) := rfl

section
variable {s : State} {l : Link} {tag : Byte} {group : ℕ} (running : s.power = .running)
include running

theorem exec_readCounters_read {bs : List Byte} (bytes : s.counters.groupBytes group = some bs) :
    exec (.readCounters l tag group 0) s =
      .next (s.answered l tag (.readCounters l tag group 0) [] (.done bs)) := by
  refine (exec_readCounters l tag group 0 s).trans (runRequest_answers running ?_)
  unfold readsCounters
  rw [show (s.openRequest l (.readCounters l tag group 0)).counters.groupBytes group = some bs from bytes]
  rfl

theorem exec_readCounters_clear {bs : List Byte} (bytes : s.counters.groupBytes group = some bs) :
    exec (.readCounters l tag group 1) s =
      .next { s.answered l tag (.readCounters l tag group 1) [] (.done bs) with
        counters := s.counters.cleared group } := by
  have act : readsCounters group 1 (s.openRequest l (.readCounters l tag group 1)) =
      done { s.openRequest l (.readCounters l tag group 1) with counters := s.counters.cleared group } bs := by
    unfold readsCounters
    rw [show (s.openRequest l (.readCounters l tag group 1)).counters.groupBytes group = some bs from bytes]
    rfl
  refine (exec_readCounters l tag group 1 s).trans ((runRequest_of_running running).trans ?_)
  rw [act]
  rfl

theorem exec_readCounters_refused {c : ℕ} (bad : 3 < group ∨ 1 < c) : exec (.readCounters l tag group c) s =
    .next (s.answered l tag (.readCounters l tag group c) [] (.refused .badField)) := by
  have act (u : State) : readsCounters group c u = deny u .badField := by
    unfold readsCounters
    rcases bad with unknown | undefined
    · obtain ⟨n, rfl⟩ : ∃ n, group = n + 4 := ⟨group - 4, by omega⟩
      rfl
    · rw [boolOfCode_eq_none undefined]
      cases u.counters.groupBytes group <;> rfl
  exact (exec_readCounters l tag group c s).trans (runRequest_refused running (act _))

end

theorem toList_eq_map {α : Type} {n : ℕ} (v : Vector α n) : v.toList = (List.finRange n).map fun k => v[k] := by
  refine List.ext_getElem (by simp) fun k h h' => ?_
  simp

/-- Settles O52. -/
theorem storeCountersClockAndIdentity : Obligations.StoreCountersClockAndIdentity := by
  refine ⟨⟨?_, ?_⟩, ?_⟩
  · intro l tag s running i refuses
    have request : exec i s = _ := exec_storeSettings l tag s
    refine ⟨fun operate => ?_, fun service busy => ?_, fun service free small => ?_⟩
    · have act : stores l (s.openRequest l i) = deny (s.openRequest l i) .level := by
        unfold stores
        rw [atService_of_operate (s := s.openRequest l i) operate]
        rfl
      exact request.trans (runRequest_refused running act)
    · exact request.trans (runRequest_refused running
        ((stores_eq (s := s.openRequest l i) service).trans (if_pos busy)))
    · have copy := copyToStore_eq (s := s.openRequest l i) small
      have act := (stores_eq (s := s.openRequest l i) service).trans
        (if_neg (not_busy_of_none (s := s.openRequest l i) free))
      rw [copy] at act
      refine request.trans ((runRequest_of_running running).trans ?_)
      rw [act]
      rfl
  · intro readBack s running i
    have event : exec i s = _ := exec_storeCompletion readBack s
    refine ⟨fun free => ?_, fun copy busy => ⟨fun back => ?_, fun img back other => ?_⟩⟩
    · have act : storeCompletes readBack (s.taken i) = s.taken i := by
        unfold storeCompletes
        rw [show (s.taken i).store.inFlight = none from free]
      exact event.trans (runEvent_stays running act)
    all_goals
      have act : storeCompletes readBack (s.taken i) = (s.taken i).endStore copy (readBack.getD copy) := by
        unfold storeCompletes
        rw [show (s.taken i).store.inFlight = some copy from busy]
    · have same : readBack.getD copy = copy := by
        rcases back with none' | copy'
        · rw [none']
          rfl
        · rw [copy']
          rfl
      exact event.trans (runEvent_store running (act.trans (endStore_done same)))
    · have read : readBack.getD copy = img := by
        rw [back]
        rfl
      rw [read] at act
      exact event.trans (runEvent_store running (act.trans (endStore_failed other)))
  · intro l tag s running
    refine ⟨fun group => ?_, fun value => ?_, ?_⟩
    · intro read clear door link answers
      have both {body : List Byte} {cleared : Counters}
          (bytes : s.counters.groupBytes group = some (byte group :: body))
          (zero : s.counters.cleared group = cleared) : answers body cleared := by
        refine ⟨exec_readCounters_read running bytes, ?_⟩
        rw [← zero]
        exact exec_readCounters_clear running bytes
      refine ⟨?_, ?_, ?_, ?_, fun c bad => exec_readCounters_refused running bad⟩
      · rintro rfl
        refine both (congrArg (fun bs => some (byte 0 :: bs)) ?_) rfl
        rw [toList_eq_map, List.flatMap_map]
      · rintro rfl
        refine both (congrArg (fun bs => some (byte 1 :: bs)) ?_) rfl
        rw [toList_eq_map, ← List.map_take, List.flatMap_map]
      · rintro rfl
        refine both (congrArg (fun bs => some (byte 2 :: bs)) ?_) rfl
        rw [toList_eq_map, ← List.map_drop, List.flatMap_map]
      · rintro rfl
        exact both rfl rfl
    · intro i
      exact (runRequest_of_running (i := i)
        (f := fun s => done { s with clock := value } (be32 value.toNat)) running).trans rfl
    · intro i
      refine ⟨byte (Config.partRevisionLessOne.val + 1), ?_, ?_⟩
      · have small := Config.partRevisionLessOne.isLt
        unfold byte
        rw [BitVec.toNat_ofNat]
        omega
      · exact runRequest_answers (f := fun s => done s s.identity) running rfl

end Sys2Proof.Proofs
end

section
/-! SUPPORT. The settings writes (11.1): their checks, and the writes of SCANNER, ROUTING, OUTPUT and LINK. -/

open Sys2Proof Sys2Proof.Machine

namespace Sys2Proof.Proofs

/-! ### The checks of a write (R176) -/

section
variable {α : Type} {u : State} {l : Link} {taken : Option α} {inUse : α → Bool} {write : α → State}
  {data : α → List Byte}

theorem settingsWrite_level (operate : u.station.level.get l = .operate) :
    u.settingsWrite l taken inUse write data = deny u .level := by
  unfold State.settingsWrite
  rw [atService_of_operate operate]
  rfl

variable (service : u.station.level.get l = .service)
include service

theorem settingsWrite_undefined (none' : taken = none) :
    u.settingsWrite l taken inUse write data = deny u .badField := by
  unfold State.settingsWrite
  rw [atService_of_service service, none']
  rfl

variable {x : α} (some' : taken = some x)
include some'

theorem settingsWrite_busy (busy : u.store.busy = true ∨ inUse x = true) :
    u.settingsWrite l taken inUse write data = deny u .busy := by
  unfold State.settingsWrite
  rw [atService_of_service service, some', if_neg nofun]
  dsimp only
  split
  · rfl
  · rename_i free
    exact if_pos (busy.resolve_left free)

theorem settingsWrite_done (free : ¬(u.store.busy = true ∨ inUse x = true)) :
    u.settingsWrite l taken inUse write data =
      done { write x with store := { (write x).store with unstored := true } } (data x) := by
  obtain ⟨store, use⟩ := not_or.1 free
  unfold State.settingsWrite
  rw [atService_of_service service, some', if_neg nofun]
  dsimp only
  rw [if_neg store, if_neg use]

end

/-- What a write that has left `t` answers, with the object, its index and the values taken (R176). -/
def wroteFrom (l : Link) (tag : Byte) (i : Instr) (t : State) (data : List Byte) : State :=
  ({ t with store := { t.store with unstored := true } }.placeReply l ⟨i.kind, tag, .done data⟩).pump

section
variable {α : Type} {s : State} {l : Link} {tag : Byte} {i : Instr} {f : State → State × ReplyData}
  {taken : Option α} {inUse : α → Bool} {write : α → State} {data : α → List Byte} {valid busy goes : Prop}
  (running : s.power = .running) (request : exec i s = runRequest i l tag s f)
  (act : f (s.openRequest l i) = (s.openRequest l i).settingsWrite l taken inUse write data)
include running request act

/-- The rule of a write, from what is taken, its in-use test and what it leaves (R176). -/
theorem writeRule_of (validIff : valid ↔ taken.isSome = true)
    (busyIff : ∀ x, taken = some x → (busy ↔ inUse x = true))
    (go : ∀ x, taken = some x → exec i s = .next (wroteFrom l tag i (write x) (data x)) → goes) :
    s.WriteRule l tag i valid busy goes := by
  refine ⟨fun operate => ?_, fun service => ⟨fun invalid => ?_, fun ok inUse' => ?_, fun ok free idle => ?_⟩⟩
  · exact request.trans (runRequest_refused running
      (act.trans (settingsWrite_level (u := s.openRequest l i) operate)))
  · have none' : taken = none := by
      cases kept : taken with
      | none => rfl
      | some x => exact absurd (validIff.2 (by rw [kept]; rfl)) invalid
    exact request.trans (runRequest_refused running
      (act.trans (settingsWrite_undefined (u := s.openRequest l i) service none')))
  all_goals obtain ⟨x, some'⟩ := Option.isSome_iff_exists.1 (validIff.1 ok)
  · exact request.trans (runRequest_refused running (act.trans
      (settingsWrite_busy (u := s.openRequest l i) service some' (inUse'.imp_right (busyIff x some').1))))
  · have unused : ¬((s.openRequest l i).store.busy = true ∨ inUse x = true) := by
      rintro (storing | using')
      · exact not_busy_of_none (s := s.openRequest l i) free storing
      · exact idle ((busyIff x some').2 using')
    refine go x some' (request.trans ((runRequest_of_running running).trans ?_))
    rw [act, settingsWrite_done (u := s.openRequest l i) service some' unused]
    rfl

/-- The rule of a write that takes nothing (R176). -/
theorem writeRule_undefined (none' : taken = none) : s.WriteRule l tag i False False True :=
  writeRule_of running request act (by rw [none']; exact ⟨False.elim, nofun⟩)
    (fun x some' => absurd (none'.symm.trans some') nofun) (fun _ _ _ => trivial)

end

theorem both_isSome {α β : Type} {a : Option α} {b : Option β} :
    (both a b).isSome = true ↔ a.isSome = true ∧ b.isSome = true := by
  cases a <;> cases b <;> simp [both]

theorem both_val {n : ℕ} {β : Type} (k : Fin n) (b : Option β) :
    both (finOf? n k.val) b = b.map fun y => (k, y) := by
  rw [finOf?_val]
  cases b <;> rfl

theorem both_none {n m : ℕ} {β : Type} (b : Option β) (above : n ≤ m) : both (finOf? n m) b = none := by
  rw [finOf?_eq_none.2 above]
  rfl

theorem finOf?_isSome {n m : ℕ} : (finOf? n m).isSome = true ↔ m < n := by
  rw [← Option.ne_none_iff_isSome, Ne, finOf?_eq_none, not_le]

/-- What is taken of a write of one of `n` objects, by its index. -/
theorem map_some {α β : Type} {b : Option β} {k : α} {x : α × β} (h : b.map (fun y => (k, y)) = some x) :
    b = some x.2 ∧ x.1 = k := by
  cases b with
  | none => exact absurd h nofun
  | some y =>
    obtain rfl := Option.some.inj h
    exact ⟨rfl, rfl⟩

/-! ### SCANNER, ROUTING, OUTPUT and LINK -/

theorem exec_settingsWriteScanner (l : Link) (tag : Byte) (n boards blanking : ℕ) (s : State) :
    exec (.settingsWriteScanner l tag n boards blanking) s =
      runRequest (.settingsWriteScanner l tag n boards blanking) l tag s fun s =>
        s.settingsWrite l (finOf? 1 n) (fun _ => false)
          (fun _ => s.rewriteScanner (min boards 16) (clamp 1 4 blanking))
          fun _ => objectData 5 0 [byte (min boards 16), byte (clamp 1 4 blanking)] := rfl

theorem clamp_eq {lo hi : ℕ} (le : lo ≤ hi) (n : ℕ) : clamp lo hi n = max lo (min n hi) := by
  unfold clamp
  omega

theorem writesScanner {s : State} {l : Link} {tag : Byte} (running : s.power = .running)
    (n boards blanking : ℕ) :
    let i := Instr.settingsWriteScanner l tag n boards blanking
    let b := min boards 16
    let t := max 1 (min blanking 4)
    s.WriteRule l tag i (n = 0) False (exec i s = .next
      { s.wrote l tag i [] 5 0 [byte b, byte t] { s.settings with boards := b, blanking := t } with
        handed := s.handed ++
          (if s.scanner.frame = none ∧ s.settings.boards = 0 ∧ 1 ≤ b ∧
              .boardFrameStart ∉ s.handed then [.boardFrameStart] else []) }) := by
  intro i b t
  refine writeRule_of running (exec_settingsWriteScanner l tag n boards blanking s) rfl ?_ ?_ ?_
  · rw [finOf?_isSome]
    omega
  · exact fun _ _ => ⟨False.elim, nofun⟩
  · intro _ _ gone
    rw [clamp_eq (by decide)] at gone
    exact gone

theorem says_writing (u : State) (y : Settings) (rs : List (Option Link × ReportBody)) :
    ({ u with settings := y }).says rs = { u.says rs with settings := y } := by
  rw [says_eq, says_eq u]
  rfl

theorem exec_settingsWriteRouting (l : Link) (tag : Byte) (n : ℕ) (data : RoutingData) (s : State) :
    exec (.settingsWriteRouting l tag n data) s =
      runRequest (.settingsWriteRouting l tag n data) l tag s fun s =>
        s.settingsWrite l (both (finOf? 1 n) data.taken) (fun _ => false)
          (fun x => { s with settings := { s.settings with routing := x.2 } }.evalLines)
          fun x => objectData 6 0 x.2.data := rfl

/-- What the alarm unit leaves after a write of the settings `y`. -/
theorem wroteFrom_alarmsGo {s : State} {l : Link} {tag : Byte} {i : Instr} {data : List Byte}
    (y : Settings) (rs : List (Option Link × ReportBody)) (au : AlarmUnit) (hs : List Instr) :
    wroteFrom l tag i (alarmsGo { s.openRequest l i with settings := y } rs au hs) data =
      { s.answered l tag i rs (.done data) with
        settings := y
        store := { s.store with unstored := true }
        alarms := au
        handed := hs } := by
  unfold alarmsGo
  rw [says_writing, says_eq]
  unfold State.answered
  rw [says_eq]
  rfl

theorem both_snd {α β : Type} {a : Option α} {b : Option β} {x : α × β} (h : both a b = some x) :
    b = some x.2 := by
  match a, b, h with
  | some _, some _, rfl => rfl

/-- The alarm list and lines rest on the settings and the alarm unit. -/
theorem withAlarms_of {s base : State} (settings : base.settings = s.settings)
    (alarms : base.alarms = s.alarms) (es : List AlarmEntry) :
    base.withAlarms es = { base with alarms := (s.withAlarms es).alarms } := by
  unfold State.withAlarms State.linesFollowing
  rw [settings, alarms]

theorem wrote_withAlarms {s : State} {l : Link} {tag : Byte} {i : Instr} {object index : ℕ}
    {data : List Byte} (y : Settings) (rs : List (Option Link × ReportBody)) (es : List AlarmEntry) :
    (s.wrote l tag i rs object index data y).withAlarms es =
      { s.wrote l tag i rs object index data y with
        alarms := ({ s with settings := y }.withAlarms es).alarms } := by
  have alarms : (s.wrote l tag i rs object index data y).alarms = s.alarms := by
    unfold State.wrote
    exact answered_alarms s l tag i rs (.done (byte object :: byte index ::
      (data ++ List.replicate (127 - data.length) 0)))
  exact withAlarms_of (s := { s with settings := y }) (base := s.wrote l tag i rs object index data y)
    rfl alarms es

theorem tripReports_of {s base : State} (settings : base.settings = s.settings)
    (alarms : base.alarms = s.alarms) (es : List AlarmEntry) : base.tripReports es = s.tripReports es := by
  unfold State.tripReports
  rw [withAlarms_of settings alarms, alarms]

theorem tripNotices_of {s base : State} (settings : base.settings = s.settings)
    (alarms : base.alarms = s.alarms) (es : List AlarmEntry) : base.tripNotices es = s.tripNotices es := by
  unfold State.tripNotices State.lineNotices
  rw [withAlarms_of settings alarms, alarms]

/-- What the alarm unit leaves where a write of the settings `y` re-evaluates the trip lines (R156). -/
theorem wroteFrom_evalLines {s : State} {l : Link} {tag : Byte} {i : Instr} {object index : ℕ}
    {data : List Byte} (y : Settings) :
    wroteFrom l tag i { s.openRequest l i with settings := y }.evalLines (objectData object index data) =
      { (s.wrote l tag i ({ s with settings := y }.tripReports s.alarms.list) object index data y).withAlarms
          s.alarms.list with
        handed := s.handed ++ { s with settings := y }.tripNotices s.alarms.list } := by
  let u : State := { s.openRequest l i with settings := y }
  let v : State := { s with settings := y }
  have alarms : u.alarms = v.alarms := rfl
  rw [evalLines_eq, wroteFrom_alarmsGo, wrote_withAlarms, tripReports_of (s := v) (base := u) rfl alarms,
    tripNotices_of (s := v) (base := u) rfl alarms, withAlarms_of (s := v) (base := u) rfl alarms]
  rfl

theorem writesRouting {s : State} {l : Link} {tag : Byte} (running : s.power = .running)
    (n : ℕ) (data : RoutingData) :
    let i := Instr.settingsWriteRouting l tag n data
    s.WriteRule l tag i (n = 0 ∧ data.taken.isSome = true) False (∀ r, data.taken = some r →
      let y := { s.settings with routing := r }
      let u := { s with settings := y }
      exec i s = .next
        { (s.wrote l tag i (u.tripReports s.alarms.list) 6 0 r.data y).withAlarms s.alarms.list with
          handed := s.handed ++ u.tripNotices s.alarms.list }) := by
  intro i
  refine writeRule_of running (exec_settingsWriteRouting l tag n data s) rfl ?_
    (fun _ _ => ⟨False.elim, nofun⟩) fun x some' gone r taken => ?_
  · rw [both_isSome, finOf?_isSome, Nat.lt_one_iff]
  · obtain rfl := Option.some.inj (taken.symm.trans (both_snd some'))
    intro y u
    exact gone.trans (congrArg _ (wroteFrom_evalLines _))

/-! ### LINK (R169) -/

theorem exec_settingsWriteLink (l : Link) (tag : Byte) (n time : ℕ) (s : State) :
    exec (.settingsWriteLink l tag n time) s =
      runRequest (.settingsWriteLink l tag n time) l tag s fun s =>
        s.settingsWrite l (Link.ofCode n) (fun _ => false)
          (fun m => { s with settings :=
            { s.settings with supervision := s.settings.supervision.set m (clamp 500 10000 time) } })
          fun m => objectData 8 m.code (be16 (clamp 500 10000 time)) := rfl

theorem ofCode_code (m : Link) : Link.ofCode m.code = some m := by cases m <;> rfl

theorem code_eq_of_ofCode {n : ℕ} {m : Link} (named : Link.ofCode n = some m) : m.code = n := by
  match n, named with
  | 1, rfl => rfl
  | 2, rfl => rfl

theorem ofCode_isSome {n : ℕ} : (Link.ofCode n).isSome = true ↔ n = 1 ∨ n = 2 := by
  rw [Option.isSome_iff_exists]
  constructor
  · rintro ⟨m, named⟩
    rw [← code_eq_of_ofCode named]
    cases m
    · exact .inl rfl
    · exact .inr rfl
  · rintro (rfl | rfl)
    · exact ⟨.bridge, rfl⟩
    · exact ⟨.localLink, rfl⟩

theorem writesLink {s : State} {l : Link} {tag : Byte} (running : s.power = .running) (n time : ℕ) :
    let i := Instr.settingsWriteLink l tag n time
    let t := max 500 (min time 10000)
    s.WriteRule l tag i (n = 1 ∨ n = 2) False (∀ m : Link, m.code = n → exec i s = .next
      (s.wrote l tag i [] 8 n (be16 t)
        { s.settings with supervision := s.settings.supervision.set m t })) := by
  intro i t
  refine writeRule_of running (exec_settingsWriteLink l tag n time s) rfl ofCode_isSome.symm
    (fun _ _ => ⟨False.elim, nofun⟩) ?_
  rintro x named gone m rfl
  obtain rfl := Option.some.inj ((ofCode_code m).symm.trans named)
  rw [clamp_eq (by decide)] at gone
  exact gone

/-! ### OUTPUT (R161) -/

/-- The held value of a line whose settings were `was` and are in force as they stand (R161). -/
def heldAfter (u : State) (k : Fin 8) (was : OutputSettings) : Bool :=
  let x := u.settings.outputs[k]
  if x.source = .fixed ∧ was.source ≠ .fixed then x.powerOn else u.alarms.lines[k].held

/-- The value of a line from its source, or what it holds (R159, R160). -/
def valueHolding (u : State) (k : Fin 8) (held : Bool) : Bool :=
  match u.settings.outputs[k].source with
  | .fixed => held
  | .input n => u.inputs.levels.gi[n]
  | .permissive p => u.evaluator.slots[p].result
  | .axisActive a => u.axes[a].state.active
  | .zoneAlarm z => u.zones[z].alarm
  | .alarmLine => u.alarms.alarm

/-- The lines after the settings of one, which were `was`, were written (R161). -/
def linesApplied (u : State) (k : Fin 8) (was : OutputSettings) : Vector OutLine 8 :=
  let x := u.settings.outputs[k]
  u.alarms.lines.set k ⟨heldAfter u k was,
    if x.source = was.source ∧ x.invert = was.invert then u.alarms.lines[k].level
    else valueHolding u k (heldAfter u k was) != x.invert⟩

theorem withLines_self (u : State) : withLines u u.alarms.lines = u := by
  unfold withLines
  rw [lineNotices_self, List.append_nil]

theorem driveLine_eq_withLines (u : State) (k : Fin 8) (value : Bool) : u.driveLine k value =
    withLines u (u.alarms.lines.set k ⟨u.alarms.lines[k].held, lineLevel u k value⟩) := by
  rw [driveLine_eq, withLines, lineNotices_set]
  rfl

theorem applyOutput_eq (u : State) (k : Fin 8) (was : OutputSettings) :
    u.applyOutput k was = withLines u (linesApplied u k was) := by
  by_cases same : u.settings.outputs[k].source = was.source ∧ u.settings.outputs[k].invert = was.invert
  · have keeps : heldAfter u k was = u.alarms.lines[k].held := if_neg fun turns => turns.2 (same.1 ▸ turns.1)
    have lines : linesApplied u k was = u.alarms.lines := by
      unfold linesApplied
      dsimp only
      rw [if_pos same, keeps]
      exact Vector.set_getElem_self k.isLt
    rw [applyOutput_of_same same.1 same.2, lines, withLines_self]
  · unfold State.applyOutput linesApplied
    dsimp only
    rw [if_neg same, if_neg same]
    by_cases turns : u.settings.outputs[k].source = .fixed ∧ was.source ≠ .fixed
    · have held : heldAfter u k was = u.settings.outputs[k].powerOn := if_pos turns
      have kept : (u.setHeld k u.settings.outputs[k].powerOn).outputValue k = u.settings.outputs[k].powerOn := by
        unfold State.outputValue
        rw [show (u.setHeld k u.settings.outputs[k].powerOn).settings.outputs[k].source = .fixed from turns.1]
        exact congrArg OutLine.held (upd_get_self _ _ _)
      have value (held : Bool) : valueHolding u k held = held := by
        unfold valueHolding
        rw [turns.1]
      rw [if_pos turns, kept, held, value]
      exact setOutput_eq_withLines u k _
    · have held : heldAfter u k was = u.alarms.lines[k].held := if_neg turns
      rw [if_neg turns, held]
      exact driveLine_eq_withLines u k _

/-- What SETTINGS WRITE of OUTPUT does of itself (R161). -/
def writeOutput (l : Link) (n : ℕ) (data : OutputData) (s : State) : State × ReplyData :=
  match both (finOf? 8 n) (s.outputTaken data) with
  | some x =>
    if s.atService l && !s.store.busy && s.outputLoops x.1 x.2 then deny s .state
    else s.settingsWrite l (some x) (fun _ => false) (fun x => s.rewriteOutput x.1 x.2)
      fun x => objectData 7 x.1 x.2.data
  | none => s.settingsWrite l (none : Option Unit) (fun _ => false) (fun _ => s) fun _ => []

theorem exec_settingsWriteOutput (l : Link) (tag : Byte) (n : ℕ) (data : OutputData) (s : State) :
    exec (.settingsWriteOutput l tag n data) s =
      runRequest (.settingsWriteOutput l tag n data) l tag s (writeOutput l n data) := rfl

section
variable {u : State} {l : Link} {k : Fin 8} {data : OutputData}

theorem writeOutput_none {n : ℕ} (none' : both (finOf? 8 n) (u.outputTaken data) = none) :
    writeOutput l n data u =
      u.settingsWrite l (none : Option Unit) (fun _ => false) (fun _ => u) fun _ => [] := by
  unfold writeOutput
  rw [none']

variable {x : OutputSettings} (taken : u.outputTaken data = some x)
include taken

theorem writeOutput_some : writeOutput l k data u =
    if u.atService l && !u.store.busy && u.outputLoops k x then deny u .state
    else u.settingsWrite l (some x) (fun _ => false) (fun x => u.rewriteOutput k x)
      fun x => objectData 7 k x.data := by
  unfold writeOutput
  rw [both_val, taken]
  rfl

end

theorem outputLoops_iff {u : State} {k : Fin 8} {x : OutputSettings} : u.outputLoops k x = true ↔
    (∃ p, x.source = .permissive p) ∧
      looped { u.settings with outputs := u.settings.outputs.set k x } = true := by
  unfold State.outputLoops
  split
  · rename_i p is
    exact ⟨fun loops => ⟨⟨p, is⟩, loops⟩, And.right⟩
  · rename_i other
    exact ⟨nofun, fun ⟨⟨p, is⟩, _⟩ => absurd is (other p)⟩

theorem wroteFrom_withLines {s : State} {l : Link} {tag : Byte} {i : Instr} {data : List Byte}
    (y : Settings) (lines : Vector OutLine 8) :
    wroteFrom l tag i (withLines { s.openRequest l i with settings := y } lines) data =
      { s.answered l tag i [] (.done data) with
        settings := y
        store := { s.store with unstored := true }
        alarms := { s.alarms with lines := lines }
        handed := s.handed ++ s.lineNotices lines } := rfl

/-- The lines after a line's settings became `x` (R161). -/
theorem linesWritten_eq (s : State) (k : Fin 8) (x was : OutputSettings) :
    linesApplied { s with settings := { s.settings with outputs := s.settings.outputs.set k x } } k was =
      let held := if x.source = .fixed ∧ was.source ≠ .fixed then x.powerOn else s.alarms.lines[k].held
      let value := match x.source with
        | .fixed => held
        | .input n => s.inputs.levels.gi[n]
        | .permissive p => s.evaluator.slots[p].result
        | .axisActive a => s.axes[a].state.active
        | .zoneAlarm z => s.zones[z].alarm
        | .alarmLine => s.alarms.alarm
      s.alarms.lines.set k ⟨held, if x.source = was.source ∧ x.invert = was.invert
        then s.alarms.lines[k].level else value != x.invert⟩ := by
  unfold linesApplied heldAfter valueHolding
  dsimp only
  rw [set_get_self]

theorem writesOutput {s : State} {l : Link} {tag : Byte} (running : s.power = .running)
    (k : Fin 8) (data : OutputData) :
    let i := Instr.settingsWriteOutput l tag k data
    let was := s.settings.outputs[k]
    s.WriteRule l tag i ((s.outputTaken data).isSome = true) False
      (∀ x, s.outputTaken data = some x →
        let y := { s.settings with outputs := s.settings.outputs.set k x }
        let held := if x.source = .fixed ∧ was.source ≠ .fixed then x.powerOn
          else s.alarms.lines[k].held
        let value := match x.source with
          | .fixed => held
          | .input n => s.inputs.levels.gi[n]
          | .permissive p => s.evaluator.slots[p].result
          | .axisActive a => s.axes[a].state.active
          | .zoneAlarm z => s.zones[z].alarm
          | .alarmLine => s.alarms.alarm
        let level := if x.source = was.source ∧ x.invert = was.invert then s.alarms.lines[k].level
          else value != x.invert
        let lines := s.alarms.lines.set k ⟨held, level⟩
        let loops := (∃ p, x.source = .permissive p) ∧ looped y = true
        (loops → exec i s = .next (s.answered l tag i [] (.refused .state))) ∧
        (¬loops → exec i s = .next { s.wrote l tag i [] 7 k x.data y with
          alarms := { s.alarms with lines := lines }
          handed := s.handed ++ s.lineNotices lines })) := by
  intro i was
  cases taken : s.outputTaken data with
  | none =>
    have none' : both (finOf? 8 k.val) ((s.openRequest l i).outputTaken data) = none := by
      rw [both_val, show (s.openRequest l i).outputTaken data = none from taken]
      rfl
    obtain ⟨operate, service⟩ := writeRule_undefined running (exec_settingsWriteOutput l tag k data s)
      (writeOutput_none none') rfl
    refine ⟨operate, fun at' => ⟨fun _ => (service at').1 id, ?_, ?_⟩⟩
    · exact fun some' => absurd some' nofun
    · exact fun some' => absurd some' nofun
  | some x =>
    have act := writeOutput_some (u := s.openRequest l i) (l := l) (k := k) taken
    by_cases denied : (s.atService l && !s.store.busy && s.outputLoops k x) = true
    · obtain ⟨⟨at', free⟩, loops⟩ := by simpa only [Bool.and_eq_true] using denied
      have refused := (exec_settingsWriteOutput l tag k data s).trans
        (runRequest_refused running (act.trans (if_pos denied)))
      refine ⟨fun operate => absurd (at'.symm.trans (atService_of_operate operate)) nofun,
        fun _ => ⟨fun none' => absurd rfl none', fun _ busy => ?_, fun _ _ _ y some' => ?_⟩⟩
      · exact absurd (busy.resolve_right id) fun storing =>
          absurd (storing.symm.trans ((Bool.not_eq_true' _).mp free)) nofun
      · obtain rfl := Option.some.inj some'
        exact ⟨fun _ => refused, fun none' => absurd (outputLoops_iff.1 loops) none'⟩
    · obtain ⟨operate, service⟩ := writeRule_of (valid := True) (busy := False) running
        (exec_settingsWriteOutput l tag k data s) (act.trans (if_neg denied))
        ⟨fun _ => rfl, fun _ => trivial⟩ (fun _ _ => ⟨False.elim, nofun⟩)
        (goes := exec i s = .next (wroteFrom l tag i ((s.openRequest l i).rewriteOutput k x)
          (objectData 7 k x.data))) fun y some' gone => by
            obtain rfl := Option.some.inj some'
            exact gone
      refine ⟨operate, fun at' => ⟨fun none' => absurd rfl none', fun _ => (service at').2.1 trivial,
        fun _ free _ y some' => ?_⟩⟩
      obtain rfl := Option.some.inj some'
      have quiet : ¬ s.outputLoops k x = true := fun loops => denied (by
        rw [atService_of_service at', loops, Bool.eq_false_iff.2 (not_busy_of_none free)]
        rfl)
      refine ⟨fun loops => absurd (outputLoops_iff.2 loops) quiet, fun _ => ?_⟩
      refine ((service at').2.2 trivial free id).trans ?_
      unfold State.rewriteOutput
      rw [applyOutput_eq, wroteFrom_withLines]
      rw [← linesWritten_eq]
      rfl

theorem writesOutput_undefined {s : State} {l : Link} {tag : Byte} (running : s.power = .running) {n : ℕ}
    (above : 8 ≤ n) (data : OutputData) :
    s.WriteRule l tag (.settingsWriteOutput l tag n data) False False True :=
  writeRule_undefined running (exec_settingsWriteOutput l tag n data s)
    (writeOutput_none (both_none _ above)) rfl

/-- Settles O50: each write is judged by the one rule of writes, and what it leaves is computed by the
block that owns the settings. -/
theorem scannerRoutingOutputAndLinkWrites : Obligations.ScannerRoutingOutputAndLinkWrites := by
  intro l tag s running
  exact ⟨writesScanner running, writesRouting running, writesOutput running, writesLink running,
    fun _ above => writesOutput_undefined running above⟩

end Sys2Proof.Proofs
end

section
/-! SUPPORT. The writes of AXIS, DRIVE and CHANNEL (11.1): AXIS_SENSOR, the trip source, the channel record. -/

open Sys2Proof Sys2Proof.Machine

namespace Sys2Proof.Proofs

/-! ### The rule of a write of one of the objects of a kind (R176) -/

section
variable {s : State} {l : Link} {tag : Byte} {i : Instr} {f : State → State × ReplyData} {n : ℕ} {β : Type}
  {b : Option β} {inUse : Fin n × β → Bool} {write : Fin n × β → State} {data : Fin n × β → List Byte}
  (running : s.power = .running) (request : exec i s = runRequest i l tag s f)
include running request

theorem writeRule_named (k : Fin n) {busy goes : Prop}
    (act : f (s.openRequest l i) =
      (s.openRequest l i).settingsWrite l (both (finOf? n k.val) b) inUse write data)
    (busyIff : ∀ x, b = some x → (busy ↔ inUse (k, x) = true))
    (go : ∀ x, b = some x → exec i s = .next (wroteFrom l tag i (write (k, x)) (data (k, x))) → goes) :
    s.WriteRule l tag i (b.isSome = true) busy goes := by
  rw [both_val] at act
  refine writeRule_of running request act (by rw [Option.isSome_map]) ?_ ?_
  all_goals rintro x taken
  all_goals obtain ⟨y, some', rfl⟩ := Option.map_eq_some_iff.1 taken
  · exact busyIff y some'
  · exact go y some'

theorem writeRule_unnamed {m : ℕ} (above : n ≤ m)
    (act : f (s.openRequest l i) =
      (s.openRequest l i).settingsWrite l (both (finOf? n m) b) inUse write data) :
    s.WriteRule l tag i False False True :=
  writeRule_undefined running request act (both_none b above)

end

/-! ### AXIS (R17, R43) -/

theorem exec_settingsWriteAxis (l : Link) (tag : Byte) (n : ℕ) (data : AxisData) (s : State) :
    exec (.settingsWriteAxis l tag n data) s =
      runRequest (.settingsWriteAxis l tag n data) l tag s fun s =>
        s.settingsWrite l (both (finOf? 4 n) data.taken) (fun x => s.axisBusy x.1)
          (fun x => s.rewriteAxis x.1 x.2) fun x => objectData 0 x.1 x.2.data := rfl

theorem sameSensors_iff {x y : AxisSettings} : sameSensors y x = true ↔
    x.fitted = y.fitted ∧ x.angleCh = y.angleCh ∧ x.pressCh = y.pressCh := by
  unfold sameSensors
  simp only [Bool.and_eq_true, decide_eq_true_eq, and_assoc, @eq_comm _ y.fitted, @eq_comm _ y.angleCh,
    @eq_comm _ y.pressCh]

/-- AXIS_SENSOR after the settings of an axis became `x` (R43, R176). -/
def lostAfter (u : State) (a : Fin 4) (x : AxisSettings) : Bool :=
  let old := u.settings.axes[a]
  if x.fitted = old.fitted ∧ x.angleCh = old.angleCh ∧ x.pressCh = old.pressCh then u.axes[a].sensor
  else x.fitted && !((u.channels[x.angleCh]).valid && (u.channels[x.pressCh]).valid)

theorem sensorLost_written (u : State) (a : Fin 4) (x : AxisSettings) :
    (withAxisSettings u a x).sensorLost a =
      (x.fitted && !((u.channels[x.angleCh]).valid && (u.channels[x.pressCh]).valid)) := by
  have settings : (withAxisSettings u a x).settings.axes[a] = x := set_get_self _ _ _
  exact congrArg (fun y : AxisSettings =>
    y.fitted && !((u.channels[y.angleCh]).valid && (u.channels[y.pressCh]).valid)) settings

/-- An axis that leaves TRIPPED, its trip source returning (R17, R35). -/
def tripCleared (u : State) (a : Fin 4) (k : TripKind) : State :=
  (axisGoes u a { u.axes[a] with state := .idle, tripKind := none } none).hand
    [.alarmSourceChange (tripSource a k) false]

theorem evalSensor_tripCleared (u : State) (a : Fin 4) (k : TripKind) :
    (tripCleared u a k).evalSensor a = sensed (tripCleared u a k) a (u.sensorLost a) u.axes[a].sensor := by
  have sensor : (tripCleared u a k).sensorLost a = u.sensorLost a :=
    sensorLost_congr (says_settings u _) (says_channels u _) a
  have stands : (tripCleared u a k).axes[a] = { u.axes[a] with state := .idle, tripKind := none } :=
    set_get_self _ _ _
  rw [evalSensor_eq, sensor, stands]

theorem sensed_self (u : State) (a : Fin 4) : sensed u a u.axes[a].sensor u.axes[a].sensor = u := by
  unfold sensed
  rw [if_pos rfl, List.append_nil, modAxis_self rfl]

section
variable {u : State} {a : Fin 4} {x : AxisSettings}

/-- A write that leaves the axis where it is (R43). -/
theorem rewriteAxis_stays
    (stays : ¬(u.settings.axes[a].fitted = true ∧ x.fitted = false ∧ u.axes[a].state = .tripped)) :
    u.rewriteAxis a x =
      sensed (withAxisSettings u a x) a (lostAfter u a x) u.axes[a].sensor := by
  have unfits : (if u.settings.axes[a].fitted && !x.fitted then (withAxisSettings u a x).unfitAxis a
      else withAxisSettings u a x) = withAxisSettings u a x := by
    split
    · rename_i off
      obtain ⟨was, now⟩ := Bool.and_eq_true_iff.1 off
      exact if_neg fun tripped => stays ⟨was, (Bool.not_eq_true' _).mp now, tripped⟩
    · rfl
  have evaluated : u.rewriteAxis a x = if sameSensors u.settings.axes[a] x then withAxisSettings u a x
      else (withAxisSettings u a x).evalSensor a :=
    congrArg (fun v : State => if sameSensors u.settings.axes[a] x then v else v.evalSensor a) unfits
  rw [evaluated]
  by_cases same : sameSensors u.settings.axes[a] x = true
  · have kept : lostAfter u a x = u.axes[a].sensor := if_pos (sameSensors_iff.1 same)
    rw [if_pos same, kept]
    exact (sensed_self (withAxisSettings u a x) a).symm
  · have lost : lostAfter u a x = _ := if_neg fun kept => same (sameSensors_iff.2 kept)
    rw [if_neg same, evalSensor_eq, sensorLost_written, lost]
    rfl

/-- A write that makes a tripped axis unfitted: its trip source returns (R17). -/
theorem rewriteAxis_unfits {k : TripKind} (kind : u.axes[a].tripKind = some k)
    (was : u.settings.axes[a].fitted = true) (now : x.fitted = false) (tripped : u.axes[a].state = .tripped) :
    u.rewriteAxis a x =
      sensed (tripCleared (withAxisSettings u a x) a k) a (lostAfter u a x) u.axes[a].sensor := by
  let v := withAxisSettings u a x
  have other : ¬sameSensors u.settings.axes[a] x = true := fun same =>
    absurd (now.symm.trans ((sameSensors_iff.1 same).1.trans was)) nofun
  have lost : lostAfter u a x = _ := if_neg fun kept => other (sameSensors_iff.2 kept)
  have clears : (if u.settings.axes[a].fitted && !x.fitted then v.unfitAxis a else v) = v.clearTrip a :=
    (if_pos (by rw [was, now]; rfl)).trans (if_pos tripped)
  have evaluated : u.rewriteAxis a x = if sameSensors u.settings.axes[a] x then v.clearTrip a
      else (v.clearTrip a).evalSensor a :=
    congrArg (fun v : State => if sameSensors u.settings.axes[a] x then v else v.evalSensor a) clears
  have gone : v.clearTrip a = tripCleared v a k := clearTrip_eq (s := v) kind
  rw [evaluated, if_neg other, gone, evalSensor_tripCleared, lost, ← sensorLost_written]
  rfl

end

theorem wroteFrom_sensed {s : State} {l : Link} {tag : Byte} {i : Instr} {object index : ℕ}
    {data : List Byte} (a : Fin 4) (x : AxisSettings) (lost : Bool) :
    wroteFrom l tag i (sensed (withAxisSettings (s.openRequest l i) a x) a lost s.axes[a].sensor)
        (objectData object index data) =
      { s.wrote l tag i [] object index data { s.settings with axes := s.settings.axes.set a x } with
        axes := s.axes.set a { s.axes[a] with sensor := lost }
        handed := s.handed ++
          (if lost = s.axes[a].sensor then [] else [.alarmSourceChange (.axisSensor a) lost]) } := rfl

theorem sensed_tripCleared {u : State} {a : Fin 4} (tripped : u.axes[a].state = .tripped) (k : TripKind)
    (lost was : Bool) : sensed (tripCleared u a k) a lost was =
      { u.says [toBoth (.axisState a .tripped .idle none)] with
        axes := u.axes.set a { u.axes[a] with state := .idle, tripKind := none, sensor := lost }
        handed := u.handed ++ (axisNotices a .tripped .idle ++ [.alarmSourceChange (tripSource a k) false] ++
          (if lost = was then [] else [.alarmSourceChange (.axisSensor a) lost])) } := by
  have axes := set_modAxis u.axes a { u.axes[a] with state := .idle, tripKind := none }
    fun x => { x with sensor := lost }
  rw [← List.append_assoc, ← List.append_assoc, ← tripped, ← axes]
  rfl

theorem wroteFrom_sensed_cleared {s : State} {l : Link} {tag : Byte} {i : Instr} {object index : ℕ}
    {data : List Byte} {a : Fin 4} (tripped : s.axes[a].state = .tripped) (x : AxisSettings) (lost : Bool) (k : TripKind) :
    wroteFrom l tag i (sensed (tripCleared (withAxisSettings (s.openRequest l i) a x) a k) a lost
        s.axes[a].sensor) (objectData object index data) =
      { s.wrote l tag i [toBoth (.axisState a .tripped .idle none)] object index data
          { s.settings with axes := s.settings.axes.set a x } with
        axes := s.axes.set a { s.axes[a] with state := .idle, tripKind := none, sensor := lost }
        handed := s.handed ++ (axisNotices a .tripped .idle ++
          [.alarmSourceChange (tripSource a k) false] ++
          (if lost = s.axes[a].sensor then [] else [.alarmSourceChange (.axisSensor a) lost])) } := by
  have settings := says_writing (s.openRequest l i)
    { s.settings with axes := s.settings.axes.set a x } [toBoth (.axisState a .tripped .idle none)]
  rw [sensed_tripCleared (u := withAxisSettings (s.openRequest l i) a x) tripped]
  unfold withAxisSettings
  rw [show (s.openRequest l i).settings = s.settings from rfl, settings]
  rfl

theorem writesAxis {s : State} {l : Link} {tag : Byte} (running : s.power = .running)
    (a : Fin 4) (data : AxisData) :
    let i := Instr.settingsWriteAxis l tag a data
    let was := s.axes[a]
    s.WriteRule l tag i (data.taken.isSome = true) (was.state ≠ .idle ∧ was.state ≠ .tripped)
      (∀ x, data.taken = some x →
        let y := { s.settings with axes := s.settings.axes.set a x }
        let old := s.settings.axes[a]
        let kept := x.fitted = old.fitted ∧ x.angleCh = old.angleCh ∧ x.pressCh = old.pressCh
        let lost := if kept then was.sensor
          else x.fitted && !((s.channels[x.angleCh]).valid && (s.channels[x.pressCh]).valid)
        let told : List Instr :=
          if lost = was.sensor then [] else [.alarmSourceChange (.axisSensor a) lost]
        let unfits := old.fitted = true ∧ x.fitted = false ∧ was.state = .tripped
        (¬unfits → exec i s = .next { s.wrote l tag i [] 0 a x.data y with
          axes := s.axes.set a { was with sensor := lost }
          handed := s.handed ++ told }) ∧
        (unfits → ∀ k, was.tripKind = some k → exec i s = .next
          { s.wrote l tag i [toBoth (.axisState a .tripped .idle none)] 0 a x.data y with
            axes := s.axes.set a { was with state := .idle, tripKind := none, sensor := lost }
            handed := s.handed ++ (axisNotices a .tripped .idle ++
              [.alarmSourceChange (tripSource a k) false] ++ told) })) := by
  intro i was
  refine writeRule_named running (exec_settingsWriteAxis l tag a data s) a rfl
    (fun _ _ => (active_iff s.axes[a].state).symm) fun x taken gone z taken' => ?_
  obtain rfl := Option.some.inj (taken.symm.trans taken')
  intro y old kept lost told unfits
  refine ⟨fun stays => ?_, fun ⟨fitted, now, tripped⟩ k kind => ?_⟩
  · have same : lostAfter (s.openRequest l i) a x = lost := rfl
    rw [rewriteAxis_stays (u := s.openRequest l i) stays, same] at gone
    exact gone.trans (congrArg Host.Outcome.next (wroteFrom_sensed a x lost))
  · have same : lostAfter (s.openRequest l i) a x = lost := rfl
    rw [rewriteAxis_unfits (u := s.openRequest l i) kind fitted now tripped, same] at gone
    exact gone.trans (congrArg Host.Outcome.next (wroteFrom_sensed_cleared tripped x lost k))

theorem writesDrive {s : State} {l : Link} {tag : Byte} (running : s.power = .running) (n oil : ℕ) :
    let i := Instr.settingsWriteDrive l tag n oil
    s.WriteRule l tag i (n = 0 ∧ oil ≤ 11) False
      (∀ k : Fin 12, k.val = oil →
        exec i s = .next (s.wrote l tag i [] 1 0 [byte oil] { s.settings with oil := k })) := by
  intro i
  have request : exec i s = runRequest i l tag s fun s =>
      s.settingsWrite l (both (finOf? 1 n) (finOf? 12 oil)) (fun _ => false)
        (fun x => { s with settings := { s.settings with oil := x.2 } })
        fun x => objectData 1 0 [byte x.2] := rfl
  refine writeRule_of running request rfl ?_ (fun _ _ => ⟨False.elim, nofun⟩) ?_
  · rw [both_isSome, finOf?_isSome, finOf?_isSome]
    omega
  · rintro x taken gone k rfl
    obtain rfl := Option.some.inj ((finOf?_val k).symm.trans (both_snd taken))
    exact gone

/-! ### CHANNEL (R7, R9) -/

section
variable (r : ChannelRecord) (was x : ChannelSettings) (now : DeckTime)

theorem disabled_eq : (if was.enabled && !x.enabled then r.disabled now else r) =
    { r with
      valid := r.valid && decide ¬(was.enabled = true ∧ x.enabled = false)
      count := if was.enabled = true ∧ x.enabled = false then 0 else r.count
      changed := if (was.enabled = true ∧ x.enabled = false) ∧ r.valid = true then now else r.changed } := by
  by_cases off : was.enabled = true ∧ x.enabled = false
  · have disables : (was.enabled && !x.enabled) = true := by rw [off.1, off.2]; rfl
    rw [if_pos disables]
    cases valid : r.valid <;> simp [ChannelRecord.disabled, off, valid]
  · have stays : ¬(was.enabled && !x.enabled) = true := fun on => off ⟨by grind, by grind⟩
    rw [if_neg stays]
    simp [off]

/-- The record with its debounce count restarted where the range changed (R7). -/
def recounted (r : ChannelRecord) : ChannelRecord :=
  if was.rawMin ≠ x.rawMin ∨ was.rawMax ≠ x.rawMax then { r with count := 0 } else r

/-- The record with its filter emptied where the depth changed (R7). -/
def emptied (r : ChannelRecord) : ChannelRecord :=
  if was.depth ≠ x.depth then { r with filter := [] } else r

/-- The record scaled anew where the scaling changed (R7). -/
def rescaled (r : ChannelRecord) : ChannelRecord :=
  if scalingDiffers was x && r.valid then
    { r with scaled := scaleValue r.filtered x.zero x.gain x.offset }
  else r

theorem recounted_eq : recounted was x r =
    { r with count := if was.rawMin ≠ x.rawMin ∨ was.rawMax ≠ x.rawMax then 0 else r.count } := by
  unfold recounted
  split <;> rfl

theorem emptied_eq : emptied was x r = { r with filter := if was.depth = x.depth then r.filter else [] } := by
  unfold emptied
  by_cases same : was.depth = x.depth
  · rw [if_neg (not_not.2 same), if_pos same]
  · rw [if_pos same, if_neg same]

theorem rescaled_eq : rescaled was x r =
    { r with scaled := if (was.zero ≠ x.zero ∨ was.gain ≠ x.gain ∨ was.offset ≠ x.offset) ∧ r.valid = true
      then scaleValue r.filtered x.zero x.gain x.offset else r.scaled } := by
  unfold rescaled scalingDiffers
  simp only [Bool.and_eq_true, Bool.or_eq_true, decide_eq_true_eq, or_assoc]
  split <;> rfl

/-- A channel record after its settings were written, all parts at once (R7; log entry 36). -/
theorem rewritten_eq : r.rewritten was x now = r.afterWrite was x now := by
  have staged : r.rewritten was x now = rescaled was x (emptied was x (recounted was x
      (if was.enabled && !x.enabled then r.disabled now else r))) := rfl
  rw [staged, disabled_eq, recounted_eq, emptied_eq, rescaled_eq]
  unfold ChannelRecord.afterWrite
  simp only [Bool.and_eq_true, decide_eq_true_eq, ← ite_or, or_comm]

end

theorem channelBusy_iff {s : State} {k : Fin 12} : s.channelBusy k = true ↔
    ∃ a : Fin 4, (s.axes[a].state ≠ .idle ∧ s.axes[a].state ≠ .stopping ∧ s.axes[a].state ≠ .tripped) ∧
      (s.settings.axes[a].angleCh = k ∨ s.settings.axes[a].pressCh = k ∨
        (s.settings.oil = k ∧ s.settings.axes[a].fitted = true)) := by
  have inUse (x : AxisState) : x.inUse = true ↔ x ≠ .idle ∧ x ≠ .stopping ∧ x ≠ .tripped := by
    cases x <;> simp [AxisState.inUse]
  simp [State.channelBusy, inUse, or_assoc]

theorem rewriteChannel_eq (u : State) (k : Fin 12) (x : ChannelSettings) :
    let was := u.settings.channels[k]
    let r := u.channels[k]
    let y := r.afterWrite was x u.clock
    u.rewriteChannel k x = { u with
      settings := { u.settings with channels := u.settings.channels.set k x }
      channels := u.channels.set k y
      handed := u.handed ++
        ((if y.valid = r.valid then [] else u.validityNotices k y.valid) ++
        (if y.valid = r.valid ∧ y.scaled = r.scaled then []
          else [.sourceChange (.channel k) ⟨y.scaled, y.valid⟩]) ++
        (if was.enabled = true ∧ x.enabled = false then u.disablingNotices k else [])) } := by
  intro was r y
  have valid (a b : Bool) (hs : List Instr) : (if a ≠ b then hs else []) = if b = a then [] else hs := by
    by_cases same : a = b
    · rw [if_neg (not_not.2 same), if_pos same.symm]
    · rw [if_pos same, if_neg (Ne.symm same)]
  have told : (if r.valid ≠ y.valid ∨ r.scaled ≠ y.scaled then
      [Instr.sourceChange (.channel k) y.reading] else []) =
      if y.valid = r.valid ∧ y.scaled = r.scaled then [] else
        [.sourceChange (.channel k) ⟨y.scaled, y.valid⟩] := by
    by_cases same : y.valid = r.valid ∧ y.scaled = r.scaled
    · rw [if_pos same, if_neg (by simp [same])]
    · rw [if_neg same, if_pos (by grind)]
      rfl
  have disables : (if (was.enabled && !x.enabled) = true then u.disablingNotices k else []) =
      if was.enabled = true ∧ x.enabled = false then u.disablingNotices k else [] := by
    simp only [Bool.and_eq_true, Bool.not_eq_true']
  unfold State.rewriteChannel State.changeNotices
  dsimp only
  rw [rewritten_eq, told, disables, valid]
  rfl

theorem exec_settingsWriteChannel (l : Link) (tag : Byte) (n : ℕ) (data : ChannelData) (s : State) :
    exec (.settingsWriteChannel l tag n data) s =
      runRequest (.settingsWriteChannel l tag n data) l tag s fun s =>
        s.settingsWrite l (both (finOf? 12 n) data.taken) (fun x => s.channelBusy x.1)
          (fun x => s.rewriteChannel x.1 x.2) fun x => objectData 2 x.1 x.2.data := rfl

theorem writesChannel {s : State} {l : Link} {tag : Byte} (running : s.power = .running)
    (k : Fin 12) (data : ChannelData) :
    let i := Instr.settingsWriteChannel l tag k data
    let was := s.settings.channels[k]
    let r := s.channels[k]
    s.WriteRule l tag i (data.taken.isSome = true)
      (∃ a : Fin 4, (s.axes[a].state ≠ .idle ∧ s.axes[a].state ≠ .stopping ∧
          s.axes[a].state ≠ .tripped) ∧
        (s.settings.axes[a].angleCh = k ∨ s.settings.axes[a].pressCh = k ∨
          (s.settings.oil = k ∧ s.settings.axes[a].fitted = true)))
      (∀ x, data.taken = some x →
        let y := r.afterWrite was x s.clock
        exec i s = .next
          { s.wrote l tag i [] 2 k x.data
              { s.settings with channels := s.settings.channels.set k x } with
            channels := s.channels.set k y
            handed := s.handed ++
              ((if y.valid = r.valid then [] else s.validityNotices k y.valid) ++
              (if y.valid = r.valid ∧ y.scaled = r.scaled then []
                else [.sourceChange (.channel k) ⟨y.scaled, y.valid⟩]) ++
              (if was.enabled = true ∧ x.enabled = false then s.disablingNotices k else [])) }) := by
  intro i was r
  refine writeRule_named running (exec_settingsWriteChannel l tag k data s) k rfl
    (fun _ _ => (channelBusy_iff (s := s.openRequest l i)).symm) fun x taken gone z taken' => ?_
  obtain rfl := Option.some.inj (taken.symm.trans taken')
  intro y
  dsimp only at gone
  rw [rewriteChannel_eq] at gone
  exact gone

/-- Settles O48: the axis, the oil channel or the channel record after a write is computed by the block
that owns it. -/
theorem axisAndChannelWrites : Obligations.AxisAndChannelWrites := by
  intro l tag s running
  exact ⟨writesAxis running, writesDrive running, writesChannel running,
    fun n above data => writeRule_unnamed running (exec_settingsWriteAxis l tag n data s) above rfl,
    fun n above data => writeRule_unnamed running (exec_settingsWriteChannel l tag n data s) above rfl⟩

end Sys2Proof.Proofs
end

section
/-! SUPPORT. The writes of DOOR and ZONE (11.1): the door whose kind changes, and the zone evaluated again. -/

open Sys2Proof Sys2Proof.Machine

namespace Sys2Proof.Proofs

/-! ### What a write leaves, from the rule of it -/

theorem writeRule_imp {s : State} {l : Link} {tag : Byte} {i : Instr} {valid inUse goes goes' : Prop}
    (rule : s.WriteRule l tag i valid inUse goes) (imp : ¬inUse → goes → goes') :
    s.WriteRule l tag i valid inUse goes' :=
  ⟨rule.1, fun service => ⟨(rule.2 service).1, (rule.2 service).2.1,
    fun ok free idle => imp idle ((rule.2 service).2.2 ok free idle)⟩⟩

/-! ### DOOR (R85, R101) -/

theorem exec_settingsWriteDoor (l : Link) (tag : Byte) (n : ℕ) (data : DoorData) (s : State) :
    exec (.settingsWriteDoor l tag n data) s =
      runRequest (.settingsWriteDoor l tag n data) l tag s fun s =>
        s.settingsWrite l (both (finOf? 32 n) data.taken) (fun x => s.doorBusy x.1)
          (fun x => s.rewriteDoor x.1 x.2) fun x => objectData 3 x.1 x.2.data := rfl

/-- The counts of a state that has them right stay (R101). -/
theorem recount_of_counted {u : State} (counted : u.openCounts = u.countsNow) : u.recount = u := by
  unfold State.recount State.hand
  rw [← counted, countNotices_self]
  exact congrArg (fun hs => { u with handed := hs }) (List.append_nil u.handed)

theorem recount_doorGoes (u : State) (d : Fin 32) (y : DoorRecord) (cause : DoorCause) :
    (u.doorGoes d y cause).recount = u.doorGoes d y cause := recount_of_counted rfl

theorem recount_doorCloses (u : State) (d : Fin 32) (y : DoorRecord) (cause : DoorCause) (edge : Bool) :
    (u.doorCloses d y cause edge).recount = u.doorCloses d y cause edge := by
  unfold State.doorCloses
  dsimp only
  split
  · exact recount_doorGoes _ _ _ _
  · exact recount_doorGoes _ _ _ _

/-- The settings of a door become `x`, before the door acts on it. -/
def withDoorSettings (u : State) (d : Fin 32) (x : DoorSettings) : State :=
  { u with settings := { u.settings with doors := u.settings.doors.set d x } }

section
variable {u : State} {d : Fin 32} {x : DoorSettings}

theorem kind_written : (withDoorSettings u d x).settings.doors[d].kind = x.kind :=
  congrArg DoorSettings.kind (set_get_self _ _ _)

theorem rekindDoor_written : (withDoorSettings u d x).rekindDoor d u.settings.doors[d].kind =
    if x.kind = u.settings.doors[d].kind then withDoorSettings u d x
    else if x.kind = .absent then (withDoorSettings u d x).unfitDoor d
    else if u.settings.doors[d].kind ≠ .absent ∧ (u.doors[d].state = .closed ∨ u.doors[d].state = .isolated) then
      withDoorSettings u d x
    else (withDoorSettings u d x).deriveDoor d .settings u.chain.levels[d] := by
  unfold State.rekindDoor
  dsimp only
  rw [kind_written]
  rfl

theorem rewriteDoor_stays (free : u.doors[d].state = .closed ∨ u.doors[d].state = .isolated)
    (stays : x.kind = u.settings.doors[d].kind ∨ (x.kind ≠ .absent ∧ u.settings.doors[d].kind ≠ .absent)) :
    u.rewriteDoor d x = (withDoorSettings u d x).recount := by
  refine congrArg State.recount (rekindDoor_written.trans ?_)
  by_cases same : x.kind = u.settings.doors[d].kind
  · exact if_pos same
  · obtain ⟨fitted, was⟩ := stays.resolve_left same
    rw [if_neg same, if_neg fitted, if_pos ⟨was, free⟩]

theorem rewriteDoor_unfits (absent : x.kind = .absent) (was : u.settings.doors[d].kind ≠ .absent) :
    u.rewriteDoor d x = (withDoorSettings u d x).doorGoes d
      { u.doors[d] with travel := none, pause := none, conflict := none, cause := none, state := .closed }
      .settings := by
  have rekinds : (withDoorSettings u d x).rekindDoor d u.settings.doors[d].kind =
      (withDoorSettings u d x).unfitDoor d := by
    rw [rekindDoor_written, if_neg fun same => was (same.symm.trans absent), if_pos absent]
  have unfits : (withDoorSettings u d x).unfitDoor d = (withDoorSettings u d x).doorGoes d
      { u.doors[d].stopped with cause := none, state := .closed } .settings :=
    enterDoor_modDoor (s := withDoorSettings u d x) rfl .closed .settings
  exact (congrArg State.recount (rekinds.trans unfits)).trans (recount_doorGoes _ _ _ _)

section
variable (fitted : x.kind ≠ .absent) (was : u.settings.doors[d].kind = .absent)
include fitted was

theorem rewriteDoor_derives : u.rewriteDoor d x =
    ((withDoorSettings u d x).deriveDoor d .settings u.chain.levels[d]).recount := by
  refine congrArg State.recount (rekindDoor_written.trans ?_)
  rw [if_neg fun same => fitted (same.trans was), if_neg fitted, if_neg fun h => h.1 was]

theorem rewriteDoor_closed (shut : u.chain.levels[d].closedSwitch = true) :
    u.rewriteDoor d x = (withDoorSettings u d x).doorGoes d
      { derived u.doors[d] u.chain.levels[d] with state := .closed } .settings := by
  have derive := deriveDoor_eq (withDoorSettings u d x) d .settings u.chain.levels[d]
  dsimp only at derive
  rw [if_pos shut] at derive
  rw [rewriteDoor_derives fitted was, derive, recount_doorGoes]
  rfl

theorem rewriteDoor_closes (shut : u.chain.levels[d].closedSwitch = false) :
    u.rewriteDoor d x = (withDoorSettings u d x).doorCloses d
      (derived u.doors[d] u.chain.levels[d]) .settings u.chain.levels[d].edge := by
  have derive := deriveDoor_eq (withDoorSettings u d x) d .settings u.chain.levels[d]
  dsimp only at derive
  rw [if_neg (by rw [shut]; exact nofun)] at derive
  rw [rewriteDoor_derives fitted was, derive, recount_doorCloses]
  rfl

end

end

theorem wroteFrom_doorGoes {s : State} {l : Link} {tag : Byte} {i : Instr} {object index : ℕ}
    {data : List Byte} (y : Settings) (d : Fin 32) (r : DoorRecord) (cause : DoorCause) :
    wroteFrom l tag i ({ s.openRequest l i with settings := y }.doorGoes d r cause)
        (objectData object index data) =
      { (s.wrote l tag i (doorReports d s.doors[d].state r.state cause) object index data y).withDoor d r with
        handed := s.handed ++ { s with settings := y }.doorNotices d r } := by
  unfold State.doorGoes
  rw [says_writing, says_eq]
  unfold State.wrote State.answered
  rw [says_eq]
  rfl

theorem wroteFrom_doorStruck {s : State} {l : Link} {tag : Byte} {i : Instr} {object index : ℕ}
    {data : List Byte} (y : Settings) (d : Fin 32) (r : DoorRecord) (cause : DoorCause) :
    wroteFrom l tag i (doorStruck { s.openRequest l i with settings := y } d r cause)
        (objectData object index data) =
      { ((s.wrote l tag i [toBoth (.doorState d s.doors[d].state .closing cause),
            toBoth (.doorState d .closing .obstructed .edge)] object index data y).countDoor d
            fun k => { k with obstructions := saturate k.obstructions }).withDoor d
          ({ s with settings := y }.obstructedRecord d ({ s with settings := y }.closingRecord d r)) with
        handed := s.handed ++ ({ s with settings := y }.doorNotices d ({ s with settings := y }.closingRecord d r) ++
          [.sourceChange (.doorState d) ⟨5, true⟩]) } := by
  unfold doorStruck
  rw [says_writing, says_eq]
  unfold State.wrote State.answered
  rw [says_eq]
  rfl

theorem writesDoor {s : State} {l : Link} {tag : Byte} (running : s.power = .running)
    (d : Fin 32) (data : DoorData) :
    let i := Instr.settingsWriteDoor l tag d data
    let x := s.doors[d]
    let was := s.settings.doors[d].kind
    s.WriteRule l tag i (data.taken.isSome = true) (x.state ≠ .closed ∧ x.state ≠ .isolated)
      (∀ new, data.taken = some new →
        let y := { s.settings with doors := s.settings.doors.set d new }
        let u := { s with settings := y }
        let t := s.wrote l tag i [] 3 d new.data y
        let now := s.chain.levels[d]
        let idle : DoorRecord := { x with travel := none, pause := none, conflict := none, cause := none }
        let derived : DoorRecord := { idle with
          seen := now
          conflict := if now.openSwitch = true ∧ now.closedSwitch = true then some 1000 else none }
        let goes := fun (r : DoorRecord) => exec i s = .next
          { (s.wrote l tag i (doorReports d x.state r.state .settings) 3 d new.data y).withDoor d r with
            handed := s.handed ++ u.doorNotices d r }
        let counts : OpenCounts := ⟨Vector.ofFn u.zoneOpenCount, u.seaOpenCount⟩
        (new.kind = was ∨ (new.kind ≠ .absent ∧ was ≠ .absent) → exec i s = .next { t with
          openCounts := counts
          handed := s.handed ++ countNotices s.openCounts counts }) ∧
        (new.kind = .absent → was ≠ .absent → goes { idle with state := .closed }) ∧
        (new.kind ≠ .absent → was = .absent →
          (now.closedSwitch = true → goes { derived with state := .closed }) ∧
          (now.closedSwitch = false → ¬(new.kind = .sliding ∧ now.edge = true) →
            goes (u.closingRecord d derived)) ∧
          (now.closedSwitch = false → new.kind = .sliding → now.edge = true → exec i s = .next
            { ((s.wrote l tag i [toBoth (.doorState d x.state .closing .settings),
                  toBoth (.doorState d .closing .obstructed .edge)] 3 d new.data y).countDoor d
                  fun k => { k with obstructions := saturate k.obstructions }).withDoor d
                (u.obstructedRecord d (u.closingRecord d derived)) with
              handed := s.handed ++ (u.doorNotices d (u.closingRecord d derived) ++
                [.sourceChange (.doorState d) ⟨5, true⟩]) }))) := by
  intro i x was
  have rule := writeRule_named (busy := x.state ≠ .closed ∧ x.state ≠ .isolated) running
    (exec_settingsWriteDoor l tag d data s) d rfl
    (fun _ _ => (Bool.and_eq_true_iff.trans (and_congr decide_eq_true_iff decide_eq_true_iff)).symm)
    (goes := ∀ new, data.taken = some new → exec i s = .next
      (wroteFrom l tag i ((s.openRequest l i).rewriteDoor d new) (objectData 3 d new.data)))
    fun new taken gone new' taken' => by
      obtain rfl := Option.some.inj (taken.symm.trans taken')
      exact gone
  refine writeRule_imp rule fun idle' gone new taken => ?_
  have free : x.state = .closed ∨ x.state = .isolated := by
    by_contra neither
    exact idle' (not_or.1 neither)
  have written := gone new taken
  intro y u t now idle back goes counts
  have same : derived x now = back := by
    unfold derived
    rw [if_congr conflict_iff rfl rfl]
    rfl
  have went (r : DoorRecord)
      (act : (s.openRequest l i).rewriteDoor d new =
        (withDoorSettings (s.openRequest l i) d new).doorGoes d r .settings) : goes r := by
    rw [act] at written
    exact written.trans (congrArg Host.Outcome.next (wroteFrom_doorGoes y d r .settings))
  refine ⟨fun stays => ?_, fun absent wasFitted => ?_, fun fitted wasAbsent => ⟨fun shut => ?_,
    fun shut free' => ?_, fun shut sliding edge => ?_⟩⟩
  · rw [rewriteDoor_stays (u := s.openRequest l i) free stays] at written
    exact written
  · exact went _ (rewriteDoor_unfits (u := s.openRequest l i) absent wasFitted)
  · rw [← same]
    exact went _ (rewriteDoor_closed (u := s.openRequest l i) fitted wasAbsent shut)
  all_goals have closes := rewriteDoor_closes (u := s.openRequest l i) fitted wasAbsent shut
  all_goals rw [← same]
  · refine went _ (closes.trans (doorCloses_free ?_))
    rw [kind_written]
    exact free'
  · have struck := closes.trans (doorCloses_struck ⟨kind_written.trans sliding, edge⟩ fun closing => by
      rcases free with shut' | isolated
      · exact absurd (shut'.symm.trans closing) nofun
      · exact absurd (isolated.symm.trans closing) nofun)
    rw [struck] at written
    exact written.trans (congrArg Host.Outcome.next (wroteFrom_doorStruck y d (derived x now) .settings))

/-! ### ZONE (R102, R104) -/

theorem exec_settingsWriteZone (l : Link) (tag : Byte) (n : ℕ) (data : ZoneData) (s : State) :
    exec (.settingsWriteZone l tag n data) s =
      runRequest (.settingsWriteZone l tag n data) l tag s fun s =>
        s.settingsWrite l (both (finOf? 8 n) data.taken) (fun x => s.zoneBusy x.1 x.2)
          (fun x => s.rewriteZone x.1 x.2) fun x => objectData 4 x.1 x.2.data := rfl

theorem lanes_of_taken {data : ZoneData} {x : ZoneSettings} (taken : data.taken = some x) :
    x.lanes = data.lanes := by
  unfold ZoneData.taken at taken
  simp only [Option.bind_eq_bind, Option.bind_eq_some_iff, Option.some.injEq] at taken
  obtain ⟨_, _, _, _, rfl⟩ := taken
  rfl

theorem zoneJudged_store (u : State) (z : Fin 8) (y : ZoneRecord) (cause : ZoneCause) :
    (u.zoneJudged z y cause).store = u.store := by
  unfold State.zoneJudged
  dsimp only
  split
  · rfl
  split
  · have only := doorsOnly_foldl (ds := (List.finRange 32).filter (u.doorOfZone z))
      (fun s d => doorsOnly_doorReleased s d .zoneAlarm)
    rw [congrArg State.store (only _)]
    exact says_store _ _
  · exact says_store _ _

theorem evalZone_eq (u : State) (z : Fin 8) (cause : ZoneCause) :
    u.evalZone z cause = u.zoneJudged z u.zones[z] cause := by
  have stands : u.modZone z id = u := by
    rw [modZone_set]
    exact congrArg (fun zs => { u with zones := zs }) (Vector.set_getElem_self z.isLt)
  have judged := evalZone_modZone (s := u) (z := z) (f := id) rfl rfl cause
  rwa [stands] at judged

theorem writesZone {s : State} {l : Link} {tag : Byte} (running : s.power = .running)
    (z : Fin 8) (data : ZoneData) :
    let i := Instr.settingsWriteZone l tag z data
    let was := s.settings.zones[z]
    s.WriteRule l tag i (data.taken.isSome = true)
      (s.zones[z].alarm = true ∧ data.lanes ≠ was.lanes)
      (∀ new, data.taken = some new →
        let y := { s.settings with zones := s.settings.zones.set z new }
        (new.fireEnabled = was.fireEnabled →
          exec i s = .next (s.wrote l tag i [] 4 z new.data y)) ∧
        (new.fireEnabled ≠ was.fireEnabled → exec i s = .next
          (s.wroteBy l tag i 4 z new.data y fun u => u.zoneJudged z s.zones[z] .fireInput))) := by
  intro i was
  refine writeRule_named running (exec_settingsWriteZone l tag z data s) z rfl
    (fun x taken => ?_) fun x taken gone new taken' => ?_
  · rw [← lanes_of_taken taken]
    exact (Bool.and_eq_true_iff.trans (and_congr Iff.rfl decide_eq_true_iff)).symm
  · obtain rfl := Option.some.inj (taken.symm.trans taken')
    let u : State := { s.openRequest l i with settings := { s.settings with zones := s.settings.zones.set z x } }
    have rewrites : (s.openRequest l i).rewriteZone z x =
        if x.fireEnabled = was.fireEnabled then u else u.evalZone z .fireInput := rfl
    refine ⟨fun same => ?_, fun other => ?_⟩
    · rw [rewrites, if_pos same] at gone
      exact gone
    · rw [rewrites, if_neg other, evalZone_eq] at gone
      refine gone.trans (congrArg Host.Outcome.next ?_)
      unfold wroteFrom State.wroteBy State.answeredBy
      rw [zoneJudged_store]
      rfl

/-- Settles O49: the door is derived or unfitted where its kind changes, and the zone judged again where
its fire input setting does. -/
theorem doorAndZoneWrites : Obligations.DoorAndZoneWrites := by
  intro l tag s running
  exact ⟨writesDoor running, writesZone running,
    fun n above data => writeRule_unnamed running (exec_settingsWriteDoor l tag n data s) above rfl,
    fun n above data => writeRule_unnamed running (exec_settingsWriteZone l tag n data s) above rfl⟩

end Sys2Proof.Proofs
end

section
/-! SUPPORT. The values of a settings write as taken (R168): names, codes and clamped quantities. -/

open Sys2Proof Sys2Proof.Machine

namespace Sys2Proof.Proofs

/-! ### Names and codes -/

/-- Of two things taken, one after the other, the one or the other is refused. -/
theorem bind_none_iff {α β : Type} {a : Option α} {f : α → Option β} {p q : Prop} (first : a = none ↔ p)
    (then' : ∀ x, f x = none ↔ q) : (a >>= f) = none ↔ p ∨ q := by
  rw [← first]
  cases a with
  | none => exact ⟨fun _ => .inl rfl, fun _ => rfl⟩
  | some x => exact (then' x).trans ⟨.inr, fun h => h.resolve_left nofun⟩

theorem boolOfCode_none_iff {n : ℕ} : boolOfCode n = none ↔ 1 < n := by
  match n with
  | 0 => decide
  | 1 => decide
  | n + 2 => exact ⟨fun _ => by omega, fun _ => rfl⟩

theorem boolOfCode_some {n : ℕ} {b : Bool} (h : boolOfCode n = some b) : b = decide (n = 1) := by
  match n, h with
  | 0, rfl => rfl
  | 1, rfl => rfl

theorem tableMode_none_iff {n : ℕ} : TableMode.ofCode n = none ↔ 1 < n := by
  match n with
  | 0 => decide
  | 1 => decide
  | n + 2 => exact ⟨fun _ => by omega, fun _ => rfl⟩

theorem tableMode_some {n : ℕ} {x : TableMode} (h : TableMode.ofCode n = some x) : x.code = n := by
  match n, h with
  | 0, rfl => rfl
  | 1, rfl => rfl

theorem loopMode_none_iff {n : ℕ} : LoopMode.ofCode n = none ↔ 1 < n := by
  match n with
  | 0 => decide
  | 1 => decide
  | n + 2 => exact ⟨fun _ => by omega, fun _ => rfl⟩

theorem loopMode_some {n : ℕ} {x : LoopMode} (h : LoopMode.ofCode n = some x) : x.code = n := by
  match n, h with
  | 0, rfl => rfl
  | 1, rfl => rfl

theorem doorKind_none_iff {n : ℕ} : DoorKind.ofCode n = none ↔ 2 < n := by
  match n with
  | 0 => decide
  | 1 => decide
  | 2 => decide
  | n + 3 => exact ⟨fun _ => by omega, fun _ => rfl⟩

theorem doorKind_some {n : ℕ} {x : DoorKind} (h : DoorKind.ofCode n = some x) : x.code = n := by
  match n, h with
  | 0, rfl => rfl
  | 1, rfl => rfl
  | 2, rfl => rfl

theorem finOf?_none_iff {n m : ℕ} : finOf? (n + 1) m = none ↔ n < m := finOf?_eq_none

theorem finOf?_some {n m : ℕ} {k : Fin n} (h : finOf? n m = some k) : k.val = m := (finOf?_eq_some.1 h)

/-! ### AXIS (R18) -/

/-- What follows the last of the things taken is never refused. -/
theorem bind_some_none_iff {α β : Type} {a : Option α} {f : α → β} {p : Prop} (only : a = none ↔ p) :
    (a >>= fun x => some (f x)) = none ↔ p :=
  (bind_none_iff (f := fun x => some (f x)) (q := False) only fun _ =>
    ⟨Option.some_ne_none _, False.elim⟩).trans (or_false p).to_iff

theorem axisTaken_none_iff (d : AxisData) : d.taken = none ↔ 1 < d.fitted ∨ 11 < d.angleCh ∨ 11 < d.pressCh ∨
    1 < d.tableMode ∨ 1 < d.loopMode ∨ 63 < d.warningPattern :=
  bind_none_iff boolOfCode_none_iff fun _ => bind_none_iff finOf?_none_iff fun _ =>
    bind_none_iff finOf?_none_iff fun _ => bind_none_iff tableMode_none_iff fun _ =>
    bind_none_iff loopMode_none_iff fun _ => bind_some_none_iff finOf?_none_iff

/-- The pair L_lo, L_hi as taken is ordered and in range. -/
theorem limitsTaken_ordered (lo hi : ℤ) : -9000 ≤ (limitsTaken lo hi).1 ∧
    (limitsTaken lo hi).1 < (limitsTaken lo hi).2 ∧ (limitsTaken lo hi).2 ≤ 9000 := by
  unfold limitsTaken clampInt
  dsimp only
  split
  · dsimp only
    omega
  split <;> (dsimp only; omega)

/-- A pair in range and in order is taken as it is. -/
theorem limitsTaken_of_ordered {lo hi : ℤ} (low : -9000 ≤ lo) (ordered : lo < hi) (high : hi ≤ 9000) :
    limitsTaken lo hi = (lo, hi) := by
  have kept (x : ℤ) (above : -9000 ≤ x) (below : x ≤ 9000) : clampInt (-9000) 9000 x = x := by
    unfold clampInt
    omega
  unfold limitsTaken
  rw [kept lo low (by omega), kept hi (by omega) high]
  exact if_pos ordered

/-- A pair out of order takes L_hi one above L_lo. -/
theorem limitsTaken_of_crossed {lo hi : ℤ} (crossed : hi ≤ lo) (low : -9000 ≤ lo) (high : lo < 9000) :
    limitsTaken lo hi = (lo, lo + 1) := by
  have kept : clampInt (-9000) 9000 lo = lo := by
    unfold clampInt
    omega
  have under : ¬lo < clampInt (-9000) 9000 hi := by
    unfold clampInt
    omega
  unfold limitsTaken
  rw [kept]
  exact (if_neg under).trans (if_pos (by omega))

/-- A pair out of order at the upper end. -/
theorem limitsTaken_of_top {lo hi : ℤ} (top : 9000 ≤ lo) : limitsTaken lo hi = (8999, 9000) := by
  have kept : clampInt (-9000) 9000 lo = 9000 := by
    unfold clampInt
    omega
  have under : ¬9000 < clampInt (-9000) 9000 hi := by
    unfold clampInt
    omega
  unfold limitsTaken
  rw [kept]
  exact (if_neg under).trans (if_neg (by omega))

theorem clampAll_get {n hi : ℕ} (v : Vector ℕ n) (k : Fin n) : (clampAll hi v)[k] = min v[k] hi :=
  Vector.getElem_ofFn k.isLt

/-- A quantity clamped from 0. -/
theorem clamp_zero (hi n : ℕ) : clamp 0 hi n = min n hi := by
  unfold clamp
  omega

/-- The values of an AXIS write as taken (R18). -/
theorem axisTaken_some {d : AxisData} {x : AxisSettings} (taken : d.taken = some x) :
    (x.fitted = decide (d.fitted = 1) ∧ x.angleCh.val = d.angleCh ∧ x.pressCh.val = d.pressCh ∧
      x.tableMode.code = d.tableMode ∧ x.loopMode.code = d.loopMode ∧
      x.warningPattern.val = d.warningPattern ∧ x.warningLanes = d.warningLanes) ∧
    (x.lLo, x.lHi) = limitsTaken d.lLo d.lHi ∧
    x.dMax = min d.dMax 4095 ∧ x.dMin = min (min d.dMin 4095) x.dMax ∧
    x.inBand = max 5 (min d.inBand 500) ∧ x.settleCount = max 1 (min d.settleCount 50) ∧
    x.kp = min d.kp 255 ∧ x.slew = max 1 (min d.slew 4095) ∧
    x.stopSlew = max 1 (min d.stopSlew 4095) ∧ x.motionLimit = max 10 (min d.motionLimit 600) ∧
    x.warningTime = min (d.warningTime + 1) 32 ∧
    x.marginHi = min d.marginHi 32767 ∧ x.marginLo = min d.marginLo 32767 ∧
    (∀ n : Fin 32, x.ff[n] = min d.ff[n] 4095) ∧ (∀ n : Fin 16, x.prt[n] = min d.prt[n] 32767) := by
  obtain ⟨_, fitted, taken⟩ := Option.bind_eq_some_iff.1 taken
  obtain ⟨_, angleCh, taken⟩ := Option.bind_eq_some_iff.1 taken
  obtain ⟨_, pressCh, taken⟩ := Option.bind_eq_some_iff.1 taken
  obtain ⟨_, tableMode, taken⟩ := Option.bind_eq_some_iff.1 taken
  obtain ⟨_, loopMode, taken⟩ := Option.bind_eq_some_iff.1 taken
  obtain ⟨_, pattern, taken⟩ := Option.bind_eq_some_iff.1 taken
  obtain rfl := Option.some.inj taken
  refine ⟨⟨boolOfCode_some fitted, finOf?_some angleCh, finOf?_some pressCh, tableMode_some tableMode,
    loopMode_some loopMode, finOf?_some pattern, rfl⟩, rfl, rfl, rfl, clamp_eq (by decide) _,
    clamp_eq (by decide) _, clamp_zero _ _, clamp_eq (by decide) _, clamp_eq (by decide) _,
    clamp_eq (by decide) _, ?_, clamp_zero _ _, clamp_zero _ _, clampAll_get _, clampAll_get _⟩
  dsimp only
  omega

/-! ### CHANNEL, DOOR, ZONE and ROUTING -/

theorem depthTaken_eq (n : ℕ) : (depthTaken n = 1 ∨ depthTaken n = 2 ∨ depthTaken n = 4 ∨ depthTaken n = 8) ∧
    depthTaken n ≤ max n 1 ∧ (n < 2 * depthTaken n ∨ depthTaken n = 8) := by
  unfold depthTaken
  split
  · omega
  split
  · omega
  split <;> omega

theorem clampInt_of_range {lo hi x : ℤ} (low : lo ≤ x) (high : x ≤ hi) : clampInt lo hi x = x := by
  unfold clampInt
  omega

theorem channelTaken (d : ChannelData) : (d.taken = none ↔ 1 < d.enabled) ∧
    ∀ x, d.taken = some x → x.enabled = decide (d.enabled = 1) ∧ x.rawMin = min d.rawMin 4095 ∧
      x.rawMax = max (min d.rawMax 4095) x.rawMin ∧ x.zero = min d.zero 4095 ∧
      (x.depth = 1 ∨ x.depth = 2 ∨ x.depth = 4 ∨ x.depth = 8) ∧ x.depth ≤ max d.depth 1 ∧
      (d.depth < 2 * x.depth ∨ x.depth = 8) ∧
      (-32768 ≤ d.gain → d.gain ≤ 32767 → x.gain = d.gain) ∧
      (-32768 ≤ d.offset → d.offset ≤ 32767 → x.offset = d.offset) := by
  refine ⟨bind_some_none_iff boolOfCode_none_iff, fun x taken => ?_⟩
  obtain ⟨_, enabled, taken⟩ := Option.bind_eq_some_iff.1 taken
  obtain rfl := Option.some.inj taken
  obtain ⟨power, below, largest⟩ := depthTaken_eq d.depth
  exact ⟨boolOfCode_some enabled, rfl, rfl, rfl, power, below, largest, clampInt_of_range, clampInt_of_range⟩

theorem doorTaken (d : DoorData) : (d.taken = none ↔ 2 < d.kind ∨ 7 < d.zone ∨ 1 < d.seaClosed) ∧
    ∀ x, d.taken = some x → x.kind.code = d.kind ∧ x.zone.val = d.zone ∧
      x.seaClosed = decide (d.seaClosed = 1) ∧ x.closeLimit = max 5 (min d.closeLimit 120) ∧
      x.pause = max 1 (min d.pause 30) ∧ x.maxRetries = min d.maxRetries 7 := by
  refine ⟨bind_none_iff doorKind_none_iff fun _ => bind_none_iff finOf?_none_iff fun _ =>
    bind_some_none_iff boolOfCode_none_iff, fun x taken => ?_⟩
  obtain ⟨_, kind, taken⟩ := Option.bind_eq_some_iff.1 taken
  obtain ⟨_, zone, taken⟩ := Option.bind_eq_some_iff.1 taken
  obtain ⟨_, sea, taken⟩ := Option.bind_eq_some_iff.1 taken
  obtain rfl := Option.some.inj taken
  exact ⟨doorKind_some kind, finOf?_some zone, boolOfCode_some sea, clamp_eq (by decide) _,
    clamp_eq (by decide) _, clamp_zero _ _⟩

theorem zoneTaken (d : ZoneData) : (d.taken = none ↔ 1 < d.fireEnabled ∨ 63 < d.evacPattern) ∧
    ∀ x, d.taken = some x → x.lanes = d.lanes ∧ x.fireEnabled = decide (d.fireEnabled = 1) ∧
      x.evacPattern.val = d.evacPattern := by
  refine ⟨bind_none_iff boolOfCode_none_iff fun _ => bind_some_none_iff finOf?_none_iff, fun x taken => ?_⟩
  obtain ⟨_, fire, taken⟩ := Option.bind_eq_some_iff.1 taken
  obtain ⟨_, pattern, taken⟩ := Option.bind_eq_some_iff.1 taken
  obtain rfl := Option.some.inj taken
  exact ⟨rfl, boolOfCode_some fire, finOf?_some pattern⟩

theorem flagsTaken_none_iff {n : ℕ} {v : Vector ℕ n} : flagsTaken v = none ↔ ∃ k : Fin n, 1 < v[k] := by
  refine ⟨fun none' => ?_, flagsTaken_undefined⟩
  by_contra good
  push Not at good
  exact absurd (none'.symm.trans (flagsTaken_defined good)) nofun

theorem flagsTaken_some {n : ℕ} {v : Vector ℕ n} {x : Vector Bool n} (taken : flagsTaken v = some x)
    (k : Fin n) : x[k] = decide (v[k] = 1) := by
  unfold flagsTaken at taken
  split at taken
  · obtain rfl := Option.some.inj taken
    exact Vector.getElem_ofFn k.isLt
  · exact absurd taken nofun

theorem routingTaken (d : RoutingData) :
    (d.taken = none ↔ (∃ n : Fin 9, 1 < d.alarmEnable[n]) ∨ (∃ n : Fin 9, 1 < d.stopEnable[n]) ∨
      1 < d.stopFollowsAlarm) ∧
    ∀ x, d.taken = some x → x.stopFollowsAlarm = decide (d.stopFollowsAlarm = 1) ∧
      ∀ n : Fin 9, x.alarmEnable[n] = decide (d.alarmEnable[n] = 1) ∧
        x.stopEnable[n] = decide (d.stopEnable[n] = 1) := by
  refine ⟨bind_none_iff flagsTaken_none_iff fun _ => bind_none_iff flagsTaken_none_iff fun _ =>
    bind_some_none_iff boolOfCode_none_iff, fun x taken => ?_⟩
  obtain ⟨_, alarm, taken⟩ := Option.bind_eq_some_iff.1 taken
  obtain ⟨_, stop, taken⟩ := Option.bind_eq_some_iff.1 taken
  obtain ⟨_, follows, taken⟩ := Option.bind_eq_some_iff.1 taken
  obtain rfl := Option.some.inj taken
  exact ⟨boolOfCode_some follows, fun n => ⟨flagsTaken_some alarm n, flagsTaken_some stop n⟩⟩

/-! ### OUTPUT (R161) -/

theorem outputTaken_none {s : State} {d : OutputData} (nameless : OutSource.ofCode d.kind d.index = none) :
    s.outputTaken d = none := by
  unfold State.outputTaken
  rw [nameless]
  rfl

theorem outSourceExists_iff {s : State} {source : OutSource} : s.outSourceExists source = true ↔
    ∀ a, source = .axisActive a → s.settings.axes[a].fitted = true := by
  cases source with
  | axisActive b => exact ⟨fun fitted a same => OutSource.axisActive.inj same ▸ fitted, fun all => all b rfl⟩
  | fixed => exact ⟨fun _ _ => nofun, fun _ => rfl⟩
  | input => exact ⟨fun _ _ => nofun, fun _ => rfl⟩
  | permissive => exact ⟨fun _ _ => nofun, fun _ => rfl⟩
  | zoneAlarm => exact ⟨fun _ _ => nofun, fun _ => rfl⟩
  | alarmLine => exact ⟨fun _ _ => nofun, fun _ => rfl⟩

theorem boolOfCode_of_le {n : ℕ} (flag : n ≤ 1) : boolOfCode n = some (decide (n = 1)) := by
  interval_cases n <;> rfl

theorem outputTaken_some {s : State} {d : OutputData} {source : OutSource}
    (named : OutSource.ofCode d.kind d.index = some source) :
    s.outputTaken d =
      if d.invert ≤ 1 ∧ d.powerOn ≤ 1 ∧
          (∀ a, source = .axisActive a → s.settings.axes[a].fitted = true) then
        some ⟨source, decide (d.invert = 1), decide (d.powerOn = 1)⟩
      else none := by
  unfold State.outputTaken
  rw [named]
  by_cases invert : d.invert ≤ 1
  · by_cases powerOn : d.powerOn ≤ 1
    · rw [boolOfCode_of_le invert, boolOfCode_of_le powerOn]
      exact if_congr (outSourceExists_iff.trans ⟨fun fitted => ⟨invert, powerOn, fitted⟩, fun h => h.2.2⟩) rfl rfl
    · rw [boolOfCode_of_le invert, boolOfCode_none_iff.2 (not_le.1 powerOn), if_neg fun h => powerOn h.2.1]
      rfl
  · rw [boolOfCode_none_iff.2 (not_le.1 invert), if_neg fun h => invert h.1]
    rfl

theorem outSource_none_iff (kind index : ℕ) : OutSource.ofCode kind index = none ↔
    ¬(((kind = 0 ∨ kind = 5) ∧ index = 0) ∨ ((kind = 1 ∨ kind = 2) ∧ index < 16) ∨
      (kind = 3 ∧ index < 4) ∨ (kind = 4 ∧ index < 8)) := by
  match kind with
  | 0 => simp [OutSource.ofCode]
  | 1 => simp [OutSource.ofCode, finOf?_eq_none]
  | 2 => simp [OutSource.ofCode, finOf?_eq_none]
  | 3 => simp [OutSource.ofCode, finOf?_eq_none]
  | 4 => simp [OutSource.ofCode, finOf?_eq_none]
  | 5 => simp [OutSource.ofCode]
  | n + 6 => simp [OutSource.ofCode]

/-- Settles O51: a refusal is an undefined code or name, and each quantity as taken is its clamp. -/
theorem settingsAreTakenClamped : Obligations.SettingsAreTakenClamped := by
  refine ⟨fun d => ⟨axisTaken_none_iff d, fun x taken => ?_⟩, channelTaken, doorTaken, zoneTaken, routingTaken,
    fun s d source => outputTaken_some, fun s d => outputTaken_none, outSource_none_iff⟩
  obtain ⟨names, limits, rest⟩ := axisTaken_some taken
  have ordered := limitsTaken_ordered d.lLo d.lHi
  rw [← limits] at ordered
  refine ⟨names, ordered, fun low ordered high => ?_, fun crossed low high => ?_, fun top _ => ?_, rest⟩
  · exact Prod.ext_iff.1 (limits.trans (limitsTaken_of_ordered low ordered high))
  · exact Prod.ext_iff.1 (limits.trans (limitsTaken_of_crossed crossed low high))
  · exact Prod.ext_iff.1 (limits.trans (limitsTaken_of_top top))

end Sys2Proof.Proofs
end

section
/-! SUPPORT. The measurement unit and the door scan chain (01): completions, samples and scans. -/

open Sys2Proof Sys2Proof.Machine

namespace Sys2Proof.Proofs

/-! ### The record after a completion (R2 to R6) -/

section
variable {r : ChannelRecord} {x : ChannelSettings} {raw : ℕ} {now : DeckTime}

theorem inRange_iff : inRange x raw = true ↔ x.rawMin ≤ raw ∧ raw ≤ x.rawMax := by
  unfold inRange
  rw [Bool.and_eq_true, decide_eq_true_eq, decide_eq_true_eq]

theorem complete_accepted (valid : r.valid = true) (within : inRange x raw = true) :
    r.complete x raw now = { r with raw := raw, count := 0 }.accept x raw := by
  simp [ChannelRecord.complete, ChannelRecord.validityStep, valid, within]

theorem complete_out (valid : r.valid = true) (out : inRange x raw = false) (few : r.count < 2) :
    r.complete x raw now = { r with raw := raw, count := r.count + 1 } := by
  simp [ChannelRecord.complete, ChannelRecord.validityStep, valid, out, few]

theorem complete_lost (valid : r.valid = true) (out : inRange x raw = false) (third : 2 ≤ r.count) :
    r.complete x raw now = { r with raw := raw, valid := false, count := 0, changed := now } := by
  simp [ChannelRecord.complete, ChannelRecord.validityStep, valid, out, third]

theorem complete_still_out (invalid : r.valid = false) (out : inRange x raw = false) :
    r.complete x raw now = { r with raw := raw, count := 0 } := by
  simp [ChannelRecord.complete, ChannelRecord.validityStep, invalid, out]

theorem complete_in (invalid : r.valid = false) (within : inRange x raw = true) (few : r.count < 2) :
    r.complete x raw now = { r with raw := raw, count := r.count + 1 } := by
  have step : ({ r with raw := raw } : ChannelRecord).validityStep true now =
      { r with raw := raw, count := r.count + 1 } := by
    unfold ChannelRecord.validityStep
    rw [if_neg (by rw [invalid]; exact nofun), if_neg nofun, if_pos (Nat.succ_lt_succ few)]
  unfold ChannelRecord.complete
  rw [within, step]
  simp [invalid]

theorem complete_found (invalid : r.valid = false) (within : inRange x raw = true) (third : 2 ≤ r.count) :
    r.complete x raw now = ({ r with
      raw := raw, valid := true, count := 0, changed := now, everValid := true, filter := [] }
        : ChannelRecord).accept x raw := by
  have step : ({ r with raw := raw } : ChannelRecord).validityStep true now =
      { r with raw := raw, valid := true, count := 0, changed := now, everValid := true, filter := [] } := by
    unfold ChannelRecord.validityStep
    rw [if_neg (by rw [invalid]; exact nofun), if_neg nofun, if_neg (Nat.not_lt.2 (Nat.succ_le_succ third))]
  unfold ChannelRecord.complete
  rw [within, step]
  rfl

end

/-- The record after a completion, clause by clause (R2 to R6). -/
theorem complete_rules (old : ChannelRecord) (x : ChannelSettings) (raw : ℕ) (now : DeckTime) :
    let within := x.rawMin ≤ raw ∧ raw ≤ x.rawMax
    let new := old.complete x raw now
    new.raw = raw ∧
    (old.valid = true → within → new.valid = true ∧ new.count = 0) ∧
    (old.valid = true → ¬within → old.count < 2 → new.valid = true ∧ new.count = old.count + 1) ∧
    (old.valid = true → ¬within → 2 ≤ old.count →
      new.valid = false ∧ new.count = 0 ∧ new.changed = now) ∧
    (old.valid = false → ¬within → new.valid = false ∧ new.count = 0) ∧
    (old.valid = false → within → old.count < 2 →
      new.valid = false ∧ new.count = old.count + 1) ∧
    (old.valid = false → within → 2 ≤ old.count →
      new.valid = true ∧ new.count = 0 ∧ new.changed = now ∧ new.everValid = true ∧
      new.filter = [raw].drop (1 - x.depth)) ∧
    (new.valid = old.valid → new.changed = old.changed ∧ new.everValid = old.everValid) ∧
    (new.valid = false → new.everValid = old.everValid) ∧
    (old.valid = true → within →
      new.filter = (old.filter ++ [raw]).drop (old.filter.length + 1 - x.depth)) ∧
    (within ∧ new.valid = true →
      new.filtered = new.filter.sum / new.filter.length ∧
      new.scaled = scaleValue new.filtered x.zero x.gain x.offset) ∧
    (¬(within ∧ new.valid = true) →
      new.filter = old.filter ∧ new.filtered = old.filtered ∧ new.scaled = old.scaled) := by
  intro within new
  have ranged : inRange x raw = true ↔ within := inRange_iff
  have unranged : inRange x raw = false ↔ ¬within := by rw [← ranged, Bool.not_eq_true]
  rcases Bool.eq_false_or_eq_true old.valid with valid | invalid
  · by_cases in' : within
    · have made : new = _ := complete_accepted valid (ranged.2 in')
      simp [made, ChannelRecord.accept, lastN, filterMean, valid, in']
    · rcases Nat.lt_or_ge old.count 2 with few | third
      · have made : new = _ := complete_out valid (unranged.2 in') few
        simp [made, valid, in', few]
      · have made : new = _ := complete_lost valid (unranged.2 in') third
        simp [made, valid, in', Nat.lt_of_succ_le third]
  · by_cases in' : within
    · rcases Nat.lt_or_ge old.count 2 with few | third
      · have made : new = _ := complete_in invalid (ranged.2 in') few
        simp [made, invalid, in', few]
      · have made : new = _ := complete_found invalid (ranged.2 in') third
        simp [made, ChannelRecord.accept, lastN, filterMean, invalid, in', Nat.lt_of_succ_le third]
    · have made : new = _ := complete_still_out invalid (unranged.2 in')
      simp [made, invalid, in']

/-- A quotient truncated toward zero. -/
theorem tdiv_truncates (p : ℤ) : (0 ≤ p → p.tdiv 4096 * 4096 ≤ p ∧ p < (p.tdiv 4096 + 1) * 4096) ∧
    (p < 0 → p ≤ p.tdiv 4096 * 4096 ∧ (p.tdiv 4096 - 1) * 4096 < p) := by
  refine ⟨fun pos => ?_, fun neg => ?_⟩
  · rw [Int.tdiv_eq_ediv_of_nonneg pos]
    omega
  · have turned : p.tdiv 4096 = -(-p / 4096) := by
      rw [← Int.tdiv_eq_ediv_of_nonneg (by omega), Int.neg_tdiv, Int.neg_neg]
    rw [turned]
    omega

theorem completion_eq (u : State) (k : Fin 12) (raw : ℕ) :
    let old := u.channels[k]
    let new := old.complete u.settings.channels[k] raw u.clock
    u.completion k raw = { u with
      channels := u.channels.set k new
      handed := u.handed ++
        ((if new.valid ≠ old.valid then u.validityNotices k new.valid else []) ++
        (if new.valid ≠ old.valid ∨ new.scaled ≠ old.scaled then
          [.sourceChange (.channel k) ⟨new.scaled, new.valid⟩] else []) ++
        u.completionNotices k ⟨new.scaled, new.valid⟩) } := by
  intro old new
  have change : u.changeNotices k old new =
      (if new.valid ≠ old.valid then u.validityNotices k new.valid else []) ++
      (if new.valid ≠ old.valid ∨ new.scaled ≠ old.scaled then
        [.sourceChange (.channel k) ⟨new.scaled, new.valid⟩] else []) :=
    congrArg₂ (· ++ ·) (if_congr ne_comm rfl rfl) (if_congr (or_congr ne_comm ne_comm) rfl rfl)
  rw [← change]
  rfl

/-- Settles O6. -/
theorem channelCompletionUpdatesRecord : Obligations.ChannelCompletionUpdatesRecord := by
  refine ⟨?_, ?_⟩
  · intro k raw s running x old i within
    refine ⟨fun off => ?_, fun on => ?_⟩
    · exact runEvent_stays (f := fun u => if u.settings.channels[k].enabled then u.completion k raw else u) running
        (if_neg (by rw [show (s.taken i).settings.channels[k].enabled = false from off]; exact nofun))
    · let new := old.complete x raw s.clock
      have goes : exec i s = .next { s.acted i [] with
          channels := s.channels.set k new
          handed := s.handed.erase i ++
            ((if new.valid ≠ old.valid then s.validityNotices k new.valid else []) ++
            (if new.valid ≠ old.valid ∨ new.scaled ≠ old.scaled then
              [.sourceChange (.channel k) ⟨new.scaled, new.valid⟩] else []) ++
            s.completionNotices k ⟨new.scaled, new.valid⟩) } := by
        change execChannelCompletion k raw s = _
        unfold execChannelCompletion
        rw [runEvent_of_running running, if_pos (show (s.taken i).settings.channels[k].enabled = true from on),
          completion_eq]
        rfl
      have stands : (s.channels.set k new)[k] = new := set_get_self _ _ _
      refine ⟨_, goes, ?_⟩
      dsimp only
      rw [stands]
      exact ⟨rfl, complete_rules old x raw s.clock⟩
  · intro filtered zeroRaw gain offset p
    refine ⟨p.tdiv 4096, (tdiv_truncates p).1, (tdiv_truncates p).2, ?_⟩
    change min (max (p.tdiv 4096 + offset) (-32768)) 32767 = _
    omega

/-! ### Samples of a discrete input (R11) -/

theorem levels_put_get (v : InputLevels) (x : Input) : v.put x (v.get x) = v := by
  cases v
  cases x <;> simp [InputLevels.put, InputLevels.get, Vector.set_getElem_self]

theorem levels_get_put (v : InputLevels) (x : Input) (b : Bool) : (v.put x b).get x = b := by
  cases x <;> simp [InputLevels.put, InputLevels.get]

theorem levels_put_put (v : InputLevels) (x : Input) (b c : Bool) : (v.put x b).put x c = v.put x c := by
  cases x <;> simp [InputLevels.put]

/-- One more sample, `p` holding the debounced level, the last sample and the changes so far (R11). -/
def sampled (p : Bool × Bool × List Bool) (b : Bool) : Bool × Bool × List Bool :=
  if b = p.2.1 ∧ b ≠ p.1 then (b, b, p.2.2 ++ [b]) else (p.1, b, p.2.2)

/-- Samples taken after some changes add theirs. -/
theorem sampled_foldl (samples : List Bool) (level last : Bool) (told : List Bool) :
    samples.foldl sampled (level, last, told) =
      ((samples.foldl sampled (level, last, [])).1, (samples.foldl sampled (level, last, [])).2.1,
        told ++ (samples.foldl sampled (level, last, [])).2.2) := by
  induction samples generalizing level last told with
  | nil => simp
  | cons b samples ih =>
    simp only [List.foldl_cons]
    by_cases changes : b = last ∧ b ≠ level
    · have step (t : List Bool) : sampled (level, last, t) b = (b, b, t ++ [b]) := if_pos changes
      rw [step, step, ih b b (told ++ [b]), ih b b ([] ++ [b]), List.append_assoc, List.nil_append]
    · have step (t : List Bool) : sampled (level, last, t) b = (level, b, t) := if_neg changes
      rw [step, step, ih level b told]

/-- `s` after samples of one input. -/
def afterSamples (s : State) (x : Input) (run : Bool × Bool × List Bool) : State :=
  { s with
    inputs := ⟨s.inputs.levels.put x run.1, s.inputs.last.put x run.2.1⟩
    handed := s.handed ++ run.2.2.flatMap (inputNotices x) }

theorem sampleInput_eq (s : State) (x : Input) (b : Bool) : s.sampleInput x b =
    afterSamples s x (sampled (s.inputs.levels.get x, s.inputs.last.get x, []) b) := by
  unfold State.sampleInput
  by_cases changes : b = s.inputs.last.get x ∧ b ≠ s.inputs.levels.get x
  · have takes : debounce (s.inputs.levels.get x) (s.inputs.last.get x) b = b := if_pos changes.1
    have step : sampled (s.inputs.levels.get x, s.inputs.last.get x, []) b = (b, b, [b]) := if_pos changes
    unfold InputUnit.sample afterSamples
    rw [step, takes, if_neg changes.2, List.flatMap_singleton]
    rfl
  · have stays : debounce (s.inputs.levels.get x) (s.inputs.last.get x) b = s.inputs.levels.get x := by
      unfold debounce
      split
      · rename_i same
        exact not_not.1 fun other => changes ⟨same, other⟩
      · rfl
    have step : sampled (s.inputs.levels.get x, s.inputs.last.get x, []) b = (s.inputs.levels.get x, b, []) :=
      if_neg changes
    unfold InputUnit.sample afterSamples
    rw [step, stays, if_pos rfl, List.flatMap_nil, List.append_nil]

theorem afterSamples_afterSamples (s : State) (x : Input) (p q : Bool × Bool × List Bool) :
    afterSamples (afterSamples s x p) x q = afterSamples s x (q.1, q.2.1, p.2.2 ++ q.2.2) := by
  unfold afterSamples
  rw [levels_put_put, levels_put_put, List.append_assoc, ← List.flatMap_append]

theorem sampleInputs_eq (s : State) (x : Input) (samples : List Bool) :
    samples.foldl (fun s b => s.sampleInput x b) s =
      afterSamples s x (samples.foldl sampled (s.inputs.levels.get x, s.inputs.last.get x, [])) := by
  induction samples generalizing s with
  | nil =>
    unfold afterSamples
    simp only [List.foldl_nil, levels_put_get, List.flatMap_nil, List.append_nil]
  | cons b samples ih =>
    let p := sampled (s.inputs.levels.get x, s.inputs.last.get x, []) b
    have levels : (afterSamples s x p).inputs.levels.get x = p.1 := levels_get_put _ _ _
    have last : (afterSamples s x p).inputs.last.get x = p.2.1 := levels_get_put _ _ _
    rw [List.foldl_cons, List.foldl_cons, ih, sampleInput_eq, levels, last, afterSamples_afterSamples,
      ← sampled_foldl]

/-- Samples that alternate change nothing (R11). -/
theorem sampled_alternating {level last : Bool} {samples : List Bool}
    (chain : (last :: samples).IsChain (· ≠ ·)) :
    (samples.foldl sampled (level, last, [])).1 = level ∧ (samples.foldl sampled (level, last, [])).2.2 = [] := by
  induction samples generalizing last with
  | nil => exact ⟨rfl, rfl⟩
  | cons b samples ih =>
    obtain ⟨other, rest⟩ := List.isChain_cons_cons.1 chain
    have step : sampled (level, last, []) b = (level, b, []) := if_neg fun h => other h.1.symm
    rw [List.foldl_cons, step]
    exact ih rest

/-- Two equal samples are taken (R11). -/
theorem sampled_twice (level last b : Bool) :
    ([b, b].foldl sampled (level, last, [])).1 = b ∧ ([b, b].foldl sampled (level, last, [])).2.1 = b := by
  cases level <;> cases last <;> cases b <;> exact ⟨rfl, rfl⟩

/-! ### Door scans (R13 to R15) -/

theorem scanNotices_eq (c : DoorChain) (samples : Vector DoorInputs 32) :
    scanNotices c (c.scan samples) = ((List.finRange 32).filter fun d =>
      decide (c.levels[d] ≠ debounceDoor c.levels[d] c.last[d] samples[d])).map fun d =>
        .doorInputChange d (debounceDoor c.levels[d] c.last[d] samples[d]) := by
  have levels (d : Fin 32) : (c.scan samples).levels[d] = debounceDoor c.levels[d] c.last[d] samples[d] :=
    Vector.getElem_ofFn d.isLt
  rw [← flatMap_ifs]
  unfold scanNotices
  refine List.flatMap_congr fun d _ => ?_
  rw [levels]
  simp only [decide_eq_true_eq, ne_eq, ite_not]

/-- Settles O7: the samples of an input are one fold, each change told as it is taken. -/
theorem inputsAndDoorScansAreHandedOn : Obligations.InputsAndDoorScansAreHandedOn := by
  refine ⟨?_, ?_⟩
  · intro x samples s running i level last run becomes
    have goes (samples : List Bool) : exec (.discreteInputChange x samples) s =
        .next (afterSamples (s.acted (.discreteInputChange x samples) []) x
          (samples.foldl sampled (level, last, []))) := by
      change runEvent _ s (fun u => samples.foldl (fun u b => u.sampleInput x b) u) = _
      rw [runEvent_of_running running, sampleInputs_eq]
      rfl
    have told (f : Bool → List Instr) (same : inputNotices x = f) : becomes f := by
      subst same
      exact goes samples
    refine ⟨?_, ?_, ?_, ?_, ?_, ?_, ?_, fun b => ?_, fun chain => ?_⟩
    · rintro rfl
      exact told _ rfl
    · rintro rfl
      exact told _ (funext fun b => by cases b <;> rfl)
    · rintro rfl
      exact told _ rfl
    · rintro _ rfl
      exact told _ rfl
    · rintro _ rfl
      exact told _ rfl
    · rintro _ rfl
      exact told _ rfl
    · rintro _ rfl
      exact told _ (funext fun b => by cases b <;> rfl)
    · exact ⟨_, goes [b, b], (levels_get_put _ _ _).trans (sampled_twice level last b).1,
        (levels_get_put _ _ _).trans (sampled_twice level last b).2⟩
    · obtain ⟨stays, quiet⟩ := sampled_alternating (level := level) chain
      refine ⟨_, goes samples, ?_, ?_⟩
      · unfold afterSamples
        dsimp only
        rw [stays]
        exact levels_put_get _ _
      · unfold afterSamples
        dsimp only
        rw [quiet]
        exact List.append_nil _
  · intro samples s running i pick levels
    change runEvent i s (fun u => { u with chain := u.chain.scan samples }.hand
      (scanNotices u.chain (u.chain.scan samples))) = _
    rw [runEvent_of_running running, scanNotices_eq]
    rfl

end Sys2Proof.Proofs
end

section
/-! SUPPORT. How records and blocks are laid out in bytes (12): fields spelled one after another. -/

open Sys2Proof Sys2Proof.Machine

namespace Sys2Proof.Proofs

/-! ### A value spelled in bytes -/

/-- The lowest byte of a value. -/
def octet (v : ℤ) : Byte := BitVec.ofInt 8 v

/-- The `w` bytes of a value, most significant first. -/
def spell : ℕ → ℤ → List Byte
  | 0, _ => []
  | w + 1, v => octet (v / 256 ^ w) :: spell w v

theorem length_spell (w : ℕ) (v : ℤ) : (spell w v).length = w := by
  induction w with
  | zero => rfl
  | succ w ih => rw [spell, List.length_cons, ih]

/-- The number that bytes read after `n` make. -/
theorem foldl_spell (w n : ℕ) (v : ℤ) :
    (((spell w v).foldl (fun n b => 256 * n + b.toNat) n : ℕ) : ℤ) = 256 ^ w * n + v % 256 ^ w := by
  induction w generalizing n with
  | zero => simp [spell]
  | succ w ih =>
    have byte : ((octet (v / 256 ^ w)).toNat : ℤ) = v / 256 ^ w % 256 := by
      rw [octet, BitVec.toNat_ofInt]
      omega
    have parts : v % 256 ^ (w + 1) = 256 ^ w * (v / 256 ^ w % 256) + v % 256 ^ w := by
      rw [pow_succ, Int.emod_def, Int.emod_def, Int.emod_def, ← Int.ediv_ediv_of_nonneg (by positivity)]
      ring
    rw [spell, List.foldl_cons, ih]
    push_cast
    rw [byte, parts]
    ring

theorem fieldAt_spell (pre post : List Byte) (w : ℕ) (v : ℤ) :
    (fieldAt (pre ++ (spell w v ++ post)) pre.length w : ℤ) = v % 256 ^ w := by
  have read : (((pre ++ (spell w v ++ post)).drop pre.length).take w) = spell w v := by
    rw [List.drop_left, List.take_append_of_le_length (length_spell w v).ge, List.take_of_length_le (length_spell w v).le]
  unfold fieldAt
  rw [read, foldl_spell]
  simp

/-! ### Fields spelled one after another -/

/-- The bytes from offset `o` begin with each field in turn. -/
def Lays (o : ℕ) : List Byte → List (ℕ × ℕ × ℤ) → Prop
  | _, [] => True
  | bs, (p, w, v) :: fs => p = o ∧ ∃ rest, bs = spell w v ++ rest ∧ Lays (o + w) rest fs

/-- The bytes that fields take up. -/
def wide (fs : List (ℕ × ℕ × ℤ)) : ℕ := (fs.map (·.2.1)).sum

theorem carries_of_lays {pre bs : List Byte} {fs : List (ℕ × ℕ × ℤ)} (lays : Lays pre.length bs fs) :
    Carries (pre ++ bs) fs := by
  induction fs generalizing pre bs with
  | nil => exact fun f mem => absurd mem List.not_mem_nil
  | cons f fs ih =>
    obtain ⟨p, w, v⟩ := f
    obtain ⟨rfl, rest, rfl, later⟩ := lays
    intro g mem
    rcases List.mem_cons.1 mem with rfl | after
    · exact fieldAt_spell pre rest w v
    · rw [← List.append_assoc]
      refine ih ?_ g after
      rwa [List.length_append, length_spell]

theorem carries_of_lays_zero {bs : List Byte} {fs : List (ℕ × ℕ × ℤ)} (lays : Lays 0 bs fs) : Carries bs fs :=
  carries_of_lays (pre := []) lays

theorem lays_append {o : ℕ} {bs cs : List Byte} {fs gs : List (ℕ × ℕ × ℤ)} (lays : Lays o bs fs)
    (full : bs.length = wide fs) (later : Lays (o + wide fs) cs gs) : Lays o (bs ++ cs) (fs ++ gs) := by
  induction fs generalizing o bs with
  | nil =>
    obtain rfl := List.length_eq_zero_iff.1 full
    exact later
  | cons f fs ih =>
    obtain ⟨p, w, v⟩ := f
    obtain ⟨rfl, rest, rfl, lays⟩ := lays
    have sum : wide ((p, w, v) :: fs) = w + wide fs := List.sum_cons
    rw [sum, List.length_append, length_spell] at full
    rw [sum, ← Nat.add_assoc] at later
    exact ⟨rfl, rest ++ cs, List.append_assoc _ _ _, ih lays (Nat.add_left_cancel full) later⟩

/-- A record whose bytes begin with each field in turn is laid out so (12). -/
theorem laid_of_lays {bs : List Byte} {n : ℕ} {fs : List (ℕ × ℕ × ℤ)} (lays : Lays 0 bs fs)
    (length : bs.length = n) : Laid bs n fs := ⟨length, carries_of_lays_zero lays⟩

section
variable {o p w : ℕ} {u v : ℤ} {bs : List Byte} {fs : List (ℕ × ℕ × ℤ)}

@[simp] theorem lays_nil : Lays o bs [] := trivial

@[simp] theorem lays_spell : Lays o (spell w u ++ bs) ((p, w, v) :: fs) ↔
    p = o ∧ spell w u = spell w v ∧ Lays (o + w) bs fs := by
  constructor
  · rintro ⟨at', rest, same, later⟩
    obtain ⟨field, rfl⟩ := List.append_inj same (by rw [length_spell, length_spell])
    exact ⟨at', field, later⟩
  · rintro ⟨at', field, later⟩
    exact ⟨at', bs, by rw [field], later⟩

@[simp] theorem lays_last : Lays o (spell w u) [(p, w, v)] ↔ p = o ∧ spell w u = spell w v := by
  have whole := lays_spell (o := o) (p := p) (w := w) (u := u) (v := v) (bs := []) (fs := [])
  rwa [List.append_nil, iff_true_intro lays_nil, and_true] at whole

@[simp] theorem lays_byte : Lays o (octet u :: bs) ((p, 1, v) :: fs) ↔
    p = o ∧ octet u = octet v ∧ Lays (o + 1) bs fs := by
  have one (x : ℤ) : spell 1 x = [octet x] := by simp [spell]
  have whole := lays_spell (o := o) (p := p) (w := 1) (u := u) (v := v) (bs := bs) (fs := fs)
  rwa [one, one, List.cons.injEq, eq_self, and_true] at whole

end

/-! ### Quantities, flags, codes and times as fields -/

theorem octet_emod (v : ℤ) {m : ℤ} (wide : (256 : ℤ) ∣ m) : octet (v % m) = octet v := by
  refine BitVec.eq_of_toNat_eq ?_
  rw [octet, octet, BitVec.toNat_ofInt, BitVec.toNat_ofInt]
  exact congrArg Int.toNat (Int.emod_emod_of_dvd v wide)

@[simp] theorem byte_eq (n : ℕ) : byte n = octet n := (BitVec.ofInt_natCast 8 n).symm

@[simp] theorem be16_eq (n : ℕ) : be16 n = spell 2 n := by
  simp [be16, spell, byte_eq]

@[simp] theorem be32_eq (n : ℕ) : be32 n = spell 4 n := by
  simp [be32, spell, byte_eq]

theorem spell_emod (w : ℕ) (v : ℤ) {m : ℤ} (wide : 256 ^ w ∣ m) : spell w (v % m) = spell w v := by
  induction w with
  | zero => rfl
  | succ w ih =>
    obtain ⟨k, rfl⟩ := wide
    have top : v % (256 ^ (w + 1) * k) / 256 ^ w = v / 256 ^ w % (256 * k) := by
      have split : v % (256 ^ (w + 1) * k) = v + 256 ^ w * -(256 * k * (v / 256 ^ w / (256 * k))) := by
        rw [Int.emod_def, pow_succ, mul_assoc (256 ^ w) 256 k, Int.ediv_ediv_of_nonneg (by positivity)]
        ring
      rw [split, Int.add_mul_ediv_left _ _ (by positivity), Int.emod_def, sub_eq_add_neg]
    rw [spell, spell, top, octet_emod _ (Dvd.intro k rfl),
      ih ((pow_dvd_pow 256 (Nat.le_succ w)).trans (Dvd.intro k rfl))]

@[simp] theorem beInt16_eq (i : ℤ) : beInt16 i = spell 2 i := by
  have cut : ((BitVec.ofInt 16 i).toNat : ℤ) = i % 65536 := by
    rw [BitVec.toNat_ofInt]
    omega
  rw [beInt16, be16_eq, cut]
  exact spell_emod 2 i (by norm_num)

@[simp] theorem beInt32_eq (i : ℤ) : beInt32 i = spell 4 i := by
  have cut : ((BitVec.ofInt 32 i).toNat : ℤ) = i % 4294967296 := by
    rw [BitVec.toNat_ofInt]
    omega
  rw [beInt32, be32_eq, cut]
  exact spell_emod 4 i (by norm_num)

@[simp] theorem beTimer_eq (t : Option ℕ) : beTimer t = spell 4 (timerField t) := by
  cases t <;> exact be32_eq _

@[simp] theorem beTime_eq (t : Option DeckTime) : beTime t = spell 4 (timeField t) := be32_eq _

@[simp] theorem codeField_eq {α : Type} (x : Option α) (code : α → ℕ) : codeField x code = ((x.elim 0 code : ℕ) : ℤ) := by
  cases x <;> rfl

theorem flagBits_from (bs : List Bool) (k : ℕ) : ((bs.zipIdx k).map fun x => if x.1 then (2 : ℤ) ^ x.2 else 0).sum =
    2 ^ k * ((bs.foldr (fun b n => 2 * n + b.toNat) 0 : ℕ) : ℤ) := by
  induction bs generalizing k with
  | nil => rfl
  | cons b bs ih =>
    rw [List.zipIdx_cons, List.map_cons, List.sum_cons, ih, List.foldr_cons]
    push_cast
    cases b <;> (simp; ring)

theorem flagBits_eq (bs : List Bool) : flagBits bs = ((bs.foldr (fun b n => 2 * n + b.toNat) 0 : ℕ) : ℤ) := by
  rw [flagBits, flagBits_from, pow_zero, one_mul]

@[simp] theorem bitsByte_eq (bs : List Bool) : bitsByte bs = octet (flagBits bs) := by
  rw [flagBits_eq]
  exact byte_eq _

@[simp] theorem bits16_eq (bs : List Bool) : bits16 bs = spell 2 (flagBits bs) := by
  rw [flagBits_eq]
  exact be16_eq _

@[simp] theorem boolByte_eq (b : Bool) : boolByte b = octet (flagBits [b]) := by
  cases b <;> rfl

end Sys2Proof.Proofs
end

section
/-! SUPPORT. The status requests and their records (12.4, 12.6). -/

open Sys2Proof Sys2Proof.Machine

namespace Sys2Proof.Proofs

/-! ### Records of fixed length -/

theorem laid_channelBytes (s : State) (k : Fin 12) :
    let r := s.channels[k]
    Laid (s.channelBytes k) 14 [(0, 1, k.val),
      (1, 1, flagBits [s.settings.channels[k].enabled, r.everValid]), (2, 1, flagBits [!r.valid]),
      (3, 1, r.count), (4, 2, r.raw), (6, 2, r.filtered), (8, 2, r.scaled), (10, 4, r.changed.toNat)] := by
  refine laid_of_lays ?_ rfl
  simp [State.channelBytes, validityByte]

theorem motionBytes_eq (m : Option MotionRecord) : motionBytes m =
    [octet (codeField m (·.origin.code)), octet (codeField m (·.kind.code))] ++
      spell 2 ((m.bind (·.target)).getD 0) ++ spell 4 (timeField (m.map (·.start))) ++
      spell 4 (timeField (m.bind (·.finish))) ++
      [octet (codeField (m.bind (·.outcome)) MotionOutcome.code)] := by
  cases m with
  | none => rfl
  | some m => simp [motionBytes, timeField]

theorem motionFlags_eq (m : Option MotionRecord) : motionFlags m = octet (flagBits [m.isSome,
    m.any (·.target.isSome), m.any (·.finish.isSome), m.any (·.outcome.isSome)]) := by
  cases m with
  | none => rfl
  | some m => simp [motionFlags]

theorem laid_axisBytes (s : State) (a : Fin 4) :
    let x := s.axes[a]
    let auth := s.station.auth[a]
    let angle := s.channels[s.settings.axes[a].angleCh]
    let pressure := s.channels[s.settings.axes[a].pressCh]
    let motion := fun (f : MotionRecord → Bool) => x.motion.any f
    Laid (s.axisBytes a) 47 [(0, 1, a.val),
      (1, 1, flagBits [s.settings.axes[a].fitted, x.target.isSome, x.direction.isSome,
        x.stopOutcome.isSome, x.tripKind.isSome, auth.request.isSome]),
      (2, 1, flagBits [x.motion.isSome, motion (·.target.isSome), motion (·.finish.isSome),
        motion (·.outcome.isSome)]),
      (3, 1, x.state.code), (4, 1, codeField x.direction Direction.code),
      (5, 1, codeField x.stopOutcome MotionOutcome.code), (6, 1, codeField x.tripKind TripKind.code),
      (7, 2, x.target.getD 0), (9, 2, x.c), (11, 2, x.staged), (13, 1, x.settle),
      (14, 1, codeField auth.holder Link.code),
      (15, 1, codeField (auth.request.map (·.requester)) Link.code),
      (16, 4, timerField x.warning), (20, 4, timerField x.motionTimer), (24, 4, timerField x.refresh),
      (28, 2, angle.scaled), (30, 1, flagBits [!angle.valid]), (31, 2, pressure.scaled),
      (33, 1, flagBits [!pressure.valid]),
      (34, 1, codeField x.motion (·.origin.code)), (35, 1, codeField x.motion (·.kind.code)),
      (36, 2, (x.motion.bind (·.target)).getD 0), (38, 4, timeField (x.motion.map (·.start))),
      (42, 4, timeField (x.motion.bind (·.finish))),
      (46, 1, codeField (x.motion.bind (·.outcome)) MotionOutcome.code)] := by
  refine laid_of_lays ?_ ?_
  · simp [State.axisBytes, directionCode, validityByte, motionBytes_eq, motionFlags_eq, State.requester, State.holder,
      State.angle, State.pressure, Link.codeOpt]
  · simp [State.axisBytes, motionBytes_eq, length_spell]

theorem laid_doorBytes (s : State) (d : Fin 32) :
    let x := s.doors[d]
    let i := s.chain.levels[d]
    let o := s.chain.outputs[d]
    Laid (s.doorBytes d) 37 [(0, 1, d.val), (1, 1, s.settings.doors[d].kind.code),
      (2, 1, s.settings.doors[d].zone.val), (3, 1, x.state.code), (4, 1, x.retry),
      (5, 1, flagBits [s.settings.doors[d].seaClosed, x.closeDuration.isSome, x.cause.isSome]),
      (6, 1, codeField x.cause FaultCause.code),
      (7, 1, flagBits [i.openSwitch, i.closedSwitch, i.edge]),
      (8, 1, flagBits [o.magnet, o.closeDrive, o.openDrive]),
      (9, 4, x.closingSince.toNat), (13, 4, x.lastRelease.toNat), (17, 4, x.lastClosed.toNat),
      (21, 4, ((x.closeDuration.getD 0 : Nat) : Int)), (25, 4, timerField x.travel),
      (29, 4, timerField x.pause), (33, 4, timerField x.conflict)] := by
  refine laid_of_lays ?_ rfl
  simp [State.doorBytes]

theorem laid_zoneBytes (s : State) (z : Fin 8) :
    let x := s.zones[z]
    Laid (s.zoneBytes z) 10 [(0, 1, z.val), (1, 1, flagBits [x.alarm]),
      (2, 1, flagBits [s.settings.zones[z].fireEnabled, x.manual, x.fire, x.since.isSome]),
      (3, 2, s.settings.zones[z].lanes.toNat), (5, 4, timeField x.since),
      (9, 1, s.openCounts.zone[z])] := by
  refine laid_of_lays ?_ rfl
  simp [State.zoneBytes]

theorem laid_termBytes (s : State) (t : Fin 64) :
    let x := s.settings.terms[t]
    let v := x.source.map s.sourceValue
    Laid (s.termBytes t) 10 [(0, 1, t.val), (1, 1, codeField x.source Source.kindCode),
      (2, 1, codeField x.source Source.index), (3, 1, x.cmp.code), (4, 2, x.const),
      (6, 1, flagBits [s.evaluator.values[t]]), (7, 2, v.elim 0 (·.value)),
      (9, 1, flagBits [v.isSome, v.any (!·.valid)])] := by
  refine laid_of_lays ?_ rfl
  simp [State.termBytes, TermSettings.data]

theorem laid_boardBytes (s : State) (b : Fin 16) :
    let x := s.scanner.shown[b]
    let k := s.scanner.buttons[b]
    let boards := s.scanner.frame.elim s.settings.boards (·.boards)
    Laid (s.boardBytes b) 7 [(0, 1, b.val),
      (1, 1, flagBits [decide (b.val < boards), x.winner.isSome, x.pattern.isSome, k.pressed]),
      (2, 1, codeField x.winner (·.1)), (3, 1, codeField x.winner (·.2)),
      (4, 1, codeField x.pattern (·.val)), (5, 1, flagBits [!x.lit]), (6, 1, k.count)] := by
  refine laid_of_lays ?_ rfl
  simp [State.boardBytes, State.frameBoards]
  rfl

theorem laid_callBytes (c : Call) : Laid c.bytes 24 [(0, 1, c.number), (1, 1, c.kind.code), (2, 1, c.priority),
    (3, 1, c.origin.code), (4, 1, flagBits [c.chime, c.ack]), (5, 1, c.pattern.val),
    (6, 2, c.lanes.toNat), (8, 2, c.acked.toNat), (10, 2, c.duration), (12, 4, c.admitted.toNat),
    (16, 4, c.sequence), (20, 4, timerField c.timer)] := by
  refine laid_of_lays ?_ rfl
  simp [Call.bytes, Call.head]

/-! ### Records with items (12.4, 12.6) -/

/-- An item of a list stands at its place among the bytes of all. -/
theorem lays_item {α : Type} {item : α → List Byte} {m : ℕ} (width : ∀ x, (item x).length = m) {xs : List α}
    {j : ℕ} {x : α} (at' : xs[j]? = some x) {o : ℕ} {fs : List (ℕ × ℕ × ℤ)} {pre post : List Byte}
    (offset : pre.length + m * j = o) (lays : ∀ rest, Lays o (item x ++ rest) fs) :
    Carries (pre ++ (xs.flatMap item ++ post)) fs := by
  obtain ⟨small, rfl⟩ := List.getElem?_eq_some_iff.1 at'
  have parts : xs.flatMap item = (xs.take j).flatMap item ++ (item xs[j] ++ (xs.drop (j + 1)).flatMap item) := by
    rw [← List.flatMap_cons, ← List.drop_eq_getElem_cons small, ← List.flatMap_append, List.take_append_drop]
  have before : ((xs.take j).flatMap item).length = m * j := by
    rw [List.length_flatMap]
    simp [width, Nat.min_eq_left small.le, Nat.mul_comm]
  rw [parts, List.append_assoc, ← List.append_assoc]
  refine carries_of_lays ?_
  rw [List.length_append, before, offset, List.append_assoc]
  exact lays _

theorem carries_append {bs : List Byte} {fs gs : List (ℕ × ℕ × ℤ)} (first : Carries bs fs) (second : Carries bs gs) :
    Carries bs (fs ++ gs) := fun f mem => (List.mem_append.1 mem).elim (first f) (second f)

theorem slotBytes_eq (s : State) (p : Fin 16) : s.slotBytes p =
    [octet p.val, octet s.settings.permissives[p].length] ++
      (s.settings.permissives[p].flatMap (fun e => [octet e.term.val, octet (flagBits [e.invert])]) ++
      (octet (flagBits [s.evaluator.slots[p].result]) :: (spell 4 s.evaluator.slots[p].changed.toNat ++
        s.settings.permissives[p].flatMap fun e => [octet (flagBits [s.evaluator.values[e.term]])]))) := by
  simp [State.slotBytes, entriesData]
  exact List.map_eq_flatMap

theorem length_flatMap_of_width {α : Type} {item : α → List Byte} {m : ℕ} (width : ∀ x, (item x).length = m)
    (xs : List α) : (xs.flatMap item).length = m * xs.length := by
  rw [List.length_flatMap]
  simp [width, Nat.mul_comm]

theorem laid_slotBytes (s : State) (p : Fin 16) :
    let es := s.settings.permissives[p]
    let n := es.length
    Laid (s.slotBytes p) (7 + 3 * n) [(0, 1, p.val), (1, 1, n),
      (2 + 2 * n, 1, flagBits [s.evaluator.slots[p].result]),
      (3 + 2 * n, 4, s.evaluator.slots[p].changed.toNat)] ∧
    ∀ j e, es[j]? = some e → Carries (s.slotBytes p) [(2 + 2 * j, 1, e.term.val),
      (3 + 2 * j, 1, flagBits [e.invert]), (7 + 2 * n + j, 1, flagBits [s.evaluator.values[e.term]])] := by
  intro es n
  let entry := fun e : PermEntry => [octet e.term.val, octet (flagBits [e.invert])]
  let value := fun e : PermEntry => [octet (flagBits [s.evaluator.values[e.term]])]
  have entries : (es.flatMap entry).length = 2 * n := length_flatMap_of_width (item := entry) (fun _ => rfl) es
  have values : (es.flatMap value).length = 1 * n := length_flatMap_of_width (item := value) (fun _ => rfl) es
  rw [slotBytes_eq]
  refine ⟨⟨?_, carries_append (fs := [_, _]) ?_ ?_⟩, fun j e at' => carries_append (fs := [_, _]) ?_ ?_⟩
  · change (_ ++ (es.flatMap entry ++ _ :: (_ ++ es.flatMap value))).length = _
    simp only [List.length_append, List.length_cons, List.length_nil, length_spell, entries, values]
    omega
  · exact carries_of_lays_zero (by simp [n, es])
  · rw [← List.append_assoc]
    refine carries_of_lays ?_
    change Lays (_ ++ es.flatMap entry).length _ _
    simp only [List.length_append, List.length_cons, List.length_nil, entries]
    simp
    omega
  · refine lays_item (item := entry) (m := 2) (fun _ => rfl) at' rfl fun rest => ?_
    simp [entry]
    omega
  · let before := [octet p.val, octet es.length] ++ es.flatMap entry ++
      octet (flagBits [s.evaluator.slots[p].result]) :: spell 4 s.evaluator.slots[p].changed.toNat
    have parts : [octet (p.val : ℤ), octet (es.length : ℤ)] ++ (es.flatMap entry ++
        (octet (flagBits [s.evaluator.slots[p].result]) :: (spell 4 s.evaluator.slots[p].changed.toNat ++
          es.flatMap value))) = before ++ (es.flatMap value ++ []) := by simp [before]
    have length : before.length = 7 + 2 * n := by
      simp only [before, List.length_append, List.length_cons, List.length_nil, length_spell, entries]
      omega
    refine parts ▸ lays_item (item := value) (m := 1) (fun _ => rfl) at' (by rw [length, one_mul]) fun rest => ?_
    simp [value]

/-- The call summary before the removed calls (12.6). -/
def summaryHead (t : CallTable) : List Byte :=
  [octet (t.table.filter (·.origin.external)).length, octet (t.table.filter (!·.origin.external)).length,
    octet t.number] ++ spell 4 t.sequence ++ [octet (flagBits [t.chime])] ++ spell 4 (timerField t.chimeTimer) ++
  [octet t.removed.length]

theorem summary_eq (t : CallTable) :
    t.summary = summaryHead t ++ (t.removed.flatMap RemovedCall.bytes ++ []) := by
  have split := List.length_eq_length_filter_add (l := t.table) (fun c => c.origin.external)
  have automatic : t.table.length - t.externals = (t.table.filter (!·.origin.external)).length := by
    unfold CallTable.externals
    omega
  unfold CallTable.summary
  rw [automatic]
  simp [summaryHead, CallTable.externals]

theorem laid_summary (t : CallTable) :
    let m := t.removed.length
    Laid t.summary (13 + 12 * m) [(0, 1, (t.table.filter (·.origin.external)).length),
      (1, 1, (t.table.filter (!·.origin.external)).length), (2, 1, t.number), (3, 4, t.sequence),
      (7, 1, flagBits [t.chime]), (8, 4, timerField t.chimeTimer), (12, 1, m)] ∧
    ∀ j r, t.removed[j]? = some r → Carries t.summary [(13 + 12 * j, 1, r.number),
      (14 + 12 * j, 1, r.kind.code), (15 + 12 * j, 1, r.origin.code),
      (16 + 12 * j, 2, r.lanes.toNat), (18 + 12 * j, 2, r.acked.toNat),
      (20 + 12 * j, 1, r.reason.code), (21 + 12 * j, 4, r.time.toNat)] := by
  have items := length_flatMap_of_width (item := RemovedCall.bytes) (m := 12) (fun _ => rfl) t.removed
  rw [summary_eq]
  refine ⟨⟨?_, carries_of_lays_zero (by simp [summaryHead])⟩, fun j r at' => ?_⟩
  · rw [List.append_nil, List.length_append, items]
    rfl
  · refine lays_item (item := RemovedCall.bytes) (m := 12) (fun _ => rfl) at' rfl fun rest => ?_
    simp [RemovedCall.bytes, summaryHead, length_spell]
    omega

/-- The codes of 12.3. -/
theorem codes : [AxisState.idle, .warning, .moving, .settling, .stopping, .tripped, .jogging, .manual].map (·.code) =
       List.range 8 ∧
     [DoorState.closed, .armed, .opening, .openHeld, .closing, .obstructed, .fault, .isolated].map
       (·.code) = List.range 8 ∧
     [MotionOutcome.reached, .stopped, .held, .linkLost, .stationTaken, .tripped, .timeout, .notPermitted,
       .permissiveLost, .pumpStop, .limit, .sensorLost, .jogReleased, .reset].map (·.code) =
       (List.range 14).map (· + 1) ∧
     Link.bridge.code = 1 ∧ Link.localLink.code = 2 ∧ Direction.raise.code = 1 ∧ Direction.lower.code = 2 ∧
     TripKind.high.code = 1 ∧ TripKind.low.code = 2 ∧ MotionKind.move.code = 0 ∧ MotionKind.jog.code = 1 ∧
     [DoorKind.absent, .swing, .sliding].map (·.code) = List.range 3 ∧
     [FaultCause.closeTime, .openTime, .switches, .retries].map (·.code) = [1, 2, 3, 4] ∧
     [CallKind.evacuate, .standClear, .recall, .disembark, .notice].map (·.code) = List.range 5 ∧
     Origin.code (.link .bridge) = 1 ∧ Origin.code (.link .localLink) = 2 ∧
     (∀ z : Fin 8, Origin.code (.zone z) = 0x10 + z.val) ∧
     (∀ a : Fin 4, Origin.code (.axis a) = 0x20 + a.val) ∧
     [RemovalReason.cancelled, .expired, .answered, .axisIdle, .zoneAlarm, .reset].map (·.code) =
       [1, 2, 3, 4, 5, 6] ∧
     [Comparison.eq, .ne, .lt, .ge, .bitSet, .bitClr].map (·.code) = List.range 6 ∧
     [Source.channel 0, .axisState 0, .doorState 0, .zoneAlarm 0, .zoneOpenCount 0, .seaOpenCount, .input 0,
       .laneButton 0, .outputLine 0, .deckHold].map (·.kindCode) = (List.range 10).map (· + 1) := by
  decide

/-! ### Replies (R184) -/

theorem fitRecords_spec (rs : List (List Byte)) (room : ℕ) :
    (fitRecords rs room).1 ≤ rs.length ∧
    (fitRecords rs room).2 = (rs.take (fitRecords rs room).1).flatten ∧
    (fitRecords rs room).2.length ≤ room ∧
    ((fitRecords rs room).1 < rs.length → room < (rs.take ((fitRecords rs room).1 + 1)).flatten.length) := by
  induction rs generalizing room with
  | nil => exact ⟨le_rfl, rfl, Nat.zero_le _, fun less => absurd less (Nat.lt_irrefl _)⟩
  | cons r rs ih =>
    by_cases fits : r.length ≤ room
    · have step : fitRecords (r :: rs) room =
          ((fitRecords rs (room - r.length)).1 + 1, r ++ (fitRecords rs (room - r.length)).2) := if_pos fits
      obtain ⟨few, bytes, short, most⟩ := ih (room - r.length)
      rw [step]
      dsimp only
      refine ⟨Nat.succ_le_succ few, ?_, ?_, fun less => ?_⟩
      · rw [List.take_succ_cons, List.flatten_cons, ← bytes]
      · rw [List.length_append]
        omega
      · have more := most (Nat.lt_of_succ_lt_succ less)
        rw [List.take_succ_cons, List.flatten_cons, List.length_append]
        omega
    · have step : fitRecords (r :: rs) room = (0, []) := if_neg fits
      rw [step]
      refine ⟨Nat.zero_le _, rfl, Nat.zero_le _, fun _ => ?_⟩
      rw [List.take_succ_cons, List.take_zero, List.flatten_singleton]
      exact Nat.lt_of_not_le fits

/-- Records that are none of them empty, of no bytes in all, are none. -/
theorem take_eq_zero_of_flatten {rs : List (List Byte)} (full : ∀ r ∈ rs, r ≠ []) {n : ℕ} (few : n ≤ rs.length)
    (empty : (rs.take n).flatten.length ≤ 0) : n = 0 := by
  match n, rs with
  | 0, _ => rfl
  | n + 1, [] => exact absurd few (Nat.not_succ_le_zero n)
  | n + 1, r :: rs =>
    rw [List.take_succ_cons, List.flatten_cons, List.length_append] at empty
    exact absurd (List.length_eq_zero_iff.1 (by omega)) (full r List.mem_cons_self)

section
variable {s : State} {l : Link} {tag : Byte} {i : Instr} {f : State → State × ReplyData}
  (running : s.power = .running) (request : exec i s = runRequest i l tag s f)
include running request

/-- A request that names all records, from a start position (R184). -/
theorem lists_of {start : ℕ} {summary : List Byte} {records : List (List Byte)}
    (act : f (s.openRequest l i) = if 0xFF ≤ start then deny (s.openRequest l i) .badField
      else done (s.openRequest l i) (statusAll summary records start))
    (short : 3 + summary.length ≤ 248 ∨ ∀ r ∈ records, r ≠ []) :
    (255 ≤ start → exec i s = .next (s.answered l tag i [] (.refused .badField))) ∧
    (start < 255 → ∃ n ≤ records.length - start,
      exec i s = .next (s.answered l tag i [] (.done (summary ++
        [byte n, if records.length ≤ start + n then 0xFF else byte (start + n)] ++
        ((records.drop start).take n).flatten))) ∧
      (n = 0 ∨ 3 + summary.length + ((records.drop start).take n).flatten.length ≤ 248) ∧
      (n < records.length - start →
        248 < 3 + summary.length + ((records.drop start).take (n + 1)).flatten.length)) := by
  refine ⟨fun high => request.trans (runRequest_answers running (act.trans (if_pos high))), fun low => ?_⟩
  let room := 248 - (3 + summary.length)
  obtain ⟨few, bytes, fits, most⟩ := fitRecords_spec (records.drop start) room
  rw [List.length_drop] at few most
  refine ⟨(fitRecords (records.drop start) room).1, few, ?_, ?_, fun less => ?_⟩
  · rw [← bytes]
    exact request.trans (runRequest_answers running (act.trans (if_neg (Nat.not_le.2 low))))
  · rw [← bytes]
    by_cases roomy : 3 + summary.length ≤ 248
    · exact .inr (by omega)
    · refine .inl (take_eq_zero_of_flatten (fun r mem => (short.resolve_left roomy) r (List.mem_of_mem_drop mem))
        (by rw [List.length_drop]; exact few) ?_)
      rw [← bytes]
      omega
  · have left := most less
    omega

/-- A status request that names one record, or one of a number that names none (R184). -/
theorem statusReply_one {n start : ℕ} {summary : List Byte} {records : List (List Byte)} {r : List Byte}
    (act : f (s.openRequest l i) = (s.openRequest l i).statusReply n start summary records) (one : n ≠ 0xFF)
    (named : records[n]? = some r) : exec i s = .next (s.answered l tag i [] (.done ([1, 0xFF] ++ r))) := by
  refine request.trans (runRequest_answers running (act.trans ?_))
  unfold State.statusReply
  rw [if_neg one, named]
  rfl

theorem statusReply_none {n start : ℕ} {summary : List Byte} {records : List (List Byte)}
    (act : f (s.openRequest l i) = (s.openRequest l i).statusReply n start summary records) (one : n ≠ 0xFF)
    (above : records.length ≤ n) : exec i s = .next (s.answered l tag i [] (.refused .badField)) := by
  refine request.trans (runRequest_answers running (act.trans ?_))
  unfold State.statusReply
  rw [if_neg one, List.getElem?_eq_none above]
  rfl

end

theorem eachOf_get {n : ℕ} (f : Fin n → List Byte) (k : Fin n) : (eachOf n f)[k.val]? = some (f k) := by
  simp [eachOf]

theorem eachOf_length {n : ℕ} (f : Fin n → List Byte) : (eachOf n f).length = n := by
  simp [eachOf]

theorem exec_channelStatus (l : Link) (tag : Byte) (n start : ℕ) (s : State) : exec (.channelStatus l tag n start) s =
    runRequest (.channelStatus l tag n start) l tag s
      fun s => s.statusReply n start [] (eachOf 12 s.channelBytes) := rfl

theorem exec_axisStatus (l : Link) (tag : Byte) (n start : ℕ) (s : State) : exec (.axisStatus l tag n start) s =
    runRequest (.axisStatus l tag n start) l tag s
      fun s => s.statusReply n start [] (eachOf 4 s.axisBytes) := rfl

theorem exec_doorStatus (l : Link) (tag : Byte) (n start : ℕ) (s : State) : exec (.doorStatus l tag n start) s =
    runRequest (.doorStatus l tag n start) l tag s
      fun s => s.statusReply n start [] (eachOf 32 s.doorBytes) := rfl

theorem exec_zoneStatus (l : Link) (tag : Byte) (n start : ℕ) (s : State) : exec (.zoneStatus l tag n start) s =
    runRequest (.zoneStatus l tag n start) l tag s
      fun s => s.statusReply n start [byte s.openCounts.sea] (eachOf 8 s.zoneBytes) := rfl

theorem exec_termStatus (l : Link) (tag : Byte) (n start : ℕ) (s : State) : exec (.termStatus l tag n start) s =
    runRequest (.termStatus l tag n start) l tag s
      fun s => s.statusReply n start [] (eachOf 64 s.termBytes) := rfl

theorem exec_permissiveStatus (l : Link) (tag : Byte) (n start : ℕ) (s : State) : exec (.permissiveStatus l tag n start) s =
    runRequest (.permissiveStatus l tag n start) l tag s
      fun s => s.statusReply n start [] (eachOf 16 s.slotBytes) := rfl

/-- BOARD STATUS, its frame taken (R147). -/
def boardsStatus (n start : ℕ) (s : State) : State × ReplyData :=
  if n = 0xFF then s.statusReply n start s.boardSummary (eachOf 16 s.boardBytes)
  else match finOf? 16 n with
    | some b => done s (s.boardSummary ++ statusOne (s.boardBytes b))
    | none => deny s .badField

theorem exec_boardStatus (l : Link) (tag : Byte) (n start : ℕ) (s : State) : exec (.boardStatus l tag n start) s =
    runRequest (.boardStatus l tag n start) l tag s (boardsStatus n start) := rfl

/-- CALL STATUS, its frame taken (R136). -/
def callsStatus (n start : ℕ) (s : State) : State × ReplyData :=
  if n = 0 then
    if 0xFF ≤ start then deny s .badField
    else done s (statusAll s.calls.summary (s.calls.table.map Call.bytes) start)
  else match s.calls.table.find? (·.number = n) with
    | some c => done s (statusOne c.bytes)
    | none => deny s .notFound

theorem exec_callStatus (l : Link) (tag : Byte) (n start : ℕ) (s : State) : exec (.callStatus l tag n start) s =
    runRequest (.callStatus l tag n start) l tag s (callsStatus n start) := rfl

/-- Settles O8: a reply of one record, a reply of all, and where each field of a record stands. -/
theorem statusRepliesCarryTheirRecords : Obligations.StatusRepliesCarryTheirRecords := by
  refine ⟨?_, ?_, ⟨fun s => ⟨laid_channelBytes s, laid_axisBytes s, laid_doorBytes s, laid_zoneBytes s,
    laid_termBytes s, laid_slotBytes s, laid_boardBytes s, laid_summary s.calls⟩, laid_callBytes, codes⟩⟩
  · intro l tag start s running reads
    refine ⟨fun k => ?_, fun a => ?_, fun d => ?_, fun z => ?_, fun t => ?_, fun p => ?_, fun b => ?_,
      fun f frame => ?_, fun n c one found => ?_, fun n one missing => ?_, fun n one above => ?_,
      fun n one above => ?_, fun n one above => ?_, fun n one above => ?_, fun n one above => ?_,
      fun n one above => ?_, fun n one above => ?_⟩
    · exact statusReply_one running (exec_channelStatus l tag k start s) rfl (by omega) (eachOf_get s.channelBytes k)
    · exact statusReply_one running (exec_axisStatus l tag a start s) rfl (by omega) (eachOf_get s.axisBytes a)
    · exact statusReply_one running (exec_doorStatus l tag d start s) rfl (by omega) (eachOf_get s.doorBytes d)
    · exact statusReply_one running (exec_zoneStatus l tag z start s) rfl (by omega) (eachOf_get s.zoneBytes z)
    · exact statusReply_one running (exec_termStatus l tag t start s) rfl (by omega) (eachOf_get s.termBytes t)
    · exact statusReply_one running (exec_permissiveStatus l tag p start s) rfl (by omega) (eachOf_get s.slotBytes p)
    · refine (exec_boardStatus l tag b start s).trans (runRequest_answers running ?_)
      unfold boardsStatus
      rw [if_neg (by omega), finOf?_val]
      exact congrArg (fun bs => (_, ReplyData.done bs)) (List.append_assoc s.boardSummary [1, 0xFF] _).symm
    · unfold State.boardSummary State.frameBoards State.frameBlanking
      rw [frame]
      cases s.scanner.flashLit <;> rfl
    · refine (exec_callStatus l tag n start s).trans (runRequest_answers running ?_)
      unfold callsStatus
      rw [if_neg one]
      exact found ▸ rfl
    · refine (exec_callStatus l tag n start s).trans (runRequest_answers running ?_)
      unfold callsStatus
      rw [if_neg one]
      exact missing ▸ rfl
    · exact statusReply_none running (exec_channelStatus l tag n start s) rfl one ((eachOf_length s.channelBytes).trans_le above)
    · exact statusReply_none running (exec_axisStatus l tag n start s) rfl one ((eachOf_length s.axisBytes).trans_le above)
    · exact statusReply_none running (exec_doorStatus l tag n start s) rfl one ((eachOf_length s.doorBytes).trans_le above)
    · exact statusReply_none running (exec_zoneStatus l tag n start s) rfl one ((eachOf_length s.zoneBytes).trans_le above)
    · exact statusReply_none running (exec_termStatus l tag n start s) rfl one ((eachOf_length s.termBytes).trans_le above)
    · exact statusReply_none running (exec_permissiveStatus l tag n start s) rfl one ((eachOf_length s.slotBytes).trans_le above)
    · refine (exec_boardStatus l tag n start s).trans (runRequest_answers running ?_)
      unfold boardsStatus
      rw [if_neg one, finOf?_eq_none.2 above] <;> rfl
  · intro l tag start s running reads lists
    have short : 3 + ([] : List Byte).length ≤ 248 := by decide
    refine ⟨?_, ?_, ?_, ?_, ?_, ?_, ?_, ?_⟩
    · exact lists_of running (exec_channelStatus l tag 0xFF start s) rfl (.inl short)
    · exact lists_of running (exec_axisStatus l tag 0xFF start s) rfl (.inl short)
    · exact lists_of running (exec_doorStatus l tag 0xFF start s) rfl (.inl short)
    · exact lists_of running (exec_zoneStatus l tag 0xFF start s) rfl (.inl (by simp))
    · exact lists_of running (exec_termStatus l tag 0xFF start s) rfl (.inl short)
    · exact lists_of running (exec_permissiveStatus l tag 0xFF start s) rfl (.inl short)
    · exact lists_of running (exec_boardStatus l tag 0xFF start s) rfl (.inl (by simp [State.boardSummary]))
    · refine lists_of running (exec_callStatus l tag 0 start s) rfl (.inr fun r mem => ?_)
      obtain ⟨c, _, rfl⟩ := List.mem_map.1 mem
      exact nofun

end Sys2Proof.Proofs
end

section
/-! SUPPORT. The requests that read a block, and the layouts of the blocks and objects (12.6, 12.8). -/

open Sys2Proof Sys2Proof.Machine

namespace Sys2Proof.Proofs

/-! ### Items of a known number -/

/-- `n` items of `m` bytes each, and what follows them. -/
theorem lays_items {n m o : ℕ} {g : Fin n → List Byte} {F : Fin n → List (ℕ × ℕ × ℤ)} {bs : List Byte}
    {fs : List (ℕ × ℕ × ℤ)} (lays : ∀ d : Fin n, Lays (o + m * d.val) (g d) (F d))
    (full : ∀ d, (g d).length = m) (width : ∀ d, wide (F d) = m) (rest : Lays (o + m * n) bs fs) :
    Lays o ((List.finRange n).flatMap g ++ bs) ((List.finRange n).flatMap F ++ fs) := by
  induction n generalizing o with
  | zero => exact rest
  | succ n ih =>
    rw [List.finRange_succ, List.flatMap_cons, List.flatMap_cons, List.flatMap_map, List.flatMap_map,
      List.append_assoc, List.append_assoc]
    refine lays_append (lays 0) ((full 0).trans (width 0).symm) ?_
    rw [width 0]
    refine ih (fun d => ?_) (fun d => full _) (fun d => width _) ?_
    · have moved := lays d.succ
      rwa [Fin.val_succ, Nat.mul_succ, Nat.add_comm (m * d.val), ← Nat.add_assoc] at moved
    · rwa [Nat.mul_succ, Nat.add_comm (m * n), ← Nat.add_assoc] at rest

/-- `n` items of one field each, of `w` bytes, and what follows them. -/
theorem lays_fields {n w o : ℕ} {v : Fin n → ℤ} {F : Fin n → ℕ × ℕ × ℤ} {bs : List Byte}
    {fs : List (ℕ × ℕ × ℤ)} (fields : ∀ d : Fin n, F d = (o + w * d.val, w, v d))
    (rest : Lays (o + w * n) bs fs) :
    Lays o ((List.finRange n).flatMap (fun d => spell w (v d)) ++ bs) ((List.finRange n).map F ++ fs) := by
  rw [List.map_eq_flatMap]
  refine lays_items (m := w) (fun d => ?_) (fun d => length_spell _ _) (fun d => ?_) rest
  · rw [fields]
    exact lays_last.2 ⟨rfl, rfl⟩
  · rw [fields]
    rfl

theorem spell_one (v : ℤ) : spell 1 v = [octet v] := by simp [spell]

/-- `n` items of `m` bytes each, with nothing after them. -/
theorem lays_items_last {n m o : ℕ} {g : Fin n → List Byte} {F : Fin n → List (ℕ × ℕ × ℤ)}
    (lays : ∀ d : Fin n, Lays (o + m * d.val) (g d) (F d)) (full : ∀ d, (g d).length = m)
    (width : ∀ d, wide (F d) = m) : Lays o ((List.finRange n).flatMap g) ((List.finRange n).flatMap F) := by
  have items := lays_items (bs := []) (fs := []) lays full width lays_nil
  rwa [List.append_nil, List.append_nil] at items

/-- `n` items of one byte each, with nothing after them. -/
theorem lays_octets {n o : ℕ} {b : Fin n → Byte} {v : Fin n → ℤ} (byte : ∀ d, b d = octet (v d)) :
    Lays o ((List.finRange n).map b) ((List.finRange n).map fun d => (o + d.val, 1, v d)) := by
  rw [List.map_eq_flatMap, List.map_eq_flatMap]
  refine lays_items_last (m := 1) (fun d => ?_) (fun _ => rfl) fun _ => rfl
  rw [byte, ← spell_one, Nat.one_mul]
  exact lays_last.2 ⟨rfl, rfl⟩

/-- The bytes of a vector, field by field. -/
theorem toList_flatMap {α β : Type} {n : ℕ} (v : Vector α n) (f : α → List β) :
    v.toList.flatMap f = (List.finRange n).flatMap fun i => f v[i] := by
  have list : v.toList = (List.finRange n).map fun i => v[i] := by
    refine List.ext_getElem (by simp) fun k _ _ => ?_
    simp
  rw [list, List.flatMap_map]

/-! ### Blocks (12.6) -/

theorem levelCode_eq (x : Level) : ((x.code : ℕ) : ℤ) = flagBits [decide (x = .service)] := by
  cases x <;> rfl

theorem laid_inputBlock (s : State) :
    let v := s.inputs.levels
    Laid s.inputBlock 37 ([(0, 1, flagBits [v.estop, v.serviceKey, v.localPriority]),
      (1, 1, flagBits v.fire.toList), (2, 1, flagBits (v.limLo.toList ++ v.limHi.toList)),
      (3, 2, flagBits v.gi.toList)] ++
      (List.finRange 32).map fun d => (5 + d.val, 1, flagBits [s.chain.levels[d].openSwitch,
        s.chain.levels[d].closedSwitch, s.chain.levels[d].edge, false, s.chain.outputs[d].magnet,
        s.chain.outputs[d].closeDrive, s.chain.outputs[d].openDrive])) := by
  intro v
  refine laid_of_lays (lays_append ?_ rfl (lays_octets fun d => bitsByte_eq _))
    (by simp [State.inputBlock, length_spell])
  simp [v]

theorem authBytes_length (s : State) (a : Fin 4) : (s.authBytes a).length = 12 := by
  simp [State.authBytes, length_spell]

theorem laid_stationBlock (s : State) :
    Laid s.stationBlock 53 (((List.finRange 4).flatMap fun a =>
        let r := s.station.auth[a].request;
        [(12 * a.val, 1, (a.val : Int)),
          (12 * a.val + 1, 1, codeField s.station.auth[a].holder Link.code),
          (12 * a.val + 2, 1, flagBits [r.isSome]),
          (12 * a.val + 3, 1, codeField r (·.requester.code)),
          (12 * a.val + 4, 4, timeField (r.map (·.time))),
          (12 * a.val + 8, 4, timerField (r.map (·.deadline)))]) ++
      [(48, 1, flagBits [s.station.claims.bridge, s.station.claims.localLink]),
        (49, 1, (match s.station.hold with | .none => 0 | .pending => 1 | .established => 2)),
        (50, 1, flagBits [decide (s.station.level.bridge = .service)]),
        (51, 1, flagBits [decide (s.station.level.localLink = .service)]),
        (52, 1, flagBits [s.inputs.levels.serviceKey, s.inputs.levels.localPriority])]) := by
  have items := length_flatMap_of_width (authBytes_length s) (List.finRange 4)
  refine laid_of_lays ?_ (by simp [State.stationBlock, State.holdData, items])
  unfold State.stationBlock
  rw [List.append_assoc]
  refine lays_items (m := 12) (fun a => ?_) (authBytes_length s) (fun _ => rfl) ?_
  · simp [State.authBytes, Link.codeOpt, State.holder, State.requester, Function.comp_def]
  · cases hold : s.station.hold <;>
      simp [State.holdData, claimsByte, levelCode_eq, hold, HoldStatus.code]

theorem laid_outputBlock (s : State) :
    Laid s.outputBlock 33 (((List.finRange 8).flatMap fun k =>
        let x := s.settings.outputs[k];
        [(4 * k.val, 1, (k.val : Int)), (4 * k.val + 1, 1, (x.source.kindCode : Int)),
          (4 * k.val + 2, 1, (x.source.index : Int)),
          (4 * k.val + 3, 1, flagBits [x.invert, x.powerOn, s.alarms.lines[k].held, s.outputValue k,
            s.alarms.lines[k].level])]) ++
      [(32, 1, flagBits [s.calls.chime])]) := by
  have items := length_flatMap_of_width (item := s.lineBytes) (m := 4) (fun _ => rfl) (List.finRange 8)
  refine laid_of_lays (lays_items (m := 4) (fun k => ?_) (fun _ => rfl) (fun _ => rfl) ?_)
    (by simp [State.outputBlock, items])
  · simp [State.lineBytes]
  · simp

theorem laid_linkBlock (s : State) :
    Laid (s.linkBytes .bridge ++ s.linkBytes .localLink) 24
      ([(0, Link.bridge), (12, Link.localLink)].flatMap fun (o, l) =>
        let c := s.links.get l;
        [(o, 1, (l.code : Int)),
          (o + 1, 1, (match c.state with | .down => 0 | .up => 1 | .lost => 2)),
          (o + 2, 4, timerField c.timer), (o + 6, 2, (s.settings.supervision.get l : Int)),
          (o + 8, 1, flagBits [decide (s.station.level.get l = .service)]),
          (o + 9, 1, flagBits c.selection.toList), (o + 10, 1, (c.queue.length : Int)),
          (o + 11, 1, flagBits [c.lost])]) := by
  refine laid_of_lays ?_ rfl
  cases bridge : (s.links.get .bridge).state <;> cases localLink : (s.links.get .localLink).state <;>
    simp [State.linkBytes, levelCode_eq, bridge, localLink, LinkState.code]

theorem entryBytes_eq (e : AlarmEntry) : e.bytes =
    octet e.source.val :: octet (match e.state with
      | .activeUnacked => 0
      | .activeAcked => 1
      | .returnedUnacked => 2) :: octet e.occurrences :: (spell 4 e.first.toNat ++ spell 4 e.last.toNat) := by
  obtain ⟨source, state, occurrences, first, last⟩ := e
  cases state <;> (simp [AlarmEntry.bytes]; rfl)

/-- The alarm list block before its entries. -/
def alarmHead (s : State) (n : ℕ) : List Byte :=
  let r := s.settings.routing
  [octet s.alarms.list.length, octet (flagBits [s.alarms.alarm]), octet (flagBits [s.alarms.stop])] ++
    spell 2 (flagBits r.alarmEnable.toList) ++ spell 2 (flagBits r.stopEnable.toList) ++
    [octet (flagBits [r.stopFollowsAlarm]), octet ((min (s.alarms.list.length - n) 16 : ℕ) : ℤ)]

theorem listedEntries_length (es : List AlarmEntry) (n : ℕ) :
    (listedEntries es n).length = min (es.length - n) 16 := by
  rw [listedEntries, List.length_take, List.length_drop, Nat.min_comm]
  rfl

theorem alarmBlock_eq (s : State) (n : ℕ) : s.alarmBlock n =
    alarmHead s n ++ ((listedEntries s.alarms.list n).flatMap AlarmEntry.bytes ++ []) := by
  unfold State.alarmBlock
  dsimp only
  rw [listedEntries_length]
  simp [alarmHead]

theorem alarmBlock_length (s : State) (n : ℕ) :
    (s.alarmBlock n).length = 9 + 11 * min (s.alarms.list.length - n) 16 := by
  have items := length_flatMap_of_width (item := AlarmEntry.bytes) (m := 11) (fun _ => rfl)
    (listedEntries s.alarms.list n)
  rw [alarmBlock_eq, List.append_nil, List.length_append, items, listedEntries_length]
  rfl

theorem carries_alarmBlock (s : State) (n : ℕ) :
    let es := s.alarms.list
    let r := s.settings.routing
    Carries (s.alarmBlock n) [(0, 1, es.length), (1, 1, flagBits [s.alarms.alarm]),
      (2, 1, flagBits [s.alarms.stop]), (3, 2, flagBits r.alarmEnable.toList),
      (5, 2, flagBits r.stopEnable.toList), (7, 1, flagBits [r.stopFollowsAlarm]),
      (8, 1, ((min (es.length - n) 16 : Nat) : Int))] ∧
    ∀ j e, j < 16 → es[n + j]? = some e → Carries (s.alarmBlock n) [(9 + 11 * j, 1, e.source.val),
      (10 + 11 * j, 1, (match e.state with
        | .activeUnacked => 0
        | .activeAcked => 1
        | .returnedUnacked => 2)),
      (11 + 11 * j, 1, e.occurrences), (12 + 11 * j, 4, e.first.toNat),
      (16 + 11 * j, 4, e.last.toNat)] := by
  intro es r
  rw [alarmBlock_eq]
  refine ⟨carries_of_lays_zero (by simp [alarmHead, es, r]), fun j e few at' => ?_⟩
  have listed : (listedEntries s.alarms.list n)[j]? = some e := by
    rw [listedEntries, List.getElem?_take_of_lt (show j < Config.alarmListLimit from few), List.getElem?_drop]
    exact at'
  refine lays_item (item := AlarmEntry.bytes) (m := 11) (fun _ => rfl) listed rfl fun rest => ?_
  rw [entryBytes_eq]
  simp [alarmHead, length_spell]
  omega

theorem updateBytes_eq (u : Option UpdateRecord) : updateBytes u =
    [octet (codeField u (·.mode.code))] ++ spell 2 ((u.bind (·.t)).getD 0) ++
      [octet (flagBits [u.any (·.oilValid = some false)]), octet (codeField (u.bind (·.idx)) id)] ++
      spell 4 ((u.bind (·.e)).getD 0) ++ spell 2 (codeField (u.bind (·.u)) id) ++
      spell 2 (u.elim 0 (·.d)) ++ spell 2 (u.elim 0 (·.cPrev)) ++ spell 2 (u.elim 0 (·.cNew)) := by
  cases u with
  | none => rfl
  | some r =>
    have oil : r.oilValid.elim 0#8 validityByte = octet (flagBits [decide (r.oilValid = some false)]) := by
      rcases r.oilValid with _ | _ | _ <;> rfl
    have present (x : Option ℕ) : x.getD 0 = x.elim 0 id := by cases x <;> rfl
    simp [updateBytes, oil, present]

theorem checkBytes_eq (k : Option CheckRecord) : checkBytes k =
    spell 2 (k.elim 0 (·.pressure)) ++ spell 2 (k.elim 0 (·.angle)) ++ [octet (codeField k (·.band))] ++
      spell 2 (codeField k (·.ref)) ++ spell 2 (codeField k (·.hi)) ++ spell 2 (codeField k (·.lo)) := by
  cases k with
  | none => rfl
  | some r => simp [checkBytes]

theorem tableModeCode_eq (x : TableMode) : ((x.code : ℕ) : ℤ) = flagBits [decide (x = .split)] := by
  cases x <;> rfl

theorem loopModeCode_eq (x : LoopMode) : ((x.code : ℕ) : ℤ) = flagBits [decide (x = .forceOpen)] := by
  cases x <;> rfl

theorem laid_driveBlock (s : State) (a : Fin 4) :
    let x := s.axes[a]
    let oil := s.channels[s.settings.oil]
    let g := s.valves[a]
    let u := x.update
    let k := x.check
    Laid (s.driveBlock a) 46 [(0, 1, a.val), (1, 1, s.settings.oil.val), (2, 2, oil.scaled),
      (4, 1, flagBits [!oil.valid]),
      (5, 1, flagBits [decide (s.settings.axes[a].tableMode = .split)]),
      (6, 1, flagBits [decide (s.settings.axes[a].loopMode = .forceOpen)]), (7, 2, x.c),
      (9, 1, flagBits [u.isSome, u.any (·.idx.isSome), u.any (·.e.isSome), x.confirm.isSome, k.isSome]),
      (10, 1, codeField u (·.mode.code)), (11, 2, (u.bind (·.t)).getD 0),
      (13, 1, flagBits [u.any (·.oilValid = some false)]), (14, 1, codeField (u.bind (·.idx)) id),
      (15, 4, (u.bind (·.e)).getD 0), (19, 2, codeField (u.bind (·.u)) id),
      (21, 2, u.elim 0 (·.d)), (23, 2, u.elim 0 (·.cPrev)), (25, 2, u.elim 0 (·.cNew)),
      (27, 2, g.command), (29, 2, g.applied), (31, 1, codeField g.lines Direction.code),
      (32, 1, flagBits [g.cut]), (33, 1, flagBits [x.confirm.isSome]),
      (34, 1, codeField x.confirm TripKind.code), (35, 2, k.elim 0 (·.pressure)),
      (37, 2, k.elim 0 (·.angle)), (39, 1, codeField k (·.band)), (40, 2, codeField k (·.ref)),
      (42, 2, codeField k (·.hi)), (44, 2, codeField k (·.lo))] := by
  refine laid_of_lays ?_ ?_
  · simp [State.driveBlock, updateBytes_eq, checkBytes_eq, Generator.bytes, validityByte, directionCode,
      tableModeCode_eq, loopModeCode_eq]
  · simp [State.driveBlock, updateBytes_eq, checkBytes_eq, Generator.bytes, length_spell]

/-! ### Objects (12.8) -/

/-- `n` flags of one byte each, and what follows them. -/
theorem lays_flags {n o : ℕ} (v : Vector Bool n) {bs : List Byte} {fs : List (ℕ × ℕ × ℤ)}
    (rest : Lays (o + n) bs fs) : Lays o (v.toList.map boolByte ++ bs)
      ((List.finRange n).map (fun i => (o + i.val, 1, flagBits [v[i]])) ++ fs) := by
  have bytes : v.toList.map boolByte = (List.finRange n).flatMap fun i => spell 1 (flagBits [v[i]]) := by
    rw [List.map_eq_flatMap, toList_flatMap]
    simp [spell_one]
  rw [bytes]
  refine lays_fields (fun d => by rw [Nat.one_mul]) ?_
  rwa [Nat.one_mul]

/-- `n` quantities of two bytes each, and what follows them. -/
theorem lays_words {n o : ℕ} (v : Vector ℕ n) {bs : List Byte} {fs : List (ℕ × ℕ × ℤ)}
    (rest : Lays (o + 2 * n) bs fs) : Lays o (v.toList.flatMap be16 ++ bs)
      ((List.finRange n).map (fun i => (o + 2 * i.val, 2, ((v[i] : ℕ) : ℤ))) ++ fs) := by
  have bytes : v.toList.flatMap be16 = (List.finRange n).flatMap fun i => spell 2 ((v[i] : ℕ) : ℤ) := by
    rw [toList_flatMap]
    simp only [be16_eq]
  rw [bytes]
  exact lays_fields (fun d => rfl) rest

theorem length_words {n : ℕ} (v : Vector ℕ n) : (v.toList.flatMap be16).length = 2 * n := by
  rw [length_flatMap_of_width (m := 2) (fun _ => rfl), Vector.length_toList]

/-- The fields of AXIS data before its two tables. -/
def axisFields (y : AxisSettings) : List (ℕ × ℕ × ℤ) :=
  [(0, 1, flagBits [y.fitted]), (1, 1, (y.angleCh.val : Int)),
    (2, 1, (y.pressCh.val : Int)), (3, 2, y.lLo), (5, 2, y.lHi), (7, 2, (y.inBand : Int)),
    (9, 1, (y.settleCount : Int)), (10, 1, (y.kp : Int)),
    (11, 1, flagBits [decide (y.tableMode = .split)]),
    (12, 1, flagBits [decide (y.loopMode = .forceOpen)]), (13, 2, (y.dMin : Int)),
    (15, 2, (y.dMax : Int)), (17, 2, (y.slew : Int)), (19, 2, (y.stopSlew : Int)),
    (21, 2, (y.motionLimit : Int)), (23, 1, ((y.warningTime - 1 : Nat) : Int)),
    (24, 2, (y.warningLanes.toNat : Int)), (26, 1, (y.warningPattern.val : Int)),
    (27, 2, (y.marginHi : Int)), (29, 2, (y.marginLo : Int))]

/-- AXIS data before its two tables. -/
def axisHead (y : AxisSettings) : List Byte :=
  [boolByte y.fitted, byte y.angleCh, byte y.pressCh] ++ beInt16 y.lLo ++ beInt16 y.lHi ++
  be16 y.inBand ++ [byte y.settleCount, byte y.kp, byte y.tableMode.code, byte y.loopMode.code] ++
  be16 y.dMin ++ be16 y.dMax ++ be16 y.slew ++ be16 y.stopSlew ++ be16 y.motionLimit ++
  [byte (y.warningTime - 1)] ++ be16 y.warningLanes.toNat ++ [byte y.warningPattern] ++
  be16 y.marginHi ++ be16 y.marginLo

theorem axisData_eq (y : AxisSettings) :
    y.data = axisHead y ++ (y.ff.toList.flatMap be16 ++ y.prt.toList.flatMap be16) := by
  rw [← List.append_assoc]
  rfl

theorem lays_axisHead (y : AxisSettings) : Lays 0 (axisHead y) (axisFields y) := by
  simp [axisHead, axisFields, tableModeCode_eq, loopModeCode_eq]

theorem axisHead_length (y : AxisSettings) : (axisHead y).length = 31 := by simp [axisHead, length_spell]

theorem axisFields_wide (y : AxisSettings) : wide (axisFields y) = 31 := by simp [axisFields, wide]

theorem laid_axisData (y : AxisSettings) :
    Laid y.data 127 (axisFields y ++
        (List.finRange 32).map (fun i => (31 + 2 * i.val, 2, ((y.ff[i] : Nat) : Int))) ++
        (List.finRange 16).map fun i => (95 + 2 * i.val, 2, ((y.prt[i] : Nat) : Int))) := by
  have prt := lays_words (o := 95) y.prt (bs := []) (fs := []) lays_nil
  rw [List.append_nil, List.append_nil] at prt
  rw [axisData_eq, List.append_assoc]
  refine laid_of_lays (lays_append (lays_axisHead y) ((axisHead_length y).trans (axisFields_wide y).symm) ?_) ?_
  · rw [axisFields_wide]
    exact lays_words (o := 31) y.ff prt
  · rw [List.length_append, List.length_append, length_words, length_words, axisHead_length]

theorem laid_entries (es : List PermEntry) (k : ℕ) : Lays (1 + 2 * k) (entriesData es)
    ((es.zipIdx k).flatMap fun (e, j) => [(1 + 2 * j, 1, (e.term.val : Int)), (2 + 2 * j, 1, flagBits [e.invert])]) := by
  induction es generalizing k with
  | nil => exact lays_nil
  | cons e es ih =>
    have rest := ih (k + 1)
    rw [Nat.mul_succ, ← Nat.add_assoc] at rest
    have item : Lays (1 + 2 * k) [byte e.term, boolByte e.invert]
        [(1 + 2 * k, 1, (e.term.val : ℤ)), (2 + 2 * k, 1, flagBits [e.invert])] := by
      simp
      omega
    exact lays_append item rfl rest

theorem laid_permissiveData (es : List PermEntry) : Laid (byte es.length :: entriesData es) (1 + 2 * es.length)
    ((0, 1, (es.length : Int)) :: es.zipIdx.flatMap fun (e, j) =>
      [(1 + 2 * j, 1, (e.term.val : Int)), (2 + 2 * j, 1, flagBits [e.invert])]) := by
  have items := length_flatMap_of_width (item := fun e : PermEntry => [byte e.term, boolByte e.invert]) (m := 2)
    (fun _ => rfl) es
  refine laid_of_lays ?_ ?_
  · rw [byte_eq]
    exact lays_byte.2 ⟨rfl, rfl, laid_entries es 0⟩
  · rw [List.length_cons, entriesData, items, Nat.add_comm]

/-- The objects SETTINGS READ knows (R177). -/
theorem objectBytes_none_iff (x : Settings) (object index : ℕ) :
    Machine.Settings.objectBytes x object index = none ↔ 12 ≤ object ∨
      (object = 8 ∧ index ≠ 1 ∧ index ≠ 2) ∨
      (object ≠ 8 ∧ [4, 1, 12, 32, 8, 1, 1, 8, 0, 64, 16, 64].getD object 0 ≤ index) := by
  have named : Link.ofCode index = none ↔ index ≠ 1 ∧ index ≠ 2 := by
    rw [← not_or, ← ofCode_isSome, Option.not_isSome_iff_eq_none]
  match object with
  | 0 => simp [Machine.Settings.objectBytes, finOf?_eq_none]
  | 1 => simp [Machine.Settings.objectBytes, finOf?_eq_none]
  | 2 => simp [Machine.Settings.objectBytes, finOf?_eq_none]
  | 3 => simp [Machine.Settings.objectBytes, finOf?_eq_none]
  | 4 => simp [Machine.Settings.objectBytes, finOf?_eq_none]
  | 5 => simp [Machine.Settings.objectBytes, finOf?_eq_none]
  | 6 => simp [Machine.Settings.objectBytes, finOf?_eq_none]
  | 7 => simp [Machine.Settings.objectBytes, finOf?_eq_none]
  | 8 => simp [Machine.Settings.objectBytes, named]
  | 9 => simp [Machine.Settings.objectBytes, finOf?_eq_none]
  | 10 => simp [Machine.Settings.objectBytes, finOf?_eq_none]
  | 11 => simp [Machine.Settings.objectBytes, finOf?_eq_none]
  | n + 12 => simp [Machine.Settings.objectBytes]

theorem doorKindCode_eq (k : DoorKind) : ((k.code : ℕ) : ℤ) =
    (match k with | .absent => 0 | .swing => 1 | .sliding => 2) := by cases k <;> rfl

/-- What SETTINGS READ carries of an object that takes any of `n` indices (R177). -/
theorem has_of {x : Settings} {object n m : ℕ} {data : Fin n → List Byte} {fields : List (ℕ × ℕ × ℤ)} (k : Fin n)
    (reads : Machine.Settings.objectBytes x object k.val = (finOf? n k.val).map data) (laid : Laid (data k) m fields) :
    ∃ bs, Machine.Settings.objectBytes x object k.val = some bs ∧ Laid bs m fields :=
  ⟨data k, by rw [reads, finOf?_val]; rfl, laid⟩

/-- A request taken changes of its link the frame that waits, the slot and the line alone. -/
theorem opened_eq (c : LinkController) (l : Link) (i : Instr) : ∃ waiting line slot,
    (c.release l i).freeSlot = { c with waiting := waiting, line := line, slot := slot } := by
  unfold LinkController.freeSlot LinkController.release
  dsimp only
  split
  · exact ⟨_, _, _, rfl⟩
  · exact ⟨_, c.line, c.slot, rfl⟩

theorem linkBytes_openRequest (s : State) (l : Link) (i : Instr) (m : Link) :
    (s.openRequest l i).linkBytes m = s.linkBytes m := by
  have links : (s.openRequest l i).links = s.links.set l (((s.links.get l).release l i).freeSlot) := rfl
  unfold State.linkBytes
  rw [links]
  by_cases same : m = l
  · subst same
    obtain ⟨waiting, line, slot, opened⟩ := opened_eq (s.links.get m) m i
    rw [pair_get_set_self, opened]
    rfl
  · rw [pair_get_set_other _ _ _ _ same]
    rfl

section
variable {s : State} {l : Link} {tag : Byte} (running : s.power = .running)
include running

theorem exec_alarmList (n : ℕ) :
    (n ≤ 59 → exec (.alarmList l tag n) s =
      .next (s.answered l tag (.alarmList l tag n) [] (.done (s.alarmBlock n)))) ∧
    (59 < n → exec (.alarmList l tag n) s =
      .next (s.answered l tag (.alarmList l tag n) [] (.refused .badField))) := by
  have request : exec (.alarmList l tag n) s = runRequest (.alarmList l tag n) l tag s
      fun s => if 59 < n then deny s .badField else done s (s.alarmBlock n) := rfl
  exact ⟨fun low => request.trans (runRequest_answers running (if_neg (Nat.not_lt.2 low))),
    fun high => request.trans (runRequest_answers running (if_pos high))⟩

theorem exec_driveStatus (a : Fin 4) (fitted : s.settings.axes[a].fitted = true) :
    exec (.driveStatus l tag a) s =
      .next (s.answered l tag (.driveStatus l tag a) [] (.done (s.driveBlock a))) := by
  have named : (s.openRequest l (.driveStatus l tag a)).fittedAxis? a = some a := fittedAxis?_of_fitted fitted
  change execDriveStatus l tag a s = _
  unfold execDriveStatus
  refine runRequest_answers running ?_
  rw [named] <;> rfl

theorem exec_driveStatus_unfitted {n : ℕ} (unfitted : ∀ a : Fin 4, a.val = n → s.settings.axes[a].fitted = false) :
    exec (.driveStatus l tag n) s =
      .next (s.answered l tag (.driveStatus l tag n) [] (.refused .badField)) := by
  have named : (s.openRequest l (.driveStatus l tag n)).fittedAxis? n = none := fittedAxis?_of_unfitted unfitted
  change execDriveStatus l tag n s = _
  unfold execDriveStatus
  refine runRequest_answers running ?_
  rw [named] <;> rfl

theorem exec_settingsRead {object index : ℕ} :
    (∀ bs, Machine.Settings.objectBytes s.settings object index = some bs →
      exec (.settingsRead l tag object index) s = .next (s.answered l tag (.settingsRead l tag object index) []
        (.done ([byte object, byte index] ++ bs ++ List.replicate (127 - bs.length) 0 ++
          [if s.store.unstored then 1 else 0])))) ∧
    (Machine.Settings.objectBytes s.settings object index = none →
      exec (.settingsRead l tag object index) s =
        .next (s.answered l tag (.settingsRead l tag object index) [] (.refused .badField))) := by
  change (∀ bs, _ → execSettingsRead l tag object index s = _) ∧ (_ → execSettingsRead l tag object index s = _)
  unfold execSettingsRead
  refine ⟨fun bs reads => runRequest_answers running ?_, fun unknown => runRequest_answers running ?_⟩
  · rw [show Machine.Settings.objectBytes (s.openRequest l (.settingsRead l tag object index)).settings object index =
      some bs from reads]
    have bytes : objectData object index bs = [byte object, byte index] ++ bs ++ List.replicate (127 - bs.length) 0 := by
      rw [objectData, padObject, List.append_assoc] <;> rfl
    dsimp only
    rw [bytes]
    rfl
  · rw [show Machine.Settings.objectBytes (s.openRequest l (.settingsRead l tag object index)).settings object index =
      none from unknown] <;> rfl

end

/-- Settles O9: each block at its length, and where each field of a block or an object stands. -/
theorem blockRequestsReadTheirBlock : Obligations.BlockRequestsReadTheirBlock := by
  refine ⟨?_, fun s => ⟨laid_inputBlock s, laid_stationBlock s, laid_outputBlock s, laid_linkBlock s,
    carries_alarmBlock s, laid_driveBlock s⟩, ?_⟩
  · intro l tag s running reads
    have input : reads (.inputStatus l tag) (.done s.inputBlock) :=
      runRequest_answers (f := fun u => done u u.inputBlock) running rfl
    have station : reads (.stationStatus l tag) (.done s.stationBlock) :=
      runRequest_answers (f := fun u => done u u.stationBlock) running rfl
    have output : reads (.outputStatus l tag) (.done s.outputBlock) :=
      runRequest_answers (f := fun u => done u u.outputBlock) running rfl
    have links : reads (.linkStatus l tag) (.done (s.linkBytes .bridge ++ s.linkBytes .localLink)) :=
      runRequest_answers (f := fun u => done u (u.linkBytes .bridge ++ u.linkBytes .localLink)) running
        (by rw [linkBytes_openRequest, linkBytes_openRequest]; rfl)
    refine ⟨⟨input, (laid_inputBlock s).1⟩, ⟨station, (laid_stationBlock s).1⟩,
      ⟨output, (laid_outputBlock s).1⟩, ⟨links, rfl⟩,
      fun n low => ⟨(exec_alarmList running n).1 low, alarmBlock_length s n⟩,
      fun n => (exec_alarmList running n).2,
      fun a fitted => ⟨exec_driveStatus running a fitted, (laid_driveBlock s a).1⟩,
      fun n => exec_driveStatus_unfitted running,
      fun object index => (exec_settingsRead running).1, fun object index => (exec_settingsRead running).2,
      fun kind => runRequest_answers (f := fun u => deny u .unknownRequest) running rfl⟩
  · intro x has
    refine ⟨objectBytes_none_iff x, fun a => has_of a rfl (laid_axisData x.axes[a]), ?_, fun k => has_of k rfl ?_,
      fun d => has_of d rfl ?_, fun z => has_of z rfl ?_, ?_, ?_, fun k => has_of k rfl ?_, fun l => ?_,
      fun t => has_of t rfl ?_, fun p => has_of p rfl (laid_permissiveData _), fun p => has_of p rfl ?_, by decide⟩
    · refine ⟨[byte x.oil], rfl, laid_of_lays ?_ rfl⟩
      simp
    · exact laid_of_lays (by simp [ChannelSettings.data]) rfl
    · refine laid_of_lays ?_ rfl
      simp [DoorSettings.data]
      exact congrArg octet (doorKindCode_eq _)
    · exact laid_of_lays (by simp [ZoneSettings.data]) rfl
    · refine ⟨[byte x.boards, byte x.blanking], rfl, laid_of_lays ?_ rfl⟩
      simp
    · refine ⟨x.routing.data, rfl, laid_of_lays ?_ (by simp [Routing.data])⟩
      unfold Routing.data
      rw [List.append_assoc, List.append_assoc]
      have last : Lays 18 [boolByte x.routing.stopFollowsAlarm]
          [(18, 1, flagBits [x.routing.stopFollowsAlarm])] := by simp
      have flags := lays_flags (o := 0) x.routing.alarmEnable (lays_flags x.routing.stopEnable last)
      simp only [Nat.zero_add] at flags
      exact flags
    · exact laid_of_lays (by simp [OutputSettings.data]) rfl
    · refine ⟨be16 (x.supervision.get l), by cases l <;> rfl, laid_of_lays ?_ rfl⟩
      simp
    · exact laid_of_lays (by simp [TermSettings.data]) rfl
    · exact laid_of_lays (by simp) rfl

end Sys2Proof.Proofs
end

section
/-! SUPPORT. What a row of acts, one for each door, makes of each door: its record, its outputs and its
counters. -/

open Sys2Proof Sys2Proof.Machine

namespace Sys2Proof.Proofs

/-- What the acts of one door alter of it: its record, its outputs and its counters. -/
def doorView (s : State) (d : Fin 32) : DoorRecord × DoorOutputs × DoorCounters :=
  (s.doors[d], s.chain.outputs[d], s.counters.doors[d])

theorem doorView_iff {s t : State} {d : Fin 32} : doorView t d = doorView s d ↔
    t.doors[d] = s.doors[d] ∧ t.chain.outputs[d] = s.chain.outputs[d] ∧
      t.counters.doors[d] = s.counters.doors[d] := by
  rw [doorView, doorView, Prod.mk.injEq, Prod.mk.injEq]

/-! ### A change of one door -/

theorem doorGoes_outputs (s : State) (d : Fin 32) (y : DoorRecord) (cause : DoorCause) :
    (s.doorGoes d y cause).chain.outputs =
      s.chain.outputs.set d (doorOutputs s.settings.doors[d].kind y.state) := by
  unfold State.doorGoes State.withDoor
  rw [says_eq]
  rfl

theorem doorGoes_counters (s : State) (d : Fin 32) (y : DoorRecord) (cause : DoorCause) :
    (s.doorGoes d y cause).counters.doors = s.counters.doors := by
  unfold State.doorGoes State.withDoor
  exact says_counters_doors _ _

theorem doorView_doorGoes (s : State) (d : Fin 32) (y : DoorRecord) (cause : DoorCause) :
    doorView (s.doorGoes d y cause) d =
      (y, doorOutputs s.settings.doors[d].kind y.state, s.counters.doors[d]) := by
  rw [doorView, doorGoes_doors_self, doorGoes_outputs, doorGoes_counters, set_get_self]

theorem doorView_countDoor (s : State) (d : Fin 32) (k : DoorCounters → DoorCounters) :
    doorView (s.countDoor d k) d = (s.doors[d], s.chain.outputs[d], k s.counters.doors[d]) :=
  congrArg (fun c => (s.doors[d], s.chain.outputs[d], c)) (set_get_self _ _ _)

section
variable {d e : Fin 32} (other : d ≠ e)
include other

theorem doorView_doorGoes_other (s : State) (y : DoorRecord) (cause : DoorCause) :
    doorView (s.doorGoes e y cause) d = doorView s d :=
  doorView_iff.2 ⟨(keepsDoor_doorGoes other s y cause).1, (keepsDoor_doorGoes other s y cause).2,
    congrArg (·[d]) (doorGoes_counters s e y cause)⟩

theorem doorView_countDoor_other (s : State) (k : DoorCounters → DoorCounters) :
    doorView (s.countDoor e k) d = doorView s d :=
  doorView_iff.2 ⟨rfl, rfl, set_others _ _ _ _ other⟩

theorem doorView_doorCloses_other (s : State) (y : DoorRecord) (cause : DoorCause) (edge : Bool) :
    doorView (s.doorCloses e y cause edge) d = doorView s d := by
  unfold State.doorCloses
  dsimp only
  split
  · rw [doorView_doorGoes_other other, doorView_countDoor_other other, doorView_doorGoes_other other]
  · exact doorView_doorGoes_other other s _ cause

theorem doorView_doorReleased_other (s : State) (cause : DoorCause) :
    doorView (s.doorReleased e cause) d = doorView s d := by
  unfold State.doorReleased
  dsimp only
  split
  · rfl
  split
  · rw [doorView_doorGoes_other other, doorView_countDoor_other other]
  · rw [doorView_doorCloses_other other, doorView_countDoor_other other]

end

/-- A door that closes: CLOSING, or with its edge asserted OBSTRUCTED, which is counted. -/
theorem doorView_doorCloses (s : State) (d : Fin 32) (y : DoorRecord) (cause : DoorCause) (edge : Bool) :
    doorView (s.doorCloses d y cause edge) d =
      if s.settings.doors[d].kind = .sliding ∧ edge = true then
        (s.obstructedRecord d (s.closingRecord d y), doorOutputs s.settings.doors[d].kind .obstructed,
          { s.counters.doors[d] with obstructions := saturate s.counters.doors[d].obstructions })
      else (s.closingRecord d y, doorOutputs s.settings.doors[d].kind .closing, s.counters.doors[d]) := by
  have counted (u : State) (k : DoorCounters → DoorCounters) :
      (u.countDoor d k).counters.doors[d] = k u.counters.doors[d] := set_get_self _ _ _
  unfold State.doorCloses
  dsimp only
  split
  · rw [doorView_doorGoes, counted, State.countDoor_settings, doorGoes_settings, doorGoes_counters]
    rfl
  · exact doorView_doorGoes s d _ cause

/-! ### The same change of two states that agree on the door -/

/-- All that one door's change rests on, its own record and counters apart. -/
structure DoorBase (s t : State) : Prop where
  settings : t.settings = s.settings
  clock : t.clock = s.clock
  uptime : t.uptime = s.uptime

theorem DoorsOnly.base {s t : State} (h : DoorsOnly s t) : DoorBase s t :=
  ⟨h.settings, congrArg (·.clock) h, congrArg (·.uptime) h⟩

section
variable {s t : State} {d : Fin 32} (base : DoorBase s t) (same : doorView t d = doorView s d)
include base same

theorem doorView_doorGoes_congr (y : DoorRecord) (cause : DoorCause) :
    doorView (t.doorGoes d y cause) d = doorView (s.doorGoes d y cause) d := by
  rw [doorView_doorGoes, doorView_doorGoes, base.settings, (doorView_iff.1 same).2.2]

theorem doorView_doorCloses_congr (y : DoorRecord) (cause : DoorCause) (edge : Bool) :
    doorView (t.doorCloses d y cause edge) d = doorView (s.doorCloses d y cause edge) d := by
  rw [doorView_doorCloses, doorView_doorCloses]
  unfold State.obstructedRecord State.closingRecord
  rw [base.settings, base.clock, base.uptime, (doorView_iff.1 same).2.2]

theorem doorView_doorReleased_congr (cause : DoorCause) :
    doorView (t.doorReleased d cause) d = doorView (s.doorReleased d cause) d := by
  obtain ⟨record, outputs, counters⟩ := doorView_iff.1 same
  have counting (k : DoorCounters → DoorCounters) :
      doorView (t.countDoor d k) d = doorView (s.countDoor d k) d := by
    rw [doorView_countDoor, doorView_countDoor, record, outputs, counters]
  have counted (k : DoorCounters → DoorCounters) : DoorBase (s.countDoor d k) (t.countDoor d k) :=
    ⟨base.settings, base.clock, base.uptime⟩
  unfold State.doorReleased
  dsimp only
  rw [record, base.clock]
  split
  · exact same
  split
  · exact doorView_doorGoes_congr (counted _) (counting _) _ cause
  · exact doorView_doorCloses_congr (counted _) (counting _) _ cause _

end

/-! ### A row of acts -/

section
variable {ds : List (Fin 32)} {f : State → Fin 32 → State}
  (others : ∀ s {d e : Fin 32}, d ≠ e → doorView (f s e) d = doorView s d)
include others

theorem doorView_foldl_other {d : Fin 32} (apart : d ∉ ds) (s : State) :
    doorView (ds.foldl f s) d = doorView s d :=
  foldl_related (R := fun s t => doorView t d = doorView s d) (fun _ => rfl) (fun h k => k.trans h)
    (fun s _ listed => others s fun same => apart (same ▸ listed)) s

/-- What a door of the row becomes rests on what no act but its own alters. -/
theorem doorView_foldl (only : ∀ s d, DoorsOnly s (f s d)) {d : Fin 32} {s : State}
    {v : DoorRecord × DoorOutputs × DoorCounters} (distinct : ds.Nodup) (listed : d ∈ ds)
    (goes : ∀ u : State, doorView u d = doorView s d → DoorsOnly s u → doorView (f u d) d = v) :
    doorView (ds.foldl f s) d = v :=
  foldl_once (before := fun u => doorView u d = doorView s d ∧ DoorsOnly s u)
    (after := fun u => doorView u d = v) distinct listed
    (fun u e other h => ⟨(others u other.symm).trans h.1, h.2.trans (only u e)⟩)
    (fun u h => goes u h.1 h.2) (fun u _ other h => (others u other.symm).trans h) ⟨rfl, rfl⟩

end

/-! ### The counts of open doors (R101) -/

/-- The counts of open doors are right. -/
def Counted (s : State) : Prop := s.openCounts = s.countsNow

theorem counted_doorGoes (s : State) (d : Fin 32) (y : DoorRecord) (cause : DoorCause) :
    Counted (s.doorGoes d y cause) := rfl

theorem counted_doorCloses (s : State) (d : Fin 32) (y : DoorRecord) (cause : DoorCause) (edge : Bool) :
    Counted (s.doorCloses d y cause edge) := by
  unfold State.doorCloses
  dsimp only
  split
  · exact counted_doorGoes _ _ _ _
  · exact counted_doorGoes _ _ _ _

theorem counted_doorReleased {s : State} (counted : Counted s) (d : Fin 32) (cause : DoorCause) :
    Counted (s.doorReleased d cause) := by
  unfold State.doorReleased
  dsimp only
  split
  · exact counted
  split
  · exact counted_doorGoes _ _ _ _
  · exact counted_doorCloses _ _ _ _ _

theorem counted_foldl {α : Type} {f : State → α → State} (acts : ∀ s x, Counted s → Counted (f s x))
    (xs : List α) {s : State} (counted : Counted s) : Counted (xs.foldl f s) := by
  induction xs generalizing s with
  | nil => exact counted
  | cons x xs ih => exact ih (acts s x counted)

/-- The counts rest on the settings and the doors alone. -/
theorem countsNow_congr {s t : State} (settings : t.settings.doors = s.settings.doors)
    (doors : t.doors = s.doors) : t.countsNow = s.countsNow := by
  unfold State.countsNow State.zoneOpenCount State.seaOpenCount State.zoneDoors
    State.doorOfZone State.doorFitted
  rw [settings, doors]

end Sys2Proof.Proofs
end

section
/-! SUPPORT. The power events and the start of the part (11, R178, R179). -/

open Sys2Proof Sys2Proof.Machine

namespace Sys2Proof.Proofs

/-! ### The doors at the first scan (R85, R108) -/

theorem doorsOnly_deriveDoor (s : State) (d : Fin 32) (cause : DoorCause) (i : DoorInputs) :
    DoorsOnly s (s.deriveDoor d cause i) := by
  rw [deriveDoor_eq]
  dsimp only
  split
  · exact doorsOnly_doorGoes s d _ cause
  · exact doorsOnly_doorCloses s d _ cause _

theorem counted_deriveDoor (s : State) (d : Fin 32) (cause : DoorCause) (i : DoorInputs) :
    Counted (s.deriveDoor d cause i) := by
  rw [deriveDoor_eq]
  dsimp only
  split
  · exact counted_doorGoes _ _ _ _
  · exact counted_doorCloses _ _ _ _ _

theorem doorView_deriveDoor_other {d e : Fin 32} (other : d ≠ e) (s : State) (cause : DoorCause)
    (i : DoorInputs) : doorView (s.deriveDoor e cause i) d = doorView s d := by
  rw [deriveDoor_eq]
  dsimp only
  split
  · exact doorView_doorGoes_other other s _ cause
  · exact doorView_doorCloses_other other s _ cause _

theorem doorsOnly_startDoor (s : State) (d : Fin 32) : DoorsOnly s (s.startDoor d) := by
  unfold State.startDoor
  split
  · exact doorsOnly_deriveDoor _ _ _ _
  · rfl

theorem counted_startDoor {s : State} (d : Fin 32) (counted : Counted s) : Counted (s.startDoor d) := by
  unfold State.startDoor
  split
  · exact counted_deriveDoor _ _ _ _
  · exact counted

theorem doorView_startDoor_other (s : State) {d e : Fin 32} (other : d ≠ e) :
    doorView (s.startDoor e) d = doorView s d := by
  unfold State.startDoor
  split
  · exact doorView_deriveDoor_other other s _ _
  · rfl

section
variable (s : State) (inputs : InputLevels) (doors : Vector DoorInputs 32)

/-- The part with the settings in force and the first scan seen. -/
abbrev loaded : State := s.takeLoad inputs doors

/-- The record of a door before it is derived. -/
def scanned (d : Fin 32) : DoorRecord := { DoorRecord.powerOn with seen := doors[d] }

theorem loaded_doors (d : Fin 32) : (loaded s inputs doors).doors[d] = scanned doors d :=
  Vector.getElem_ofFn _

/-- The record a door is derived from, its conflict timer judged. -/
def judgedRecord (d : Fin 32) : DoorRecord := { scanned doors d with
  conflict := if doors[d].openSwitch = true ∧ doors[d].closedSwitch = true then some 1000 else none }

theorem doorView_loaded (d : Fin 32) : doorView (loaded s inputs doors) d =
    (scanned doors d, DoorOutputs.off, ⟨0, 0, 0⟩) := by
  rw [doorView, loaded_doors]
  refine congrArg (Prod.mk _) (Prod.mk.injEq .. ▸ ⟨?_, ?_⟩)
  · exact Vector.getElem_replicate _
  · exact Vector.getElem_replicate _

/-- What the first scan makes of one door. -/
def startView (d : Fin 32) : DoorRecord × DoorOutputs × DoorCounters :=
  let n := loaded s inputs doors
  let kind := n.settings.doors[d].kind
  let y := judgedRecord doors d
  if kind = .absent then (scanned doors d, DoorOutputs.off, ⟨0, 0, 0⟩)
  else if doors[d].closedSwitch = true then (y, DoorOutputs.off, ⟨0, 0, 0⟩)
  else if kind = .sliding ∧ doors[d].edge = true then
    (n.obstructedRecord d (n.closingRecord d y), DoorOutputs.off, ⟨0, 0, 1⟩)
  else (n.closingRecord d y, doorOutputs kind .closing, ⟨0, 0, 0⟩)

theorem doorView_startDoor {u : State} {d : Fin 32}
    (same : doorView u d = doorView (loaded s inputs doors) d) (only : DoorsOnly (loaded s inputs doors) u) :
    doorView (u.startDoor d) d = startView s inputs doors d := by
  have base := only.base
  have levels : u.chain.levels = doors := congrArg (·.chain.levels) only
  have view := same.trans (doorView_loaded s inputs doors d)
  rw [doorView, Prod.mk.injEq, Prod.mk.injEq] at view
  obtain ⟨record, outputs, counters⟩ := view
  unfold State.startDoor startView State.doorFitted
  dsimp only
  rw [base.settings]
  by_cases absent : (loaded s inputs doors).settings.doors[d].kind = .absent
  · rw [if_neg (by simpa using absent), if_pos absent]
    exact same.trans (doorView_loaded s inputs doors d)
  rw [if_pos (by simpa using absent), if_neg absent, deriveDoor_eq]
  dsimp only
  rw [levels, record, if_congr (conflict_iff (i := doors[d])) rfl rfl]
  by_cases shut : doors[d].closedSwitch = true
  · rw [if_pos shut, if_pos shut, doorView_doorGoes, counters]
    rfl
  · rw [if_neg shut, if_neg shut, doorView_doorCloses, counters]
    unfold State.obstructedRecord State.closingRecord
    rw [base.settings, base.clock, base.uptime]
    rfl

theorem counted_loaded : Counted (loaded s inputs doors) := by
  have closed (d : Fin 32) : (loaded s inputs doors).doors[d].state = .closed := by
    rw [loaded_doors]
    rfl
  have zone (z : Fin 8) : (loaded s inputs doors).zoneOpenCount z = 0 := by
    unfold State.zoneOpenCount
    rw [List.filter_eq_nil_iff.2 fun d _ => by simp [-Fin.getElem_fin, closed d]]
    rfl
  have sea : (loaded s inputs doors).seaOpenCount = 0 := by
    unfold State.seaOpenCount
    rw [List.filter_eq_nil_iff.2 fun d _ => by simp [-Fin.getElem_fin, closed d]]
    rfl
  unfold Counted State.countsNow
  rw [sea, funext zone]
  rfl

/-- The part once its doors are derived from the first scan. -/
@[irreducible] def derivedDoors : State := (loaded s inputs doors).startDoors

/-- The row of derivations, before its reports and notices are dropped. -/
@[irreducible] def doorRow : State := (List.finRange 32).foldl State.startDoor (loaded s inputs doors)

theorem doorsOnly_row : DoorsOnly (loaded s inputs doors) (doorRow s inputs doors) := by
  unfold doorRow
  exact doorsOnly_foldl (ds := List.finRange 32) doorsOnly_startDoor (loaded s inputs doors)

theorem derivedDoors_eq : derivedDoors s inputs doors =
    { loaded s inputs doors with
      doors := (doorRow s inputs doors).doors
      chain := { (loaded s inputs doors).chain with outputs := (doorRow s inputs doors).chain.outputs }
      openCounts := (doorRow s inputs doors).openCounts
      counters := { Counters.zero with doors := (doorRow s inputs doors).counters.doors } } := by
  have quiet : derivedDoors s inputs doors = (doorRow s inputs doors).quiet (loaded s inputs doors) := by
    unfold derivedDoors State.startDoors doorRow
    exact Eq.refl _
  exact quiet.trans <|
    congrArg (fun t : State => t.quiet (loaded s inputs doors)) (doorsOnly_row s inputs doors)

theorem doorView_row (d : Fin 32) :
    doorView (doorRow s inputs doors) d = startView s inputs doors d := by
  unfold doorRow
  exact doorView_foldl doorView_startDoor_other doorsOnly_startDoor (List.nodup_finRange 32)
    (List.mem_finRange d) fun _ same only => doorView_startDoor s inputs doors same only

theorem doorView_derivedDoors (d : Fin 32) :
    doorView (derivedDoors s inputs doors) d = startView s inputs doors d := by
  rw [derivedDoors_eq]
  exact doorView_row s inputs doors d

theorem counted_derivedDoors : Counted (derivedDoors s inputs doors) := by
  have row : Counted (doorRow s inputs doors) := by
    unfold doorRow
    exact counted_foldl (fun _ d => counted_startDoor d) _ (counted_loaded s inputs doors)
  have settings := congrArg Settings.doors (doorsOnly_row s inputs doors).settings
  rw [derivedDoors_eq]
  refine Eq.trans (show (doorRow s inputs doors).openCounts = _ from row) (countsNow_congr ?_ ?_)
  · exact settings
  · rfl

theorem startView_state (d : Fin 32) : (startView s inputs doors d).1.state =
    startState (loaded s inputs doors).settings.doors[d].kind doors[d] := by
  unfold startView startState
  dsimp only
  split
  · rfl
  split
  · rfl
  split <;> rfl

theorem startView_outputs (d : Fin 32) : (startView s inputs doors d).2.1 =
    doorOutputs (loaded s inputs doors).settings.doors[d].kind (startView s inputs doors d).1.state := by
  unfold startView
  dsimp only
  split
  · rfl
  split
  · rfl
  split <;> rfl

theorem startView_free (d : Fin 32) : (startView s inputs doors d).1.state.heldOpen = false := by
  rw [startView_state]
  unfold startState
  split
  · rfl
  split
  · rfl
  split <;> rfl

end

/-! ### The zones at the first sample (R102, R105, R108) -/

/-- The report of a zone that its fire input brings into ALARM. -/
def litReport (z : Fin 8) : Option Link × ReportBody := toBoth (.zoneState z true .fireInput)

/-- No door is held. -/
def NoneHeld (s : State) : Prop := ∀ d : Fin 32, s.doors[d].state.heldOpen = false

theorem foldl_doorReleased_free {s : State} (free : NoneHeld s) (ds : List (Fin 32)) (cause : DoorCause) :
    ds.foldl (fun t d => t.doorReleased d cause) s = s := by
  induction ds with
  | nil => rfl
  | cons d ds ih => rw [List.foldl_cons, doorReleased_free (free d), ih]

/-- `s` after its zones have reported `rs` and left their records `zones` and the notices `hs`. -/
def zonesGo (s : State) (rs : List (Option Link × ReportBody)) (zones : Vector ZoneRecord 8)
    (hs : List Instr) : State := { s.says rs with zones := zones, handed := hs }

theorem zonesGo_zonesGo (s : State) (rs qs : List (Option Link × ReportBody))
    (zones zones' : Vector ZoneRecord 8) (hs hs' : List Instr) :
    zonesGo (zonesGo s rs zones hs) qs zones' hs' = zonesGo s (rs ++ qs) zones' hs' := by
  unfold zonesGo
  rw [says_append, says_eq, says_eq (s.says rs)]
  rfl

section
variable (s : State) (rs : List (Option Link × ReportBody)) (zones : Vector ZoneRecord 8) (hs : List Instr)

theorem zonesGo_doors : (zonesGo s rs zones hs).doors = s.doors := says_doors s rs

theorem zonesGo_settings : (zonesGo s rs zones hs).settings = s.settings := says_settings s rs

theorem zonesGo_clock : (zonesGo s rs zones hs).clock = s.clock := says_clock s rs

end

/-- A zone at rest with its fire input `f`, its condition evaluated for the first time. -/
theorem evalZone_first {u : State} {z : Fin 8} {f : Bool} (free : NoneHeld u)
    (quiet : u.zones[z] = ⟨false, false, f, none⟩) : u.evalZone z .fireInput =
      if (u.settings.zones[z].fireEnabled && f) = true then
        zonesGo u [litReport z] (u.zones.set z ⟨true, false, f, some u.clock⟩)
          (u.handed ++ [.recallTrim z, .evacuatePost z, .alarmSourceChange (.fire z) true,
            .outputLineSourceChange (.zoneAlarm z) true, .sourceChange (.zoneAlarm z) ⟨1, true⟩])
      else u := by
  unfold State.evalZone State.zoneCondition State.fireHolds
  rw [quiet]
  dsimp only
  rw [Bool.or_false]
  cases lit : u.settings.zones[z].fireEnabled && f with
  | false => rfl
  | true =>
    have still : u.zones.set z (⟨false, false, f, none⟩ : ZoneRecord) = u.zones := by
      rw [← quiet]
      exact Vector.set_getElem_self _
    have goes := enterAlarm_eq (s := u) (z := z) (y := ⟨false, false, f, none⟩)
    rw [still, lit] at goes
    have self : ({ u with zones := u.zones } : State) = u := rfl
    rw [self, foldl_doorReleased_free] at goes
    · rw [if_neg (by decide), if_pos rfl, if_pos rfl, goes, says_eq]
      unfold zonesGo
      rw [says_eq]
      rfl
    · intro d
      rw [says_doors]
      exact free d

/-- The records of zones at rest once those of `zs` that are lit are in ALARM. -/
def litZones (lit fire : Fin 8 → Bool) (now : DeckTime) (zs : List (Fin 8)) (old : Vector ZoneRecord 8) :
    Vector ZoneRecord 8 :=
  Vector.ofFn fun z => if z ∈ zs ∧ lit z = true then ⟨true, false, fire z, some now⟩ else old[z]

section
variable {lit fire : Fin 8 → Bool} {now : DeckTime} {old : Vector ZoneRecord 8} {z : Fin 8}
  {zs : List (Fin 8)}

theorem litZones_nil : litZones lit fire now [] old = old :=
  Vector.ext fun _ hi => (Vector.getElem_ofFn hi).trans (if_neg fun h => List.not_mem_nil h.1)

theorem litZones_cons_dark (dark : lit z = false) :
    litZones lit fire now (z :: zs) old = litZones lit fire now zs old := by
  refine congrArg Vector.ofFn (funext fun y => if_congr ⟨?_, ?_⟩ rfl rfl)
  · exact fun h => ⟨(List.mem_cons.1 h.1).resolve_left fun eq => absurd (eq ▸ h.2) (by rw [dark]; decide), h.2⟩
  · exact fun h => ⟨List.mem_cons_of_mem z h.1, h.2⟩

theorem litZones_cons_lit (on : lit z = true) (once : z ∉ zs) : litZones lit fire now (z :: zs) old =
    litZones lit fire now zs (old.set z ⟨true, false, fire z, some now⟩) := by
  refine congrArg Vector.ofFn (funext fun y => ?_)
  by_cases at' : y = z
  · subst at'
    rw [if_pos ⟨List.mem_cons_self, on⟩, if_neg fun h => once h.1, set_get_self]
  · rw [set_others _ _ _ _ at']
    refine if_congr ⟨?_, ?_⟩ rfl rfl
    · exact fun h => ⟨(List.mem_cons.1 h.1).resolve_left at', h.2⟩
    · exact fun h => ⟨List.mem_cons_of_mem z h.1, h.2⟩

/-- The zones of a list that are lit, taken into ALARM in its order. -/
theorem foldl_evalZone_first {u : State} (distinct : zs.Nodup) (free : NoneHeld u)
    (condition : ∀ z : Fin 8, (u.settings.zones[z].fireEnabled && fire z) = lit z)
    (quiet : ∀ z ∈ zs, u.zones[z] = ⟨false, false, fire z, none⟩) :
    ∃ hs, zs.foldl (fun s z => s.evalZone z .fireInput) u =
      zonesGo u ((zs.filter lit).map litReport) (litZones lit fire u.clock zs u.zones) hs := by
  induction zs generalizing u with
  | nil =>
    rw [litZones_nil]
    exact ⟨u.handed, rfl⟩
  | cons z zs ih =>
    obtain ⟨once, distinct'⟩ := List.nodup_cons.1 distinct
    have goes := evalZone_first free (quiet z List.mem_cons_self)
    rw [condition z] at goes
    cases on : lit z with
    | false =>
      rw [on, if_neg (by decide)] at goes
      rw [List.foldl_cons, goes, List.filter_cons_of_neg (by rw [on]; decide), litZones_cons_dark on]
      exact ih distinct' free condition fun y listed => quiet y (List.mem_cons_of_mem z listed)
    | true =>
      rw [on, if_pos rfl] at goes
      rw [List.foldl_cons, goes, List.filter_cons_of_pos on, litZones_cons_lit on once]
      obtain ⟨hs, rest⟩ := ih distinct'
        (u := zonesGo u [litReport z] (u.zones.set z ⟨true, false, fire z, some u.clock⟩)
          (u.handed ++ [.recallTrim z, .evacuatePost z, .alarmSourceChange (.fire z) true,
            .outputLineSourceChange (.zoneAlarm z) true, .sourceChange (.zoneAlarm z) ⟨1, true⟩]))
        (fun d => by rw [zonesGo_doors]; exact free d)
        (fun y => by rw [zonesGo_settings]; exact condition y)
        (fun y listed => (set_others _ _ _ _ (ne_of_mem_of_not_mem listed once)).trans
          (quiet y (List.mem_cons_of_mem z listed)))
      rw [rest, zonesGo_zonesGo, zonesGo_clock]
      exact ⟨hs, rfl⟩

end

/-! ### The alarm list at the start (R163) -/

/-- Both trip lines stand as the alarm list asks (R157, R158). -/
structure LinesDue (s : State) : Prop where
  alarm : s.alarms.alarm = alarmDue s.settings.routing s.alarms.list
  stop : s.alarms.stop = stopDue s.settings.routing s.alarms.list s.alarms.alarm

/-- Two states have the same routing, alarm list and trip lines. -/
structure SameAlarms (s t : State) : Prop where
  routing : t.settings.routing = s.settings.routing
  list : t.alarms.list = s.alarms.list
  alarm : t.alarms.alarm = s.alarms.alarm
  stop : t.alarms.stop = s.alarms.stop

theorem withAlarms_sameAlarms {s t : State} (routing : t.settings.routing = s.settings.routing)
    (es : List AlarmEntry) : SameAlarms (s.withAlarms es) (t.withAlarms es) := by
  refine ⟨routing, rfl, ?_, ?_⟩
  · exact congrArg (alarmDue · es) routing
  · exact congrArg (fun r => stopDue r es (alarmDue r es)) routing

theorem joinReports_cons (s : State) (e : AlarmEntry) (es : List AlarmEntry) : s.joinReports (e :: es) =
    toBoth (.alarmChanged e.source none (some e.state) e.occurrences e.first e.last
      (if momentaryCode e.source then .momentary else .active)) ::
    (s.tripReports (s.alarms.list ++ [e]) ++ (s.withAlarms (s.alarms.list ++ [e])).joinReports es) := rfl

theorem joinReports_congr {s t : State} (same : SameAlarms s t) (es : List AlarmEntry) :
    t.joinReports es = s.joinReports es := by
  induction es generalizing s t with
  | nil => rfl
  | cons e es ih =>
    have after := withAlarms_sameAlarms same.routing (s.alarms.list ++ [e])
    have reports : t.tripReports (s.alarms.list ++ [e]) = s.tripReports (s.alarms.list ++ [e]) := by
      unfold State.tripReports
      dsimp only
      rw [after.alarm, after.stop, same.alarm, same.stop]
    rw [joinReports_cons, joinReports_cons, same.list, reports, ih after]

theorem linesDue_withAlarms (s : State) (es : List AlarmEntry) : LinesDue (s.withAlarms es) := ⟨rfl, rfl⟩

theorem sameAlarms_of_due {s : State} (due : LinesDue s) : SameAlarms s (s.withAlarms s.alarms.list) :=
  ⟨rfl, rfl, due.alarm.symm, by
    rw [due.stop, due.alarm]
    rfl⟩

theorem joinReports_append {s : State} (due : LinesDue s) (es fs : List AlarmEntry) :
    s.joinReports (es ++ fs) =
      s.joinReports es ++ (s.withAlarms (s.alarms.list ++ es)).joinReports fs := by
  induction es generalizing s with
  | nil =>
    rw [List.append_nil, joinReports_congr (sameAlarms_of_due due)]
    rfl
  | cons e es ih =>
    have rest := ih (linesDue_withAlarms s (s.alarms.list ++ [e]))
    have lists : (s.withAlarms (s.alarms.list ++ [e])).alarms.list ++ es = s.alarms.list ++ e :: es :=
      List.append_assoc ..
    rw [lists, joinReports_congr (s := s.withAlarms (s.alarms.list ++ e :: es))
      (withAlarms_sameAlarms (by rfl) _)] at rest
    rw [List.cons_append, joinReports_cons, joinReports_cons, rest, List.cons_append, List.append_assoc]

/-- `t` is `u` after the entries `es` have joined its alarm list one by one, its flags then `flags`. -/
def Joined (u : State) (es : List AlarmEntry) (flags : Vector Bool 60) (t : State) : Prop :=
  ∃ lines hs, t = alarmsGo u (u.joinReports es)
    { (u.withAlarms (u.alarms.list ++ es)).alarms with flags := flags, lines := lines } hs

theorem joined_nil {u : State} (due : LinesDue u) : Joined u [] u.alarms.flags u := by
  refine ⟨u.alarms.lines, u.handed, ?_⟩
  have alarms : { (u.withAlarms (u.alarms.list ++ [])).alarms with
      flags := u.alarms.flags, lines := u.alarms.lines } = u.alarms := by
    have same := sameAlarms_of_due due
    rw [List.append_nil]
    exact congrArg₂ (fun a b => { u.alarms with alarm := a, stop := b }) same.alarm same.stop
  rw [alarms]
  rfl

theorem Joined.trans {u t v : State} {es fs : List AlarmEntry} {flags flags' : Vector Bool 60}
    (due : LinesDue u) (h : Joined u es flags t) (k : Joined t fs flags' v) :
    Joined u (es ++ fs) flags' v := by
  obtain ⟨lines, hs, rfl⟩ := h
  obtain ⟨lines', hs', rfl⟩ := k
  have routing : (alarmsGo u (u.joinReports es)
      { (u.withAlarms (u.alarms.list ++ es)).alarms with flags := flags, lines := lines } hs).settings =
      u.settings := says_settings _ _
  refine ⟨lines', hs', ?_⟩
  rw [alarmsGo_alarmsGo, joinReports_append due,
    joinReports_congr (s := u.withAlarms (u.alarms.list ++ es)) (t := alarmsGo u _ _ hs)
      ⟨congrArg Settings.routing routing, rfl, rfl, rfl⟩]
  have after := withAlarms_sameAlarms (congrArg Settings.routing routing)
    (u.alarms.list ++ es ++ fs)
  rw [← List.append_assoc]
  refine congrArg (alarmsGo u _ · hs') ?_
  exact congrArg₂ (fun a b => AlarmUnit.mk (u.alarms.list ++ es ++ fs) flags' a b lines')
    after.alarm after.stop

/-- One entry that joins the list. -/
theorem joined_entryGoes {u : State} {e : AlarmEntry} {flags : Vector Bool 60} {cause : AlarmCause}
    (stands : cause = if momentaryCode e.source then .momentary else .active) :
    Joined u [e] flags (entryGoes u flags (u.alarms.list ++ [e])
      (.alarmChanged e.source none (some e.state) e.occurrences e.first e.last cause)) := by
  subst stands
  refine ⟨(u.withAlarms (u.alarms.list ++ [e])).alarms.lines,
    u.handed ++ u.tripNotices (u.alarms.list ++ [e]), ?_⟩
  unfold entryGoes State.joinReports
  dsimp only
  rw [show (u.withAlarms (u.alarms.list ++ [e])).joinReports [] = [] from rfl, List.append_nil]
  rfl

/-- The entry of a condition that is first raised at `now` (R151). -/
def firstEntry (now : DeckTime) (src : CondSource) : AlarmEntry := ⟨src.code, .activeUnacked, now, now, 1⟩

theorem joined_setFlag {u : State} {src : CondSource} (clear : u.alarms.flags[src.code] = false)
    (absent : findEntry u.alarms.list src.code = none) :
    Joined u [firstEntry u.clock src] (u.alarms.flags.set src.code true) (u.setFlag src true) := by
  have flag : u.alarms.flags[src.code] ≠ true := by
    rw [clear]
    decide
  have entry : u.flagEntry src.code true = some (firstEntry u.clock src) := by
    unfold State.flagEntry
    rw [absent]
    rfl
  rw [setFlag_eq flag absent entry nofun, putEntry_new absent]
  exact joined_entryGoes (by
    rw [show (firstEntry u.clock src).source = src.code from rfl, momentaryCode_code]
    rfl)

theorem joined_raiseMomentary {u : State} {src : MomentarySource} (momentary : momentaryCode src.code = true)
    (absent : findEntry u.alarms.list src.code = none) :
    Joined u [⟨src.code, .returnedUnacked, u.clock, u.clock, 1⟩] u.alarms.flags (u.raiseMomentary src) := by
  rw [raiseMomentary_eq (new := some ⟨src.code, .returnedUnacked, u.clock, u.clock, 1⟩) absent rfl nofun,
    putEntry_new absent]
  exact joined_entryGoes (by
    dsimp only
    rw [momentary]
    rfl)

theorem Joined.clock {u t : State} {es : List AlarmEntry} {flags : Vector Bool 60}
    (h : Joined u es flags t) : t.clock = u.clock := by
  obtain ⟨_, _, rfl⟩ := h
  exact says_clock _ _

theorem Joined.list {u t : State} {es : List AlarmEntry} {flags : Vector Bool 60}
    (h : Joined u es flags t) : t.alarms.list = u.alarms.list ++ es := by
  obtain ⟨_, _, rfl⟩ := h
  rfl

theorem Joined.flags {u t : State} {es : List AlarmEntry} {flags : Vector Bool 60}
    (h : Joined u es flags t) : t.alarms.flags = flags := by
  obtain ⟨_, _, rfl⟩ := h
  rfl

theorem Joined.due {u t : State} {es : List AlarmEntry} {flags : Vector Bool 60}
    (h : Joined u es flags t) : LinesDue t := by
  obtain ⟨lines, hs, rfl⟩ := h
  have settings : (alarmsGo u (u.joinReports es)
      { (u.withAlarms (u.alarms.list ++ es)).alarms with flags := flags, lines := lines } hs).settings =
      u.settings := says_settings _ _
  constructor
  · rw [settings]
    rfl
  · rw [settings]
    rfl

/-- The flags once the conditions listed are raised. -/
def flagsRaised (flags : Vector Bool 60) (srcs : List CondSource) : Vector Bool 60 :=
  srcs.foldl (fun v src => v.set src.code true) flags

theorem flagsRaised_get (flags : Vector Bool 60) (srcs : List CondSource) (c : Fin 60) :
    (flagsRaised flags srcs)[c] = (flags[c] || srcs.any fun src => decide (src.code = c)) := by
  induction srcs generalizing flags with
  | nil => exact (Bool.or_false _).symm
  | cons src srcs ih =>
    refine (ih (flags.set src.code true)).trans ?_
    rw [List.any_cons]
    by_cases at' : src.code = c
    · rw [← at', set_get_self, decide_eq_true rfl, Bool.true_or, Bool.or_true]
    · rw [set_others _ _ _ _ (Ne.symm at'), decide_eq_false at', Bool.false_or]

/-- Conditions, each of a code of its own and none in the list, raised in a row. -/
theorem joined_foldl {u : State} {srcs : List CondSource} (due : LinesDue u)
    (distinct : (srcs.map CondSource.code).Nodup)
    (clear : ∀ src ∈ srcs, u.alarms.flags[src.code] = false ∧ findEntry u.alarms.list src.code = none) :
    Joined u (srcs.map (firstEntry u.clock)) (flagsRaised u.alarms.flags srcs)
      (srcs.foldl (fun s src => s.setFlag src true) u) := by
  induction srcs generalizing u with
  | nil => exact joined_nil due
  | cons src srcs ih =>
    obtain ⟨once, distinct'⟩ := List.nodup_cons.1 distinct
    obtain ⟨flag, absent⟩ := clear src List.mem_cons_self
    have first := joined_setFlag flag absent
    have rest := ih first.due distinct' fun next listed => by
      have other : next.code ≠ src.code := fun same => once (same ▸ List.mem_map_of_mem listed)
      obtain ⟨flag', absent'⟩ := clear next (List.mem_cons_of_mem src listed)
      constructor
      · rw [first.flags, set_others _ _ _ _ other]
        exact flag'
      · rw [first.list, findEntry, List.find?_append, ← findEntry, absent']
        exact List.find?_eq_none.2 (by simpa [firstEntry] using Ne.symm other)
    rw [first.clock, first.flags] at rest
    exact first.trans due rest

/-! ### The reports of the start -/

theorem alarmDue_append (r : Routing) (es : List AlarmEntry) (e : AlarmEntry) :
    alarmDue r (es ++ [e]) = (alarmDue r es || alarmDue r [e]) := List.any_append

theorem stopDue_append (r : Routing) (es : List AlarmEntry) (e : AlarmEntry) :
    stopDue r (es ++ [e]) (alarmDue r (es ++ [e])) =
      (stopDue r es (alarmDue r es) || stopDue r [e] (alarmDue r [e])) := by
  have held : stopHeld r (es ++ [e]) = (stopHeld r es || stopHeld r [e]) := List.any_append
  unfold stopDue
  rw [held, alarmDue_append]
  rw [Bool.and_or_distrib_left]
  ac_rfl

/-- A line that only rises is reported once at most. -/
theorem length_rising (old new : Bool) (r : Option Link × ReportBody) :
    (if (old || new) = old then [] else [r]).length + old.toNat = (old || new).toNat := by
  cases old <;> cases new <;> rfl

/-- Each entry that joins is reported, and each trip line once at most. -/
theorem length_joinReports {s : State} (due : LinesDue s) (es : List AlarmEntry) :
    (s.joinReports es).length + s.alarms.alarm.toNat + s.alarms.stop.toNat ≤ es.length + 2 := by
  induction es generalizing s with
  | nil =>
    have alarm := Bool.toNat_le s.alarms.alarm
    have stop := Bool.toNat_le s.alarms.stop
    show 0 + _ + _ ≤ 0 + 2
    omega
  | cons e es ih =>
    have rest := ih (linesDue_withAlarms s (s.alarms.list ++ [e]))
    have alarm := alarmDue_append s.settings.routing s.alarms.list e
    have stop := stopDue_append s.settings.routing s.alarms.list e
    rw [← due.alarm] at alarm stop
    rw [← due.stop] at stop
    have trips : (s.tripReports (s.alarms.list ++ [e])).length + s.alarms.alarm.toNat +
        s.alarms.stop.toNat = (s.withAlarms (s.alarms.list ++ [e])).alarms.alarm.toNat +
          (s.withAlarms (s.alarms.list ++ [e])).alarms.stop.toNat := by
      have first := length_rising s.alarms.alarm (alarmDue s.settings.routing [e])
      have second := length_rising s.alarms.stop
        (stopDue s.settings.routing [e] (alarmDue s.settings.routing [e]))
      unfold State.tripReports
      dsimp only
      rw [show (s.withAlarms (s.alarms.list ++ [e])).alarms.alarm = _ from alarm,
        show (s.withAlarms (s.alarms.list ++ [e])).alarms.stop = _ from stop, List.length_append]
      have first' := first (toBoth (.tripLineChanged false
        (s.alarms.alarm || alarmDue s.settings.routing [e])))
      have second' := second (toBoth (.tripLineChanged true
        (s.alarms.stop || stopDue s.settings.routing [e] (alarmDue s.settings.routing [e]))))
      omega
    rw [joinReports_cons, List.length_cons, List.length_append, List.length_cons]
    omega

/-- A report heard on a link whose queue has room: it is not discarded, and no other queue changes. -/
theorem hearOn_free {h : Heard} {l : Link} (free : (h.1.get l).queue.length < 32) (now : DeckTime)
    (b : ReportBody) : (hearOn now h l b).2 = h.2 ∧
      ((hearOn now h l b).1.get l).queue.length ≤ (h.1.get l).queue.length + 1 ∧
      ∀ m : Link, m ≠ l → (hearOn now h l b).1.get m = h.1.get m := by
  have open' : (h.1.get l).full = false := decide_eq_false (by
    show ¬32 ≤ _
    omega)
  refine ⟨?_, ?_, fun m other => pair_get_set_other _ _ _ _ other⟩
  · unfold hearOn
    dsimp only
    rw [open', Bool.and_false, if_neg (by decide)]
    exact pair_set_get _ _
  · unfold hearOn LinkController.enqueue
    rw [pair_get_set_self, open']
    dsimp only
    split
    · rw [List.length_append]
      exact Nat.le_refl _
    · omega

/-- Neither queue of the links holds more than `n` reports. -/
def QueuesWithin (n : ℕ) (h : Heard) : Prop := ∀ l : Link, (h.1.get l).queue.length ≤ n

theorem hear_both_free {n : ℕ} {h : Heard} (short : QueuesWithin n h) (free : n < 32) (now : DeckTime)
    (b : ReportBody) :
    (hear now h (toBoth b)).2 = h.2 ∧ QueuesWithin (n + 1) (hear now h (toBoth b)) := by
  obtain ⟨kept, grows, others⟩ := hearOn_free (Nat.lt_of_le_of_lt (short .bridge) free) now b
  have next := others .localLink nofun
  have room : ((hearOn now h .bridge b).1.get .localLink).queue.length < 32 := by
    rw [next]
    exact Nat.lt_of_le_of_lt (short .localLink) free
  obtain ⟨kept', grows', others'⟩ := hearOn_free room now b
  refine ⟨kept'.trans kept, fun l => ?_⟩
  cases l with
  | bridge =>
    refine Nat.le_trans (congrArg (fun c => c.queue.length) (others' .bridge nofun)).le ?_
    exact Nat.le_trans grows (Nat.add_le_add_right (short .bridge) 1)
  | localLink =>
    refine Nat.le_trans grows' ?_
    rw [next]
    exact Nat.add_le_add_right (short .localLink) 1

/-- Reports for which both queues have room are not discarded (R170). -/
theorem hearAll_free {rs : List (Option Link × ReportBody)} {n : ℕ} {h : Heard} (short : QueuesWithin n h)
    (room : n + rs.length ≤ 32) (both : ∀ r ∈ rs, r.1 = none) (now : DeckTime) :
    (hearAll now h rs).2 = h.2 := by
  induction rs generalizing n h with
  | nil => rfl
  | cons r rs ih =>
    rw [List.length_cons] at room
    obtain ⟨_, b⟩ := r
    obtain rfl := both _ List.mem_cons_self
    obtain ⟨kept, short'⟩ := hear_both_free short (by omega) now b
    exact (ih short' (by omega) fun r listed => both r (List.mem_cons_of_mem _ listed)).trans kept

theorem joinReports_both {s : State} {es : List AlarmEntry} : ∀ r ∈ s.joinReports es, r.1 = none := by
  induction es generalizing s with
  | nil => exact fun r listed => absurd listed List.not_mem_nil
  | cons e es ih =>
    have trips : ∀ r ∈ s.tripReports (s.alarms.list ++ [e]), r.1 = none := by
      intro r listed
      unfold State.tripReports at listed
      dsimp only at listed
      rcases List.mem_append.1 listed with first | second
      · split at first
        · cases first
        · rw [List.mem_singleton.1 first]
          rfl
      · split at second
        · cases second
        · rw [List.mem_singleton.1 second]
          rfl
    rw [joinReports_cons]
    intro r listed
    rcases List.mem_cons.1 listed with first | later
    · rw [first]
      rfl
    · exact (List.mem_append.1 later).elim (trips r) (ih r)

/-! ### The start block by block -/

section
variable (s : State) (inputs : InputLevels) (doors : Vector DoorInputs 32)

/-- The settings in force. -/
abbrev inForce : Settings := (loaded s inputs doors).settings

/-- A zone that its first fire input lights (R102). -/
def lit (z : Fin 8) : Bool := (inForce s inputs doors).zones[z].fireEnabled && inputs.fire[z]

/-- The zones lit, ascending. -/
def litList : List (Fin 8) := (List.finRange 8).filter (lit s inputs doors)

/-- The conditions present at the start, in the order their entries are made (log entry 14). -/
def foundFirst : List CondSource :=
  (if inputs.estop then [CondSource.estop] else []) ++ (litList s inputs doors).map .fire ++
    ((List.finRange 4).filter fun a => (inForce s inputs doors).axes[a].fitted).map .axisSensor

/-- The alarm list of the start (R163). -/
def firstEntries : List AlarmEntry :=
  (foundFirst s inputs doors).map (firstEntry 0) ++
    if s.store.image.crcGood then [] else [⟨MomentarySource.settingsDefaulted.code, .returnedUnacked, 0, 0, 1⟩]

/-- All that the start reports. -/
def firstReports : List (Option Link × ReportBody) :=
  (litList s inputs doors).map litReport ++
    (loaded s inputs doors).joinReports (firstEntries s inputs doors)

/-- The zones once lit. -/
def firstZones : Vector ZoneRecord 8 :=
  Vector.ofFn fun z => ⟨lit s inputs doors z, false, inputs.fire[z],
    if lit s inputs doors z = true then some 0 else none⟩

theorem loaded_zones (z : Fin 8) :
    (loaded s inputs doors).zones[z] = ⟨false, false, inputs.fire[z], none⟩ := Vector.getElem_ofFn _

theorem litZones_loaded : litZones (lit s inputs doors) (fun z => inputs.fire[z]) 0 (List.finRange 8)
    (loaded s inputs doors).zones = firstZones s inputs doors := by
  refine congrArg Vector.ofFn (funext fun z => ?_)
  dsimp only
  rw [loaded_zones]
  cases on : lit s inputs doors z with
  | false => exact if_neg fun h => absurd h.2 nofun
  | true => exact if_pos ⟨List.mem_finRange z, rfl⟩

theorem noneHeld_derivedDoors : NoneHeld (derivedDoors s inputs doors) := fun d => by
  have view := congrArg (fun v => v.1.state.heldOpen) (doorView_derivedDoors s inputs doors d)
  exact view.trans (startView_free s inputs doors d)

/-- The zones of the start: those lit are in ALARM, reported, and have their trim and post handed on. -/
theorem startZones_eq : (derivedDoors s inputs doors).startZones =
    zonesGo (derivedDoors s inputs doors) ((litList s inputs doors).map litReport)
      (firstZones s inputs doors)
      ((litList s inputs doors).flatMap fun z => [.recallTrim z, .evacuatePost z]) := by
  have zones : (derivedDoors s inputs doors).zones = (loaded s inputs doors).zones := by
    rw [derivedDoors_eq]
  have settings : (derivedDoors s inputs doors).settings = inForce s inputs doors := by
    rw [derivedDoors_eq]
  have clock : (derivedDoors s inputs doors).clock = 0 := by
    rw [derivedDoors_eq]
    rfl
  have handed : (derivedDoors s inputs doors).handed = [] := by
    rw [derivedDoors_eq]
    rfl
  obtain ⟨hs, goes⟩ := foldl_evalZone_first (lit := lit s inputs doors) (fire := fun z => inputs.fire[z])
    (List.nodup_finRange 8) (noneHeld_derivedDoors s inputs doors)
    (fun z => by rw [settings]; rfl) (fun z _ => by rw [zones]; exact loaded_zones s inputs doors z)
  rw [clock, zones, litZones_loaded] at goes
  have alarms : (fun z : Fin 8 => (firstZones s inputs doors)[z].alarm) = lit s inputs doors :=
    funext fun z => congrArg ZoneRecord.alarm (Vector.getElem_ofFn _)
  unfold State.startZones
  rw [goes, handed]
  unfold zonesGo
  dsimp only
  rw [alarms]
  rfl

/-- The axes of the start: at rest, AXIS_SENSOR standing where an axis is fitted (R43, R45). -/
def firstAxes : Vector AxisRecord 4 :=
  Vector.ofFn fun a => { AxisRecord.powerOn with sensor := (inForce s inputs doors).axes[a].fitted }

/-- The part before its alarm list is built. -/
def beforeAlarms : State :=
  { zonesGo (derivedDoors s inputs doors) ((litList s inputs doors).map litReport)
      (firstZones s inputs doors)
      ((litList s inputs doors).flatMap fun z => [.recallTrim z, .evacuatePost z]) with
    axes := firstAxes s inputs doors }

theorem beforeAlarms_eq : beforeAlarms s inputs doors =
    { hearing (derivedDoors s inputs doors) (hearAll (derivedDoors s inputs doors).clock
        (heardBy (derivedDoors s inputs doors)) ((litList s inputs doors).map litReport)) with
      zones := firstZones s inputs doors
      handed := (litList s inputs doors).flatMap fun z => [.recallTrim z, .evacuatePost z]
      axes := firstAxes s inputs doors } := by
  unfold beforeAlarms zonesGo
  rw [says_eq]

theorem sensorLost_invalid {t : State} (a : Fin 4)
    (invalid : ∀ k : Fin 12, t.channels[k] = ChannelRecord.powerOn) :
    t.sensorLost a = t.settings.axes[a].fitted := by
  unfold State.sensorLost State.angle State.pressure
  rw [invalid, invalid]
  exact Bool.and_true _

theorem derivedDoors_channels (k : Fin 12) :
    (derivedDoors s inputs doors).channels[k] = ChannelRecord.powerOn := by
  rw [derivedDoors_eq]
  exact Vector.getElem_replicate _

theorem derivedDoors_settings : (derivedDoors s inputs doors).settings = inForce s inputs doors := by
  rw [derivedDoors_eq]

theorem startSensors_eq : (derivedDoors s inputs doors).startZones.startSensors =
    beforeAlarms s inputs doors := by
  have records : (Vector.ofFn fun a : Fin 4 =>
      { (derivedDoors s inputs doors).startZones.axes[a] with
        sensor := (derivedDoors s inputs doors).startZones.sensorLost a }) = firstAxes s inputs doors := by
    refine congrArg Vector.ofFn (funext fun a => ?_)
    have axis : (derivedDoors s inputs doors).startZones.axes[a] = AxisRecord.powerOn := by
      rw [startZones_eq, zonesGo, says_eq, derivedDoors_eq]
      exact Vector.getElem_replicate _
    have sensor : (derivedDoors s inputs doors).startZones.sensorLost a =
        (inForce s inputs doors).axes[a].fitted := by
      rw [startZones_eq, zonesGo, says_eq]
      refine (sensorLost_invalid a (derivedDoors_channels s inputs doors)).trans ?_
      exact congrArg (fun x : Settings => x.axes[a].fitted) (derivedDoors_settings s inputs doors)
    rw [axis, sensor]
  unfold State.startSensors
  rw [records, startZones_eq]
  rfl

/-- The conditions in the order their entries are made (log entry 14). -/
def startOrder : List CondSource :=
  [.estop] ++ (List.finRange 8).map .fire ++ (List.finRange 4).map .axisSensor

theorem foundFirst_eq :
    startOrder.filter (beforeAlarms s inputs doors).condition = foundFirst s inputs doors := by
  have estop : (beforeAlarms s inputs doors).condition .estop = inputs.estop := by
    rw [beforeAlarms_eq, derivedDoors_eq]
    rfl
  have fire : (beforeAlarms s inputs doors).condition ∘ CondSource.fire = lit s inputs doors :=
    funext fun z => by
      rw [beforeAlarms_eq]
      exact congrArg ZoneRecord.alarm (Vector.getElem_ofFn _)
  have sensor : (beforeAlarms s inputs doors).condition ∘ CondSource.axisSensor =
      fun a : Fin 4 => (inForce s inputs doors).axes[a].fitted := funext fun a => by
    rw [beforeAlarms_eq]
    refine (sensorLost_invalid a (derivedDoors_channels s inputs doors)).trans ?_
    exact congrArg (fun x : Settings => x.axes[a].fitted) (derivedDoors_settings s inputs doors)
  unfold startOrder foundFirst
  rw [List.filter_append, List.filter_append, List.filter_map, List.filter_map, fire, sensor,
    List.filter_cons, estop]
  rfl

theorem beforeAlarms_alarms : (beforeAlarms s inputs doors).alarms = AlarmUnit.powerOn := by
  rw [beforeAlarms_eq, derivedDoors_eq]
  rfl

theorem beforeAlarms_settings : (beforeAlarms s inputs doors).settings = inForce s inputs doors := by
  rw [beforeAlarms_eq]
  exact derivedDoors_settings s inputs doors

theorem beforeAlarms_clock : (beforeAlarms s inputs doors).clock = 0 := by
  rw [beforeAlarms_eq, derivedDoors_eq]
  rfl

theorem linesDue_empty {t : State} (empty : t.alarms = AlarmUnit.powerOn) : LinesDue t := by
  constructor
  · rw [empty]
    rfl
  · rw [empty]
    exact (Bool.and_false _).symm

theorem sameAlarms_beforeAlarms : SameAlarms (loaded s inputs doors) (beforeAlarms s inputs doors) := by
  have alarms := beforeAlarms_alarms s inputs doors
  refine ⟨congrArg Settings.routing (beforeAlarms_settings s inputs doors), ?_, ?_, ?_⟩
  · exact congrArg AlarmUnit.list alarms
  · exact congrArg AlarmUnit.alarm alarms
  · exact congrArg AlarmUnit.stop alarms

/-- The conditions found, then SETTINGS_DEFAULTED, have joined the empty alarm list. -/
theorem joined_first : ∃ t, Joined (beforeAlarms s inputs doors) (firstEntries s inputs doors)
      (flagsRaised (Vector.replicate 60 false) (foundFirst s inputs doors)) t ∧
    (beforeAlarms s inputs doors).startAlarms = { t with
      handed := (beforeAlarms s inputs doors).handed ++
        if t.alarms.stop then (List.finRange 4).map fun a => .stopLineChange a true else [] } := by
  have alarms := beforeAlarms_alarms s inputs doors
  have flags : (beforeAlarms s inputs doors).alarms.flags = Vector.replicate 60 false := by
    rw [alarms]
    rfl
  have due := linesDue_empty alarms
  have codes : ((foundFirst s inputs doors).map CondSource.code).Nodup := by
    have all : (startOrder.map CondSource.code).Nodup := by decide
    rw [← foundFirst_eq]
    exact all.sublist (List.filter_sublist.map _)
  have conditions := joined_foldl due codes fun src _ => ⟨by
    rw [flags]
    exact Vector.getElem_replicate _, by
    rw [alarms]
    rfl⟩
  rw [beforeAlarms_clock, flags] at conditions
  have defaulted : (beforeAlarms s inputs doors).store.defaulted = !s.store.image.crcGood := by
    rw [beforeAlarms_eq, derivedDoors_eq]
    rfl
  unfold State.startAlarms firstEntries
  rw [show [CondSource.estop] ++ (List.finRange 8).map .fire ++ (List.finRange 4).map .axisSensor =
    startOrder from rfl]
  dsimp only
  rw [foundFirst_eq, defaulted]
  cases good : s.store.image.crcGood with
  | true =>
    rw [if_pos rfl, List.append_nil]
    exact ⟨_, conditions, rfl⟩
  | false =>
    rw [if_neg (by decide)]
    refine ⟨_, conditions.trans due ?_, rfl⟩
    have absent : findEntry ((foundFirst s inputs doors).foldl (fun s src => s.setFlag src true)
        (beforeAlarms s inputs doors)).alarms.list MomentarySource.settingsDefaulted.code = none := by
      rw [conditions.list, alarms, findEntry_isNone_iff]
      intro listed
      obtain ⟨src, _, same⟩ : ∃ src, src ∈ foundFirst s inputs doors ∧
          src.code = MomentarySource.settingsDefaulted.code := by
        simpa [AlarmUnit.powerOn, firstEntry] using listed
      have apart := momentaryCode_code src
      rw [same] at apart
      exact absurd apart (by decide)
    have last := joined_raiseMomentary (by decide) absent
    rw [conditions.clock, conditions.flags, beforeAlarms_clock] at last
    exact last

/-! ### The part as it begins -/

theorem hearAll_append (now : DeckTime) (h : Heard) (rs qs : List (Option Link × ReportBody)) :
    hearAll now h (rs ++ qs) = hearAll now (hearAll now h rs) qs := List.foldl_append

/-- The part once its alarm list is built, its output lines standing as `lines`. -/
def begun (lines : Vector OutLine 8) : State :=
  { loaded s inputs doors with
    doors := (derivedDoors s inputs doors).doors
    chain := (derivedDoors s inputs doors).chain
    openCounts := (derivedDoors s inputs doors).openCounts
    counters := { Counters.zero with doors := (derivedDoors s inputs doors).counters.doors }
    links := (hearAll 0 (heardBy (loaded s inputs doors)) (firstReports s inputs doors)).1
    zones := firstZones s inputs doors
    axes := firstAxes s inputs doors
    alarms := ⟨firstEntries s inputs doors,
      flagsRaised (Vector.replicate 60 false) (foundFirst s inputs doors),
      alarmDue (inForce s inputs doors).routing (firstEntries s inputs doors),
      stopDue (inForce s inputs doors).routing (firstEntries s inputs doors)
        (alarmDue (inForce s inputs doors).routing (firstEntries s inputs doors)), lines⟩
    handed := ((litList s inputs doors).flatMap fun z => [.recallTrim z, .evacuatePost z]) ++
      if stopDue (inForce s inputs doors).routing (firstEntries s inputs doors)
        (alarmDue (inForce s inputs doors).routing (firstEntries s inputs doors)) = true then
          (List.finRange 4).map fun a => .stopLineChange a true else [] }

theorem length_firstReports : (firstReports s inputs doors).length ≤ 32 := by
  have zones : (litList s inputs doors).length ≤ 8 :=
    (List.length_filter_le _ _).trans_eq List.length_finRange
  have axes : ((List.finRange 4).filter fun a => (inForce s inputs doors).axes[a].fitted).length ≤ 4 :=
    (List.length_filter_le _ _).trans_eq List.length_finRange
  have estop : (if inputs.estop then [CondSource.estop] else []).length ≤ 1 := by
    split <;> simp
  have defaulted : (if s.store.image.crcGood then [] else [(⟨MomentarySource.settingsDefaulted.code,
      .returnedUnacked, 0, 0, 1⟩ : AlarmEntry)]).length ≤ 1 := by
    split <;> simp
  have entries : (firstEntries s inputs doors).length ≤ 14 := by
    unfold firstEntries foundFirst
    rw [List.length_append, List.length_map, List.length_append, List.length_append, List.length_map,
      List.length_map]
    omega
  have joins := length_joinReports (linesDue_empty (t := loaded s inputs doors) rfl)
    (firstEntries s inputs doors)
  unfold firstReports
  rw [List.length_append, List.length_map]
  omega

theorem firstReports_both : ∀ r ∈ firstReports s inputs doors, r.1 = none := by
  intro r listed
  rcases List.mem_append.1 listed with zone | entry
  · obtain ⟨z, _, rfl⟩ := List.mem_map.1 zone
    rfl
  · exact joinReports_both r entry

theorem heardBy_derivedDoors : heardBy (derivedDoors s inputs doors) = heardBy (loaded s inputs doors) := by
  rw [derivedDoors_eq]
  rfl

theorem heard_first : (hearAll 0 (heardBy (loaded s inputs doors)) (firstReports s inputs doors)).2 =
    Counters.zero.links := by
  have empty : QueuesWithin 0 (heardBy (loaded s inputs doors)) := fun l => by
    cases l <;> exact Nat.le_refl 0
  have room := length_firstReports s inputs doors
  exact hearAll_free empty (by omega) (firstReports_both s inputs doors) 0

theorem startAlarms_eq : ∃ lines, (beforeAlarms s inputs doors).startAlarms = begun s inputs doors lines := by
  obtain ⟨_, ⟨lines, hs, rfl⟩, goes⟩ := joined_first s inputs doors
  refine ⟨lines, goes.trans ?_⟩
  have reports := joinReports_congr (sameAlarms_beforeAlarms s inputs doors) (firstEntries s inputs doors)
  have list : (beforeAlarms s inputs doors).alarms.list = [] :=
    congrArg AlarmUnit.list (beforeAlarms_alarms s inputs doors)
  have settings := beforeAlarms_settings s inputs doors
  have alarms : ((beforeAlarms s inputs doors).withAlarms (firstEntries s inputs doors)).alarms.alarm =
      alarmDue (inForce s inputs doors).routing (firstEntries s inputs doors) := by
    rw [← settings]
    rfl
  have stop : ((beforeAlarms s inputs doors).withAlarms (firstEntries s inputs doors)).alarms.stop =
      stopDue (inForce s inputs doors).routing (firstEntries s inputs doors)
        (alarmDue (inForce s inputs doors).routing (firstEntries s inputs doors)) := by
    rw [← settings]
    rfl
  have clock : (derivedDoors s inputs doors).clock = 0 := by
    rw [derivedDoors_eq]
    rfl
  have heard : hearAll (beforeAlarms s inputs doors).clock (heardBy (beforeAlarms s inputs doors))
      ((loaded s inputs doors).joinReports (firstEntries s inputs doors)) =
      hearAll 0 (heardBy (loaded s inputs doors)) (firstReports s inputs doors) := by
    rw [beforeAlarms_clock, beforeAlarms_eq, clock, heardBy_derivedDoors]
    exact (hearAll_append ..).symm
  unfold alarmsGo
  dsimp only
  rw [list, List.nil_append, alarms, stop, reports, says_eq, heard]
  unfold begun hearing
  dsimp only
  rw [heard_first]
  rw [beforeAlarms_eq, derivedDoors_eq]
  rfl

/-- The levels of the output lines as the part begins (R163). -/
def firstLines : Vector OutLine 8 :=
  Vector.ofFn fun k =>
    let x := (inForce s inputs doors).outputs[k]
    ⟨decide (x.source = .fixed) && x.powerOn, (match x.source with
      | .fixed => x.powerOn
      | .input n => inputs.gi[n]
      | .permissive _ => false
      | .axisActive _ => false
      | .zoneAlarm z => lit s inputs doors z
      | .alarmLine => alarmDue (inForce s inputs doors).routing (firstEntries s inputs doors)) != x.invert⟩

theorem startLine_eq (lines : Vector OutLine 8) (k : Fin 8) :
    (begun s inputs doors lines).startLine k = (firstLines s inputs doors)[k] := by
  have zone (z : Fin 8) : (firstZones s inputs doors)[z].alarm = lit s inputs doors z :=
    congrArg ZoneRecord.alarm (Vector.getElem_ofFn _)
  have axis (a : Fin 4) : (firstAxes s inputs doors)[a].state = .idle :=
    congrArg AxisRecord.state (Vector.getElem_ofFn _)
  refine Eq.trans ?_ (Vector.getElem_ofFn k.isLt).symm
  unfold State.startLine State.outputValue
  rw [show (begun s inputs doors lines).settings = inForce s inputs doors from rfl]
  dsimp only
  cases (inForce s inputs doors).outputs[k].source with
  | fixed => rfl
  | input n => rfl
  | permissive p => rfl
  | axisActive a =>
    show OutLine.mk _ ((firstAxes s inputs doors)[a].state.active != _) = _
    rw [axis]
    rfl
  | zoneAlarm z =>
    show OutLine.mk _ ((firstZones s inputs doors)[z].alarm != _) = _
    rw [zone]
  | alarmLine => rfl

/-- The part before its permissive table is evaluated. -/
abbrev lined : State := begun s inputs doors (firstLines s inputs doors)

theorem startLines_eq (lines : Vector OutLine 8) :
    (begun s inputs doors lines).startLines = lined s inputs doors := by
  have levels : Vector.ofFn (begun s inputs doors lines).startLine = firstLines s inputs doors :=
    Vector.ext fun k small => (Vector.getElem_ofFn small).trans (startLine_eq s inputs doors lines ⟨k, small⟩)
  unfold State.startLines
  rw [levels]
  rfl

/-- The slots computed for the first time (R122). -/
def firstSlots : Vector Slot 16 :=
  Vector.ofFn fun p => ⟨resultOf (inForce s inputs doors).permissives[p] (lined s inputs doors).freshValues, 0⟩

/-- The part as it starts. -/
def started : State :=
  { lined s inputs doors with
    evaluator := ⟨(lined s inputs doors).freshValues, firstSlots s inputs doors⟩
    handed := (lined s inputs doors).handed ++
      (List.finRange 16).map (fun p =>
        .outputLineSourceChange (.permissive p) (firstSlots s inputs doors)[p].result) ++
      (if 1 ≤ (inForce s inputs doors).boards then [.boardFrameStart] else []) }

/-- Nothing waits to be sent on a link that has not come up. -/
def Silent (h : Heard) : Prop :=
  ∀ l : Link, (h.1.get l).line = none ∧ (h.1.get l).slot = none ∧ (h.1.get l).state = .down

theorem silent_hearOn {h : Heard} (silent : Silent h) (now : DeckTime) (l : Link) (b : ReportBody) :
    Silent (hearOn now h l b) := fun m => by
  have same : (hearOn now h l b).1.get m = if m = l then (h.1.get l).enqueue ⟨now, b⟩ else h.1.get m := by
    cases l <;> cases m <;> rfl
  rw [same]
  split
  · exact silent l
  · exact silent m

theorem silent_hearAll {h : Heard} (silent : Silent h) (now : DeckTime)
    (rs : List (Option Link × ReportBody)) : Silent (hearAll now h rs) := by
  induction rs generalizing h with
  | nil => exact silent
  | cons r rs ih =>
    refine ih ?_
    unfold hear
    split
    · exact silent_hearOn silent _ _ _
    · exact silent_hearOn (silent_hearOn silent _ _ _) _ _ _

theorem transmit_silent {c : LinkController} (line : c.line = none) (slot : c.slot = none)
    (down : c.state = .down) : c.transmit = c := by
  unfold LinkController.transmit
  rw [line, slot, down]
  dsimp only
  split
  · rfl
  · exact if_neg fun h => absurd h.1 nofun

theorem pump_silent {t : State} (silent : Silent (heardBy t)) : t.pump = t := by
  have one (l : Link) : (t.links.get l).transmit = t.links.get l := by
    obtain ⟨line, slot, down⟩ := silent l
    exact transmit_silent line slot down
  have first := one .bridge
  have second := one .localLink
  unfold State.pump
  rw [show t.links.bridge.transmit = t.links.bridge from first,
    show t.links.localLink.transmit = t.links.localLink from second]

theorem mem_handed_lined : Instr.boardFrameStart ∉ (lined s inputs doors).handed ++
    (List.finRange 16).map fun p =>
      .outputLineSourceChange (.permissive p) (firstSlots s inputs doors)[p].result := by
  intro listed
  unfold lined begun at listed
  dsimp only at listed
  rcases List.mem_append.1 listed with early | slot
  · rcases List.mem_append.1 early with zone | stop
    · simp at zone
    · split at stop
      · simp at stop
      · cases stop
  · simp at slot

theorem start_eq : (s.start inputs doors).pump = started s inputs doors := by
  obtain ⟨lines, alarms⟩ := startAlarms_eq s inputs doors
  have slots : (Vector.ofFn fun p : Fin 16 => (⟨slotResult (lined s inputs doors).settings.permissives[p]
      (lined s inputs doors).freshValues, (lined s inputs doors).clock⟩ : Slot)) =
      firstSlots s inputs doors :=
    congrArg Vector.ofFn (funext fun p => congrArg (Slot.mk · 0) (slotResult_eq _ _))
  have evaluated : (lined s inputs doors).startSlots =
      { lined s inputs doors with
        evaluator := ⟨(lined s inputs doors).freshValues, firstSlots s inputs doors⟩
        handed := (lined s inputs doors).handed ++ (List.finRange 16).map fun p =>
          .outputLineSourceChange (.permissive p) (firstSlots s inputs doors)[p].result } := by
    unfold State.startSlots
    dsimp only
    rw [slots]
    rfl
  have blocks : (s.takeLoad inputs doors).startDoors.startZones.startSensors.startAlarms.startLines =
      lined s inputs doors := by
    have derived : (s.takeLoad inputs doors).startDoors = derivedDoors s inputs doors := by
      unfold derivedDoors
      exact Eq.refl _
    rw [derived, startSensors_eq, alarms, startLines_eq]
  have made : s.start inputs doors = started s inputs doors := by
    unfold State.start State.firstFrame
    dsimp only
    rw [blocks, evaluated]
    dsimp only
    rw [if_congr (Q := 1 ≤ (inForce s inputs doors).boards)
      ⟨fun h => h.2.2.1, fun h => ⟨rfl, rfl, h, mem_handed_lined s inputs doors⟩⟩ rfl rfl]
    rfl
  have silent : Silent (heardBy (loaded s inputs doors)) := fun l => by
    cases l <;> exact ⟨rfl, rfl, rfl⟩
  rw [made]
  exact pump_silent (silent_hearAll silent 0 _)

/-! ### What the start leaves of each door -/

theorem startView_obstructions (d : Fin 32) : (startView s inputs doors d).2.2 =
    ⟨0, 0, if startState (inForce s inputs doors).doors[d].kind doors[d] = .obstructed then 1 else 0⟩ := by
  unfold startView startState
  dsimp only
  split
  · rfl
  split
  · rfl
  split <;> rfl

theorem startView_record (d : Fin 32) : (startView s inputs doors d).1 =
    if (inForce s inputs doors).doors[d].kind = .absent then scanned doors d
    else if startState (inForce s inputs doors).doors[d].kind doors[d] = .obstructed then
      (loaded s inputs doors).obstructedRecord d
        ((loaded s inputs doors).closingRecord d (judgedRecord doors d))
    else if doors[d].closedSwitch then judgedRecord doors d
    else (loaded s inputs doors).closingRecord d (judgedRecord doors d) := by
  unfold startView startState
  dsimp only
  by_cases absent : (inForce s inputs doors).doors[d].kind = .absent
  · rw [if_pos absent, if_pos absent]
  rw [if_neg absent, if_neg absent, if_neg absent]
  by_cases shut : doors[d].closedSwitch = true
  · rw [if_pos shut, if_pos shut, if_pos shut, if_neg (by decide)]
  rw [if_neg shut, if_neg shut, if_neg shut]
  by_cases struck : (inForce s inputs doors).doors[d].kind = .sliding ∧ doors[d].edge = true
  · rw [if_pos struck, if_pos struck, if_pos rfl]
  · rw [if_neg struck, if_neg struck, if_neg (by decide)]

theorem started_counters : (started s inputs doors).counters = { Counters.zero with
    doors := Vector.ofFn fun d : Fin 32 => ⟨0, 0,
      if startState (inForce s inputs doors).doors[d].kind doors[d] = .obstructed then 1 else 0⟩ } := by
  have counts : (derivedDoors s inputs doors).counters.doors = Vector.ofFn fun d : Fin 32 => ⟨0, 0,
      if startState (inForce s inputs doors).doors[d].kind doors[d] = .obstructed then 1 else 0⟩ := by
    refine Vector.ext fun d small => ?_
    have view := congrArg (·.2.2) (doorView_derivedDoors s inputs doors ⟨d, small⟩)
    rw [startView_obstructions] at view
    rw [Vector.getElem_ofFn]
    exact view
  unfold started lined begun
  rw [counts]

theorem started_chain : (started s inputs doors).chain =
    { (loaded s inputs doors).chain with outputs := (derivedDoors s inputs doors).chain.outputs } := by
  unfold started lined begun
  rw [derivedDoors_eq]

theorem started_openCounts : (started s inputs doors).openCounts =
    ⟨Vector.ofFn (started s inputs doors).zoneOpenCount, (started s inputs doors).seaOpenCount⟩ := by
  have counted := counted_derivedDoors s inputs doors
  have settings := congrArg Settings.doors (derivedDoors_settings s inputs doors)
  exact Eq.trans counted (countsNow_congr (s := started s inputs doors) settings rfl)

theorem started_values (n : Fin 64) : (started s inputs doors).evaluator.values[n] =
    match (inForce s inputs doors).terms[n].source with
      | none => false
      | some (.channel _) => false
      | some src => compares (inForce s inputs doors).terms[n].cmp
        ((started s inputs doors).sourceValue src).value (inForce s inputs doors).terms[n].const := by
  have fresh : (started s inputs doors).evaluator.values[n] = (lined s inputs doors).freshValue n := by
    unfold started State.freshValues
    exact Vector.getElem_ofFn _
  have channels (k : Fin 12) : (lined s inputs doors).channels[k] = ChannelRecord.powerOn := by
    unfold lined begun
    exact Vector.getElem_replicate _
  have sources (src : Source) :
      (lined s inputs doors).sourceValue src = (started s inputs doors).sourceValue src := by
    unfold State.sourceValue started lined
    cases src <;> rfl
  rw [fresh]
  unfold State.freshValue
  rw [show (lined s inputs doors).settings = inForce s inputs doors from rfl]
  dsimp only
  cases source : (inForce s inputs doors).terms[n].source with
  | none => rfl
  | some src =>
    dsimp only
    rw [termValue_eq source]
    cases src with
    | channel k =>
      have invalid : ((lined s inputs doors).sourceValue (.channel k)).valid = false :=
        congrArg ChannelRecord.valid (channels k)
      rw [invalid]
      rfl
    | _ =>
      rw [sources]
      exact Bool.true_and _

end

section
variable (s : State) (inputs : InputLevels) (doors : Vector DoorInputs 32)

/-- The part before it starts, the settings and the first scan apart. -/
abbrev unstarted : State := { State.powerOn s.store.image with
  settings := inForce s inputs doors
  doors := Vector.ofFn fun d => scanned doors d }

/-- The links hear the reports of the start as those of a part that has not started would. -/
theorem firstLinks : (started s inputs doors).links =
    ((unstarted s inputs doors).says ((litList s inputs doors).map litReport ++
      (unstarted s inputs doors).joinReports (firstEntries s inputs doors))).links := by
  have reports : (unstarted s inputs doors).joinReports (firstEntries s inputs doors) =
      (loaded s inputs doors).joinReports (firstEntries s inputs doors) :=
    joinReports_congr (s := loaded s inputs doors) (t := unstarted s inputs doors) ⟨rfl, rfl, rfl, rfl⟩ _
  rw [reports, says_eq]
  rfl

end

section
variable (inputs : InputLevels) (doors : Vector DoorInputs 32) {s : State}

theorem exec_settingsLoadEnd (loading : s.power = .loading) :
    exec (.settingsLoadEnd inputs doors) s = .next (started s inputs doors) :=
  Eq.trans (if_pos loading) (congrArg Host.Outcome.next (start_eq s inputs doors))

end

/-- Settles O4: the power events by their definitions; the start block by block, the doors by the row of
their derivations, the zones by the row of their evaluations, and the alarm list as its entries join it. -/
theorem powerEventsAndStartOfThePart : Obligations.PowerEventsAndStartOfThePart := by
  refine ⟨fun s => ⟨rfl, rfl⟩, ?_⟩
  intro inputs doors s loading
  have view (d : Fin 32) := doorView_derivedDoors s inputs doors d
  have record (d : Fin 32) : (started s inputs doors).doors[d] = (startView s inputs doors d).1 :=
    congrArg (·.1) (view d)
  refine ⟨started s inputs doors, exec_settingsLoadEnd inputs doors loading, rfl, rfl, rfl, rfl, rfl, rfl,
    rfl, ?_, ?_, fun d => ⟨?_, ?_, ?_, ?_⟩, started_counters s inputs doors, started_openCounts s inputs doors,
    ?_, ?_, ?_, fun k => Vector.getElem_replicate _, rfl, rfl, rfl, rfl, ?_, rfl, rfl, fun k => ?_,
    started_values s inputs doors, ?_, ?_, ?_⟩
  · rw [started_chain]
    rfl
  · rw [started_chain]
    rfl
  · rw [started_chain]
    exact Vector.getElem_replicate _
  · rw [record]
    exact (congrArg (·.2.1) (view d)).trans (startView_outputs s inputs doors d)
  · rw [record]
    exact startView_state s inputs doors d
  · refine (record d).trans ((startView_record s inputs doors d).trans ?_)
    unfold judgedRecord
    rw [← loaded_doors s inputs]
    rfl
  · exact fun z => Vector.getElem_ofFn _
  · exact fun a => Vector.getElem_ofFn _
  · exact fun a => Vector.getElem_replicate _
  · intro c
    refine (flagsRaised_get _ _ c).trans ?_
    exact (congrArg (· || _) (Vector.getElem_replicate c.isLt)).trans (Bool.false_or _)
  · exact Vector.getElem_ofFn _
  · exact fun p => Vector.getElem_ofFn _
  · exact firstLinks s inputs doors
  · rfl

end Sys2Proof.Proofs
end

section
/-! SUPPORT. The stages of a command reset up to the station controller: the channels and the axes (11,
R180). -/

open Sys2Proof Sys2Proof.Machine

namespace Sys2Proof.Proofs

/-! ### What an act hands on -/

/-- `t` hands on all that `s` does, and after it notices of which `P` holds. -/
def Adds (P : Instr → Prop) (s t : State) : Prop := ∃ ns, t.handed = s.handed ++ ns ∧ ∀ n ∈ ns, P n

section
variable {P Q : Instr → Prop} {s t u : State}

theorem Adds.of_eq (same : t.handed = s.handed) : Adds P s t :=
  ⟨[], by rw [same, List.append_nil], fun _ listed => absurd listed List.not_mem_nil⟩

theorem Adds.refl (s : State) : Adds P s s := .of_eq rfl

theorem Adds.trans (h : Adds P s t) (k : Adds P t u) : Adds P s u := by
  obtain ⟨ns, handed, each⟩ := h
  obtain ⟨ms, handed', each'⟩ := k
  refine ⟨ns ++ ms, by rw [handed', handed, List.append_assoc], fun n listed => ?_⟩
  exact (List.mem_append.1 listed).elim (each n) (each' n)

theorem Adds.mono (sub : ∀ n, P n → Q n) (h : Adds P s t) : Adds Q s t := by
  obtain ⟨ns, handed, each⟩ := h
  exact ⟨ns, handed, fun n listed => sub n (each n listed)⟩

theorem Adds.foldl {α : Type} {f : State → α → State} {xs : List α}
    (acts : ∀ s, ∀ x ∈ xs, Adds P s (f s x))
    (s : State) : Adds P s (xs.foldl f s) :=
  foldl_related .refl .trans acts s

theorem Adds.mem (h : Adds P s t) {n : Instr} (listed : n ∈ s.handed) : n ∈ t.handed := by
  obtain ⟨ns, handed, _⟩ := h
  rw [handed]
  exact List.mem_append_left _ listed

theorem Adds.mem_or (h : Adds P s t) {n : Instr} (listed : n ∈ t.handed) : n ∈ s.handed ∨ P n := by
  obtain ⟨ns, handed, each⟩ := h
  rw [handed] at listed
  exact (List.mem_append.1 listed).imp_right (each n)

end

/-- A notice that begins no scan frame. -/
def NoFrame (n : Instr) : Prop := n ≠ .boardFrameStart

/-- A notice that begins no scan frame and that a reset does not overtake. -/
def Lasting (n : Instr) : Prop := n ≠ .boardFrameStart ∧ overtaken n = false

/-! ### The channels (R8) -/

/-- The channels, their settings and what is handed on as `t` has them, the rest as `s` has it. -/
def withChannelsOf (s t : State) : State := { s with
  settings := { s.settings with channels := t.settings.channels }
  channels := t.channels
  handed := t.handed }

/-- `t` differs from `s` only in the channels and what is handed on. -/
def ChannelsOnly (s t : State) : Prop := t = withChannelsOf s t

theorem ChannelsOnly.trans {s t u : State} (h : ChannelsOnly s t) (k : ChannelsOnly t u) :
    ChannelsOnly s u :=
  calc u = withChannelsOf t u := k
    _ = withChannelsOf (withChannelsOf s t) u := congrArg (withChannelsOf · u) h

theorem channelsOnly_rewriteChannel (s : State) (k : Fin 12) (x : ChannelSettings) :
    ChannelsOnly s (s.rewriteChannel k x) := by
  unfold ChannelsOnly
  rw [rewriteChannel_eq]
  rfl

theorem noFrame_validityNotices (s : State) (k : Fin 12) (valid : Bool) :
    ∀ n ∈ s.validityNotices k valid, NoFrame n := by
  intro n listed
  obtain ⟨a, _, told⟩ := List.mem_flatMap.1 listed
  rcases List.mem_append.1 told with angle | pressure
  · split at angle
    · rw [List.mem_singleton.1 angle]
      exact nofun
    · cases angle
  · split at pressure
    · rw [List.mem_singleton.1 pressure]
      exact nofun
    · cases pressure

theorem noFrame_disablingNotices (s : State) (k : Fin 12) : ∀ n ∈ s.disablingNotices k, NoFrame n := by
  intro n listed
  obtain ⟨a, _, told⟩ := List.mem_flatMap.1 listed
  split at told
  · rw [List.mem_singleton.1 told]
    exact nofun
  · cases told

theorem adds_rewriteChannel (s : State) (k : Fin 12) (x : ChannelSettings) :
    Adds NoFrame s (s.rewriteChannel k x) := by
  refine ⟨_, congrArg State.handed (rewriteChannel_eq s k x), fun n listed => ?_⟩
  rcases List.mem_append.1 listed with first | off
  · rcases List.mem_append.1 first with valid | value
    · split at valid
      · cases valid
      · exact noFrame_validityNotices s k _ n valid
    · split at value
      · cases value
      · rw [List.mem_singleton.1 value]
        exact nofun
  · split at off
    · exact noFrame_disablingNotices s k n off
    · cases off

section
variable (s : State) (x : Settings)

theorem channelsOnly_resetChannels : ChannelsOnly s (s.resetChannels x) :=
  foldl_related (R := ChannelsOnly) (fun _ => rfl) .trans
    (fun s k _ => channelsOnly_rewriteChannel s k x.channels[k]) s

theorem adds_resetChannels : Adds NoFrame s (s.resetChannels x) :=
  Adds.foldl (fun s k _ => adds_rewriteChannel s k x.channels[k]) s

/-- Each channel once its reloaded settings are applied. -/
theorem resetChannels_get (k : Fin 12) :
    (s.resetChannels x).channels[k] =
        s.channels[k].afterWrite s.settings.channels[k] x.channels[k] s.clock ∧
      (s.resetChannels x).settings.channels[k] = x.channels[k] := by
  have self (u : State) : (u.rewriteChannel k x.channels[k]).channels[k] =
        u.channels[k].afterWrite u.settings.channels[k] x.channels[k] u.clock ∧
      (u.rewriteChannel k x.channels[k]).settings.channels[k] = x.channels[k] := by
    rw [rewriteChannel_eq]
    exact ⟨set_get_self _ _ _, set_get_self _ _ _⟩
  have other (u : State) (j : Fin 12) (ne : j ≠ k) :
      (u.rewriteChannel j x.channels[j]).channels[k] = u.channels[k] ∧
        (u.rewriteChannel j x.channels[j]).settings.channels[k] = u.settings.channels[k] ∧
        (u.rewriteChannel j x.channels[j]).clock = u.clock := by
    rw [rewriteChannel_eq]
    exact ⟨set_others _ _ _ _ ne.symm, set_others _ _ _ _ ne.symm, rfl⟩
  refine foldl_once (s := s) (before := fun u => u.channels[k] = s.channels[k] ∧
      u.settings.channels[k] = s.settings.channels[k] ∧ u.clock = s.clock)
    (after := fun u => u.channels[k] =
        s.channels[k].afterWrite s.settings.channels[k] x.channels[k] s.clock ∧
      u.settings.channels[k] = x.channels[k])
    (List.nodup_finRange 12) (List.mem_finRange k) ?_ ?_ ?_ ⟨rfl, rfl, rfl⟩
  · intro u j ne h
    obtain ⟨record, settings, clock⟩ := other u j ne
    exact ⟨record.trans h.1, settings.trans h.2.1, clock.trans h.2.2⟩
  · intro u h
    obtain ⟨record, settings⟩ := self u
    rw [h.1, h.2.1, h.2.2] at record
    exact ⟨record, settings⟩
  · intro u j ne h
    obtain ⟨record, settings, _⟩ := other u j ne
    exact ⟨record.trans h.1, settings.trans h.2⟩

theorem resetChannels_settings :
    (s.resetChannels x).settings = { s.settings with channels := x.channels } := by
  have channels : (s.resetChannels x).settings.channels = x.channels :=
    Vector.ext fun k small => (resetChannels_get s x ⟨k, small⟩).2
  have only := channelsOnly_resetChannels s x
  generalize s.resetChannels x = t at channels only
  rw [← channels]
  exact congrArg State.settings only

end

/-! ### The axes (R46) -/

/-- The record an axis comes to rest from at a reset. -/
def resetRecord (x : AxisRecord) : AxisRecord :=
  { x with staged := 0, settle := 0, tripKind := none, update := none, check := none }

theorem resting_reset (s : State) (a : Fin 4) :
    ((s.setC a 0).endMotion a .reset).modAxis a AxisRecord.reset =
      s.withAxisAtRest a (resetRecord s.axes[a]) .idle .reset := by
  have record : (s.setC a 0).axes[a] = { s.axes[a] with c := 0, confirm := none } := upd_get_self _ _ _
  have run : (resetRecord s.axes[a]).running? = s.axes[a].running? := rfl
  have run' : ((s.setC a 0).axes[a]).running? = s.axes[a].running? := by
    rw [record]
    rfl
  unfold State.endMotion
  rw [run']
  cases runs : s.axes[a].running? with
  | none =>
    rw [withAxisAtRest_of_still (x := resetRecord s.axes[a]) .idle .reset rfl (run.trans runs)]
    have fused := modAxis_modAxis s a (fun x => { x with c := 0, confirm := none }) AxisRecord.reset
    exact congrArg (zeroed · a) fused
  | some m =>
    rw [withAxisAtRest_of_running (x := resetRecord s.axes[a]) .idle .reset rfl rfl (run.trans runs)]
    have first := modAxis_modAxis s a (fun x => { x with c := 0, confirm := none })
      (fun x => { x with motion := some (m.completed s.clock .reset) })
    have fused := modAxis_modAxis s a
      (fun x => { x with c := 0, confirm := none, motion := some (m.completed s.clock .reset) })
      AxisRecord.reset
    exact (congrArg (fun t : State => zeroed ((t.modAxis a AxisRecord.reset).countAxis a (·.ended .reset)) a)
      first).trans (congrArg (fun t : State => zeroed (t.countAxis a (·.ended .reset)) a) fused)

/-- What an axis that a reset brings to rest hands on. -/
def restTold (s : State) (a : Fin 4) : List Instr :=
  if s.axes[a].state = .idle then []
  else [.sourceChange (.axisState a) ⟨AxisState.idle.code, true⟩,
    .outputLineSourceChange (.axisActive a) false]

/-- What the evaluation of AXIS_SENSOR hands on. -/
def sensorTold (s : State) (a : Fin 4) : List Instr :=
  if s.sensorLost a = s.axes[a].sensor then []
  else [.alarmSourceChange (.axisSensor a) (s.sensorLost a)]

theorem resetAxis_eq (s : State) (a : Fin 4) : s.resetAxis a =
    { s.withAxisAtRest a { resetRecord s.axes[a] with sensor := s.sensorLost a } .idle .reset with
      handed := s.handed ++ restTold s a ++ sensorTold s a } := by
  have rested := withAxisAtRest_sensed s a (resetRecord s.axes[a]) .idle .reset (s.sensorLost a)
  have record : (s.withAxisAtRest a (resetRecord s.axes[a]) .idle .reset).axes[a] =
      (resetRecord s.axes[a]).atRest .idle s.clock .reset := set_get_self _ _ _
  unfold State.resetAxis
  dsimp only
  rw [resting_reset, evalSensor_eq]
  generalize resting : (if s.axes[a].state = .idle then s.withAxisAtRest a (resetRecord s.axes[a]) .idle .reset
    else (s.withAxisAtRest a (resetRecord s.axes[a]) .idle .reset).hand
      [.sourceChange (.axisState a) ⟨AxisState.idle.code, true⟩,
        .outputLineSourceChange (.axisActive a) false]) = t
  have told : t = { s.withAxisAtRest a (resetRecord s.axes[a]) .idle .reset with
      handed := s.handed ++ restTold s a } := by
    rw [← resting]
    unfold restTold
    split
    · rw [List.append_nil]
      rfl
    · rfl
  have lost : t.sensorLost a = s.sensorLost a := by
    rw [told]
    exact sensorLost_congr (s := s) rfl rfl a
  have was : t.axes[a].sensor = s.axes[a].sensor := by
    rw [told]
    exact (congrArg AxisRecord.sensor record).trans (by rfl)
  rw [lost, was, told]
  exact congrArg (fun r : State => { r with handed := s.handed ++ restTold s a ++ sensorTold s a }) rested

/-- The axes and what their reset alters as `t` has them, the rest as `s` has it. -/
def withAxesOf (s t : State) : State := { s with
  axes := t.axes
  valves := t.valves
  counters := { s.counters with axes := t.counters.axes }
  handed := t.handed }

/-- `t` differs from `s` only in the axes, their generators and counters and what is handed on. -/
def AxesOnly (s t : State) : Prop := t = withAxesOf s t

theorem AxesOnly.trans {s t u : State} (h : AxesOnly s t) (k : AxesOnly t u) : AxesOnly s u :=
  calc u = withAxesOf t u := k
    _ = withAxesOf (withAxesOf s t) u := congrArg (withAxesOf · u) h

theorem axesOnly_resetAxis (s : State) (a : Fin 4) : AxesOnly s (s.resetAxis a) := by
  unfold AxesOnly
  rw [resetAxis_eq]
  unfold State.withAxisAtRest
  dsimp only
  split <;> rfl

theorem adds_resetAxis (s : State) (a : Fin 4) : Adds NoFrame s (s.resetAxis a) := by
  refine ⟨restTold s a ++ sensorTold s a, ?_, fun n listed => ?_⟩
  · rw [resetAxis_eq]
    exact List.append_assoc ..
  rcases List.mem_append.1 listed with state | sensor
  · unfold restTold at state
    split at state
    · cases state
    · rcases List.mem_pair.1 state with rfl | rfl
      · exact nofun
      · exact nofun
  · unfold sensorTold at sensor
    split at sensor
    · cases sensor
    · rw [List.mem_singleton.1 sensor]
      exact nofun

/-- What a reset alters of one axis. -/
def axisView (s : State) (a : Fin 4) : AxisRecord × Generator × AxisCounters :=
  (s.axes[a], s.valves[a], s.counters.axes[a])

/-- What a reset makes of one axis. -/
def restView (s : State) (a : Fin 4) : AxisRecord × Generator × AxisCounters :=
  ({ resetRecord s.axes[a] with sensor := s.sensorLost a }.atRest .idle s.clock .reset,
    { s.valves[a] with command := 0 },
    if s.axes[a].running then s.counters.axes[a].ended .reset else s.counters.axes[a])

theorem axisView_resetAxis (s : State) (a : Fin 4) : axisView (s.resetAxis a) a = restView s a := by
  have runs : ({ resetRecord s.axes[a] with sensor := s.sensorLost a } : AxisRecord).running =
      s.axes[a].running := rfl
  rw [axisView, restView, resetAxis_eq]
  unfold State.withAxisAtRest
  dsimp only
  rw [set_get_self, set_get_self, runs]
  by_cases moves : s.axes[a].running = true
  · rw [if_pos moves, if_pos moves]
    exact congrArg (fun k => (_, _, k)) (set_get_self _ _ _)
  · rw [if_neg moves, if_neg moves]

theorem axisView_resetAxis_other {s : State} {a b : Fin 4} (other : a ≠ b) :
    axisView (s.resetAxis b) a = axisView s a := by
  rw [axisView, resetAxis_eq]
  unfold State.withAxisAtRest
  dsimp only
  rw [set_others _ _ _ _ other, set_others _ _ _ _ other]
  split
  · exact congrArg (fun k => (_, _, k)) (set_others _ _ _ _ other)
  · rfl

/-- The row of the axes' resets. -/
@[irreducible] def resetAxes (s : State) : State := (List.finRange 4).foldl State.resetAxis s

theorem axesOnly_resetAxes (s : State) : AxesOnly s (resetAxes s) := by
  unfold resetAxes
  exact foldl_related (R := AxesOnly) (fun _ => rfl) .trans (fun s a _ => axesOnly_resetAxis s a) s

theorem adds_resetAxes (s : State) : Adds NoFrame s (resetAxes s) := by
  unfold resetAxes
  exact Adds.foldl (fun s a _ => adds_resetAxis s a) s

/-- Each axis once the axes are reset; one that moved has told of its rest. -/
theorem resetAxes_get (s : State) (a : Fin 4) :
    axisView (resetAxes s) a = restView s a ∧ ∀ n ∈ restTold s a, n ∈ (resetAxes s).handed := by
  unfold resetAxes
  refine foldl_once (s := s)
    (before := fun u => axisView u a = axisView s a ∧ AxesOnly s u)
    (after := fun u => axisView u a = restView s a ∧ ∀ n ∈ restTold s a, n ∈ u.handed)
    (List.nodup_finRange 4) (List.mem_finRange a) ?_ ?_ ?_ ⟨rfl, rfl⟩
  · intro u b ne h
    exact ⟨(axisView_resetAxis_other ne.symm).trans h.1, h.2.trans (axesOnly_resetAxis u b)⟩
  · intro u h
    obtain ⟨same, only⟩ := h
    rw [axisView, axisView, Prod.mk.injEq, Prod.mk.injEq] at same
    obtain ⟨record, valve, counters⟩ := same
    have lost : u.sensorLost a = s.sensorLost a :=
      sensorLost_congr (congrArg State.settings only) (congrArg State.channels only) a
    have clock : u.clock = s.clock := (congrArg State.clock only).trans (by rfl)
    constructor
    · rw [axisView_resetAxis]
      unfold restView
      rw [record, valve, counters, lost, clock]
    · intro n listed
      have told : restTold u a = restTold s a := by
        unfold restTold
        rw [record]
      rw [congrArg State.handed (resetAxis_eq u a)]
      exact List.mem_append_left _ (List.mem_append_right _ (told ▸ listed))
  · intro u b ne h
    exact ⟨(axisView_resetAxis_other ne.symm).trans h.1, fun n listed => (adds_resetAxis u b).mem (h.2 n listed)⟩

end Sys2Proof.Proofs
end

section
/-! SUPPORT. The door controller at a command reset (11, R180; 05, R109). -/

open Sys2Proof Sys2Proof.Machine

namespace Sys2Proof.Proofs

/-! ### A door whose kind changes (R85, R109) -/

/-- `s` after door `d`, whose kind was `was`, has acted on the kind it now has. -/
def rekinded (s : State) (d : Fin 32) (was : DoorKind) : State :=
  let x := s.doors[d]
  let now := s.chain.levels[d]
  let kind := s.settings.doors[d].kind
  let idle : DoorRecord := { x with travel := none, pause := none, conflict := none, cause := none }
  let derived : DoorRecord := { idle with
    seen := now
    conflict := if now.openSwitch = true ∧ now.closedSwitch = true then some 1000 else none }
  if kind = was ∨ (kind ≠ .absent ∧ was ≠ .absent ∧ (x.state = .closed ∨ x.state = .isolated)) then s
  else if kind = .absent then s.doorGoes d { idle with state := .closed } .settings
  else if now.closedSwitch = true then s.doorGoes d { derived with state := .closed } .settings
  else s.doorCloses d derived .settings now.edge

theorem rekindDoor_eq (s : State) (d : Fin 32) (was : DoorKind) : s.rekindDoor d was = rekinded s d was := by
  unfold State.rekindDoor rekinded
  dsimp only
  by_cases same : s.settings.doors[d].kind = was
  · rw [if_pos same, if_pos (.inl same)]
  rw [if_neg same]
  by_cases absent : s.settings.doors[d].kind = .absent
  · rw [if_pos absent, if_neg fun h => h.elim same fun stays => stays.1 absent, if_pos absent]
    exact enterDoor_modDoor rfl .closed .settings
  rw [if_neg absent]
  by_cases rests : was ≠ .absent ∧ (s.doors[d].state = .closed ∨ s.doors[d].state = .isolated)
  · rw [if_pos rests, if_pos (.inr ⟨absent, rests⟩)]
  · rw [if_neg rests, if_neg fun h => h.elim same fun stays => rests stays.2, if_neg absent, deriveDoor_eq,
      if_congr (conflict_iff (i := s.chain.levels[d])) rfl rfl]
    rfl

theorem doorsOnly_rekinded (s : State) (d : Fin 32) (was : DoorKind) : DoorsOnly s (rekinded s d was) := by
  unfold rekinded
  dsimp only
  split
  · rfl
  split
  · exact doorsOnly_doorGoes _ _ _ _
  split
  · exact doorsOnly_doorGoes _ _ _ _
  · exact doorsOnly_doorCloses _ _ _ _ _

theorem doorView_rekinded_other {s : State} {d e : Fin 32} (other : d ≠ e) (was : DoorKind) :
    doorView (rekinded s e was) d = doorView s d := by
  unfold rekinded
  dsimp only
  split
  · rfl
  split
  · exact doorView_doorGoes_other other _ _ _
  split
  · exact doorView_doorGoes_other other _ _ _
  · exact doorView_doorCloses_other other _ _ _ _

theorem doorView_rekinded_congr {s t : State} {d : Fin 32} (base : DoorBase s t)
    (same : doorView t d = doorView s d) (levels : t.chain.levels = s.chain.levels) (was : DoorKind) :
    doorView (rekinded t d was) d = doorView (rekinded s d was) d := by
  unfold rekinded
  dsimp only
  rw [base.settings, levels, (doorView_iff.1 same).1]
  split
  · exact same
  split
  · exact doorView_doorGoes_congr base same _ _
  split
  · exact doorView_doorGoes_congr base same _ _
  · exact doorView_doorCloses_congr base same _ _ _

/-! ### What the doors hand on -/

theorem noFrame_countNotices (old new : OpenCounts) : ∀ n ∈ countNotices old new, NoFrame n := by
  intro n listed
  rcases List.mem_append.1 listed with zone | sea
  · obtain ⟨z, _, told⟩ := List.mem_flatMap.1 zone
    split at told
    · cases told
    · rw [List.mem_singleton.1 told]
      exact nofun
  · split at sea
    · cases sea
    · rw [List.mem_singleton.1 sea]
      exact nofun

theorem noFrame_doorNotices (s : State) (d : Fin 32) (y : DoorRecord) :
    ∀ n ∈ s.doorNotices d y, NoFrame n := by
  intro n listed
  rcases List.mem_append.1 listed with first | fault
  · rcases List.mem_append.1 first with state | counts
    · split at state
      · cases state
      · rw [List.mem_singleton.1 state]
        exact nofun
    · exact noFrame_countNotices _ _ n counts
  · unfold faultNotices at fault
    split at fault
    · rw [List.mem_singleton.1 fault]
      exact nofun
    split at fault
    · rw [List.mem_singleton.1 fault]
      exact nofun
    · cases fault

theorem adds_doorGoes (s : State) (d : Fin 32) (y : DoorRecord) (cause : DoorCause) :
    Adds NoFrame s (s.doorGoes d y cause) := ⟨_, rfl, noFrame_doorNotices s d y⟩

theorem adds_countDoor (s : State) (d : Fin 32) (k : DoorCounters → DoorCounters) :
    Adds NoFrame s (s.countDoor d k) := .of_eq rfl

theorem adds_doorCloses (s : State) (d : Fin 32) (y : DoorRecord) (cause : DoorCause) (edge : Bool) :
    Adds NoFrame s (s.doorCloses d y cause edge) := by
  unfold State.doorCloses
  dsimp only
  split
  · exact ((adds_doorGoes s d _ cause).trans (adds_countDoor _ d _)).trans (adds_doorGoes _ d _ _)
  · exact adds_doorGoes s d _ cause

theorem adds_doorReleased (s : State) (d : Fin 32) (cause : DoorCause) :
    Adds NoFrame s (s.doorReleased d cause) := by
  unfold State.doorReleased
  dsimp only
  split
  · exact .refl s
  split
  · exact (adds_countDoor s d _).trans (adds_doorGoes _ d _ _)
  · exact (adds_countDoor s d _).trans (adds_doorCloses _ d _ _ _)

theorem adds_rekinded (s : State) (d : Fin 32) (was : DoorKind) : Adds NoFrame s (rekinded s d was) := by
  unfold rekinded
  dsimp only
  split
  · exact .refl s
  split
  · exact adds_doorGoes _ _ _ _
  split
  · exact adds_doorGoes _ _ _ _
  · exact adds_doorCloses _ _ _ _ _

/-! ### The doors whose kind changes -/

/-- The row of the doors that act on their kind, the counts then taken afresh. -/
@[irreducible] def rekindDoors (s : State) (old : Settings) : State :=
  ((List.finRange 32).foldl (fun s d => s.rekindDoor d old.doors[d].kind) s).recount

section
variable (s : State) (old : Settings)

theorem doorsOnly_rekindDoors : DoorsOnly s (rekindDoors s old) := by
  unfold rekindDoors
  have row := doorsOnly_foldl (ds := List.finRange 32) (f := fun s d => s.rekindDoor d old.doors[d].kind)
    (fun s d => rekindDoor_eq s d _ ▸ doorsOnly_rekinded s d _) s
  generalize (List.finRange 32).foldl (fun s d => s.rekindDoor d old.doors[d].kind) s = t at row ⊢
  exact row.trans (show DoorsOnly t t.recount from rfl)

theorem counted_rekindDoors : Counted (rekindDoors s old) := by
  unfold rekindDoors
  generalize (List.finRange 32).foldl (fun s d => s.rekindDoor d old.doors[d].kind) s = t
  rfl

theorem adds_rekindDoors : Adds NoFrame s (rekindDoors s old) := by
  unfold rekindDoors
  have row : Adds NoFrame s ((List.finRange 32).foldl (fun s d => s.rekindDoor d old.doors[d].kind) s) :=
    Adds.foldl (fun s d _ => rekindDoor_eq s d _ ▸ adds_rekinded s d _) s
  generalize (List.finRange 32).foldl (fun s d => s.rekindDoor d old.doors[d].kind) s = t at row ⊢
  exact row.trans ⟨_, rfl, noFrame_countNotices _ _⟩

theorem doorView_rekindDoors (d : Fin 32) :
    doorView (rekindDoors s old) d = doorView (rekinded s d old.doors[d].kind) d := by
  unfold rekindDoors
  have row : doorView ((List.finRange 32).foldl (fun s d => s.rekindDoor d old.doors[d].kind) s) d =
      doorView (rekinded s d old.doors[d].kind) d := by
    refine doorView_foldl (fun s _ _ other => ?_) (fun s d => ?_) (List.nodup_finRange 32)
      (List.mem_finRange d) fun u same only => ?_
    · rw [rekindDoor_eq]
      exact doorView_rekinded_other other _
    · rw [rekindDoor_eq]
      exact doorsOnly_rekinded s d _
    · rw [rekindDoor_eq]
      exact doorView_rekinded_congr only.base same (congrArg (·.chain.levels) only) _
  generalize (List.finRange 32).foldl (fun s d => s.rekindDoor d old.doors[d].kind) s = t at row ⊢
  exact row

end

/-! ### The zones as reloaded (R109) -/

/-- The zones and all that the doors' changes alter as `t` has them, the rest as `s` has it. -/
def withZonesOf (s t : State) : State := { withDoorsOf s t with zones := t.zones }

/-- `t` differs from `s` only in the zones and what the doors' changes alter. -/
def ZonesOnly (s t : State) : Prop := t = withZonesOf s t

theorem ZonesOnly.trans {s t u : State} (h : ZonesOnly s t) (k : ZonesOnly t u) : ZonesOnly s u :=
  calc u = withZonesOf t u := k
    _ = withZonesOf (withZonesOf s t) u := congrArg (withZonesOf · u) h

theorem DoorsOnly.zonesOnly {s t : State} (h : DoorsOnly s t) : ZonesOnly s t := by
  have zones : t.zones = s.zones := (congrArg State.zones h).trans (by rfl)
  unfold ZonesOnly withZonesOf
  rw [zones]
  exact h

theorem ZonesOnly.base {s t : State} (h : ZonesOnly s t) : DoorBase s t :=
  ⟨congrArg (·.settings) h, congrArg (·.clock) h, congrArg (·.uptime) h⟩

/-- The record of a zone judged as it stands. -/
def judgedZone (s : State) (z : Fin 8) : ZoneRecord :=
  let y := s.zones[z]
  let holds := (s.settings.zones[z].fireEnabled && y.fire) || y.manual
  { y with alarm := holds, since := if holds = true ∧ y.alarm = false then some s.clock else y.since }

/-- Whether the evaluation of zone `z` brings it into ALARM. -/
abbrev wakes (s : State) (z : Fin 8) : Prop := s.zones[z].alarm = false ∧ (judgedZone s z).alarm = true

/-- The part after zone `z` has its judged record and before its doors act, and has been reported. -/
theorem evalZone_cases (s : State) (z : Fin 8) (cause : ZoneCause) :
    (¬wakes s z ∧ ∃ rs ns, s.evalZone z cause =
      { ({ s with zones := s.zones.set z (judgedZone s z) } : State).says rs with handed := s.handed ++ ns } ∧
        ∀ n ∈ ns, NoFrame n) ∨
    (wakes s z ∧ ∃ rs ns, s.evalZone z cause =
      (let v := ((List.finRange 32).filter (s.doorOfZone z)).foldl
        (fun t d => t.doorReleased d .zoneAlarm)
        (({ s with zones := s.zones.set z (judgedZone s z) } : State).says rs)
      { v with handed := v.handed ++ ns }) ∧ ∀ n ∈ ns, NoFrame n) := by
  have told (n : Instr) (listed : n ∈ [.recallTrim z, .evacuatePost z, .alarmSourceChange (.fire z) true,
      .outputLineSourceChange (.zoneAlarm z) true, .sourceChange (.zoneAlarm z) ⟨1, true⟩]) : NoFrame n := by
    rintro rfl
    simp at listed
  have untold (n : Instr) (listed : n ∈ [.alarmSourceChange (.fire z) false,
      .outputLineSourceChange (.zoneAlarm z) false, .sourceChange (.zoneAlarm z) ⟨0, true⟩]) : NoFrame n := by
    rintro rfl
    simp at listed
  rw [evalZone_eq]
  unfold State.zoneJudged
  dsimp only
  by_cases same : (s.settings.zones[z].fireEnabled && s.zones[z].fire || s.zones[z].manual) = s.zones[z].alarm
  · refine .inl ⟨fun h => ?_, [], [], ?_, fun n listed => absurd listed List.not_mem_nil⟩
    · exact absurd (h.1.symm.trans (same.symm.trans h.2)) nofun
    · rw [if_pos same, List.append_nil]
      rfl
  rw [if_neg same]
  by_cases holds : (s.settings.zones[z].fireEnabled && s.zones[z].fire || s.zones[z].manual) = true
  · rw [if_pos holds]
    refine .inr ⟨⟨?_, holds⟩, _, _, rfl, told⟩
    rw [holds] at same
    exact Bool.eq_false_iff.2 (Ne.symm same)
  · rw [if_neg holds]
    exact .inl ⟨fun h => holds h.2, _, _, rfl, untold⟩

section
variable {s : State} {z : Fin 8} (cause : ZoneCause)

theorem zonesOnly_evalZone : ZonesOnly s (s.evalZone z cause) := by
  obtain ⟨_, rs, ns, made, _⟩ | ⟨_, rs, ns, made, _⟩ := evalZone_cases s z cause
  · unfold ZonesOnly
    rw [made, says_eq]
    rfl
  · have row := doorsOnly_foldl (ds := (List.finRange 32).filter (s.doorOfZone z))
      (fun s d => doorsOnly_doorReleased s d .zoneAlarm)
      (({ s with zones := s.zones.set z (judgedZone s z) } : State).says rs)
    rw [made]
    generalize ((List.finRange 32).filter (s.doorOfZone z)).foldl (fun t d => t.doorReleased d .zoneAlarm)
      (({ s with zones := s.zones.set z (judgedZone s z) } : State).says rs) = v at row
    have first : ZonesOnly s (({ s with zones := s.zones.set z (judgedZone s z) } : State).says rs) := by
      unfold ZonesOnly
      rw [says_eq]
      rfl
    exact (first.trans row.zonesOnly).trans (by rfl)

theorem adds_evalZone : Adds NoFrame s (s.evalZone z cause) := by
  obtain ⟨_, rs, ns, made, each⟩ | ⟨_, rs, ns, made, each⟩ := evalZone_cases s z cause
  · exact ⟨ns, congrArg State.handed made, each⟩
  · have row : Adds NoFrame (({ s with zones := s.zones.set z (judgedZone s z) } : State).says rs)
        (((List.finRange 32).filter (s.doorOfZone z)).foldl (fun t d => t.doorReleased d .zoneAlarm)
          (({ s with zones := s.zones.set z (judgedZone s z) } : State).says rs)) :=
      Adds.foldl (fun s d _ => adds_doorReleased s d .zoneAlarm) _
    have first : Adds NoFrame s (({ s with zones := s.zones.set z (judgedZone s z) } : State).says rs) :=
      .of_eq (says_handed _ _)
    rw [made]
    generalize ((List.finRange 32).filter (s.doorOfZone z)).foldl (fun t d => t.doorReleased d .zoneAlarm)
      (({ s with zones := s.zones.set z (judgedZone s z) } : State).says rs) = v at row
    exact (first.trans row).trans ⟨ns, rfl, each⟩

theorem counted_evalZone (counted : Counted s) : Counted (s.evalZone z cause) := by
  have counts (rs : List (Option Link × ReportBody)) :
      Counted (({ s with zones := s.zones.set z (judgedZone s z) } : State).says rs) := by
    rw [says_eq]
    exact counted
  obtain ⟨_, rs, ns, made, _⟩ | ⟨_, rs, ns, made, _⟩ := evalZone_cases s z cause
  · rw [made]
    exact counts rs
  · have row : Counted (((List.finRange 32).filter (s.doorOfZone z)).foldl
        (fun t d => t.doorReleased d .zoneAlarm)
        (({ s with zones := s.zones.set z (judgedZone s z) } : State).says rs)) :=
      counted_foldl (fun t d k => counted_doorReleased k d .zoneAlarm) _ (counts rs)
    rw [made]
    exact row

theorem evalZone_zones : (s.evalZone z cause).zones = s.zones.set z (judgedZone s z) := by
  obtain ⟨_, rs, ns, made, _⟩ | ⟨_, rs, ns, made, _⟩ := evalZone_cases s z cause
  · rw [made, says_eq]
    rfl
  · have row := doorsOnly_foldl (ds := (List.finRange 32).filter (s.doorOfZone z))
      (fun s d => doorsOnly_doorReleased s d .zoneAlarm)
      (({ s with zones := s.zones.set z (judgedZone s z) } : State).says rs)
    rw [made]
    exact (congrArg State.zones row).trans (says_zones _ _)

/-- A door of a zone that enters ALARM is released, and any other stays. -/
theorem doorView_evalZone (d : Fin 32) : doorView (s.evalZone z cause) d =
    if wakes s z ∧ s.doorOfZone z d = true then doorView (s.doorReleased d .zoneAlarm) d
    else doorView s d := by
  have reported (rs : List (Option Link × ReportBody)) :
      doorView (({ s with zones := s.zones.set z (judgedZone s z) } : State).says rs) d = doorView s d := by
    rw [says_eq]
    rfl
  have base (rs : List (Option Link × ReportBody)) :
      DoorBase s (({ s with zones := s.zones.set z (judgedZone s z) } : State).says rs) := by
    rw [says_eq]
    exact ⟨rfl, rfl, rfl⟩
  have others (s : State) {d e : Fin 32} (other : d ≠ e) :
      doorView (s.doorReleased e .zoneAlarm) d = doorView s d := doorView_doorReleased_other other s _
  obtain ⟨stays, rs, ns, made, _⟩ | ⟨goes, rs, ns, made, _⟩ := evalZone_cases s z cause
  · rw [made, if_neg fun h => stays h.1]
    exact reported rs
  rw [made]
  by_cases member : s.doorOfZone z d = true
  · rw [if_pos ⟨goes, member⟩]
    have listed : d ∈ (List.finRange 32).filter (s.doorOfZone z) :=
      List.mem_filter.2 ⟨List.mem_finRange d, member⟩
    exact doorView_foldl others (fun s d => doorsOnly_doorReleased s d _) (nodup_filter_finRange _) listed
      fun u same only => (doorView_doorReleased_congr only.base same _).trans
        (doorView_doorReleased_congr (base rs) (reported rs) _)
  · rw [if_neg fun h => member h.2]
    have apart : d ∉ (List.finRange 32).filter (s.doorOfZone z) := fun h => member (List.mem_filter.1 h).2
    exact (doorView_foldl_other others apart _).trans (reported rs)

end

/-- The row of the zones, each evaluated. -/
@[irreducible] def evalZones (s : State) : State :=
  (List.finRange 8).foldl (fun s z => s.evalZone z .fireInput) s

section
variable (s : State)

theorem zonesOnly_evalZones : ZonesOnly s (evalZones s) := by
  unfold evalZones
  exact foldl_related (R := ZonesOnly) (fun _ => rfl) .trans (fun _ _ _ => zonesOnly_evalZone .fireInput) s

theorem adds_evalZones : Adds NoFrame s (evalZones s) := by
  unfold evalZones
  exact Adds.foldl (fun _ _ _ => adds_evalZone .fireInput) s

theorem counted_evalZones (counted : Counted s) : Counted (evalZones s) := by
  unfold evalZones
  exact counted_foldl (fun _ _ => counted_evalZone .fireInput) _ counted

theorem judgedZone_congr {t : State} {z : Fin 8} (same : t.zones[z] = s.zones[z])
    (settings : t.settings = s.settings) (clock : t.clock = s.clock) : judgedZone t z = judgedZone s z := by
  unfold judgedZone
  rw [same, settings, clock]

/-- Each zone once every zone is evaluated. -/
theorem evalZones_zones (z : Fin 8) : (evalZones s).zones[z] = judgedZone s z := by
  unfold evalZones
  refine foldl_once (s := s) (before := fun u => u.zones[z] = s.zones[z] ∧ ZonesOnly s u)
    (after := fun u => u.zones[z] = judgedZone s z)
    (List.nodup_finRange 8) (List.mem_finRange z) ?_ ?_ ?_ ⟨rfl, rfl⟩
  · rintro u y ne ⟨zone, only⟩
    refine ⟨?_, only.trans (zonesOnly_evalZone .fireInput)⟩
    rw [evalZone_zones, set_others _ _ _ _ ne.symm]
    exact zone
  · rintro u ⟨zone, only⟩
    rw [evalZone_zones, set_get_self, judgedZone_congr s zone only.base.settings only.base.clock]
  · intro u y ne zone
    rw [evalZone_zones, set_others _ _ _ _ ne.symm]
    exact zone

/-- Each door once every zone is evaluated: released where its zone has entered ALARM. -/
theorem doorView_evalZones (d : Fin 32) : doorView (evalZones s) d =
    if s.settings.doors[d].kind ≠ .absent ∧ wakes s s.settings.doors[d].zone then
      doorView (s.doorReleased d .zoneAlarm) d
    else doorView s d := by
  generalize of' : s.settings.doors[d].zone = z
  unfold evalZones
  have apart (u : State) (y : Fin 8) (settings : u.settings = s.settings) (ne : y ≠ z) :
      doorView (u.evalZone y .fireInput) d = doorView u d := by
    rw [doorView_evalZone, if_neg]
    rintro ⟨_, member⟩
    unfold State.doorOfZone at member
    rw [settings] at member
    exact ne ((decide_eq_true_iff.1 (Bool.and_eq_true_iff.1 member).2).symm.trans of')
  refine (foldl_once (s := s)
    (before := fun u => u.zones[z] = s.zones[z] ∧ ZonesOnly s u ∧ doorView u d = doorView s d)
    (after := fun u => u.settings = s.settings ∧ doorView u d =
      if s.settings.doors[d].kind ≠ .absent ∧ wakes s z then doorView (s.doorReleased d .zoneAlarm) d
      else doorView s d)
    (List.nodup_finRange 8) (List.mem_finRange z) ?_ ?_ ?_ ⟨rfl, rfl, rfl⟩).2
  · rintro u y ne ⟨zone, only, door⟩
    refine ⟨?_, only.trans (zonesOnly_evalZone .fireInput), ?_⟩
    · rw [evalZone_zones, set_others _ _ _ _ ne.symm]
      exact zone
    · exact (apart u y only.base.settings ne).trans door
  · rintro u ⟨zone, only, door⟩
    refine ⟨(zonesOnly_evalZone (z := z) .fireInput).base.settings.trans only.base.settings, ?_⟩
    have member : u.doorOfZone z d = true ↔ s.settings.doors[d].kind ≠ .absent := by
      unfold State.doorOfZone State.doorFitted
      rw [only.base.settings, Bool.and_eq_true, decide_eq_true_iff, decide_eq_true_iff]
      exact and_iff_left of'
    have same : wakes u z ∧ u.doorOfZone z d = true ↔
        s.settings.doors[d].kind ≠ .absent ∧ wakes s z := by
      unfold wakes
      rw [zone, judgedZone_congr s zone only.base.settings only.base.clock, member]
      exact and_comm
    rw [doorView_evalZone, doorView_doorReleased_congr only.base door _, door]
    exact if_congr same rfl rfl
  · rintro u y ne ⟨settings, door⟩
    exact ⟨(zonesOnly_evalZone (z := y) .fireInput).base.settings.trans settings,
      (apart u y settings ne).trans door⟩

end

/-! ### The doors of the zones in ALARM (R109) -/

/-- A fitted door whose zone is in ALARM. -/
abbrev Alarmed (s : State) (d : Fin 32) : Prop :=
  s.settings.doors[d].kind ≠ .absent ∧ inAlarm s s.settings.doors[d].zone = true

theorem alarmed_congr {s t : State} (settings : t.settings = s.settings) (zones : t.zones = s.zones)
    (d : Fin 32) : Alarmed t d ↔ Alarmed s d := by
  unfold Alarmed inAlarm
  rw [zones, settings]

theorem releaseIfAlarm_eq (s : State) (d : Fin 32) : s.releaseIfAlarm d =
    if Alarmed s d then s.doorReleased d .zoneAlarm else s := by
  unfold State.releaseIfAlarm State.doorFitted
  rw [releaseDoor_eq]
  exact if_congr ((Bool.and_eq_true _ _).to_iff.trans (and_congr_left' decide_eq_true_iff)) rfl rfl

theorem doorsOnly_releaseIfAlarm (s : State) (d : Fin 32) : DoorsOnly s (s.releaseIfAlarm d) := by
  rw [releaseIfAlarm_eq]
  split
  · exact doorsOnly_doorReleased s d _
  · rfl

theorem adds_releaseIfAlarm (s : State) (d : Fin 32) : Adds NoFrame s (s.releaseIfAlarm d) := by
  rw [releaseIfAlarm_eq]
  split
  · exact adds_doorReleased s d _
  · exact .refl s

theorem counted_releaseIfAlarm {s : State} (counted : Counted s) (d : Fin 32) :
    Counted (s.releaseIfAlarm d) := by
  rw [releaseIfAlarm_eq]
  split
  · exact counted_doorReleased counted d _
  · exact counted

theorem doorView_releaseIfAlarm_other {s : State} {d e : Fin 32} (other : d ≠ e) :
    doorView (s.releaseIfAlarm e) d = doorView s d := by
  rw [releaseIfAlarm_eq]
  split
  · exact doorView_doorReleased_other other s _
  · rfl

/-- The row of the doors, each released where its zone is in ALARM. -/
@[irreducible] def releaseAlarmed (s : State) : State := (List.finRange 32).foldl State.releaseIfAlarm s

section
variable (s : State)

theorem doorsOnly_releaseAlarmed : DoorsOnly s (releaseAlarmed s) := by
  unfold releaseAlarmed
  exact doorsOnly_foldl (ds := List.finRange 32) doorsOnly_releaseIfAlarm s

theorem adds_releaseAlarmed : Adds NoFrame s (releaseAlarmed s) := by
  unfold releaseAlarmed
  exact Adds.foldl (fun s d _ => adds_releaseIfAlarm s d) s

theorem counted_releaseAlarmed (counted : Counted s) : Counted (releaseAlarmed s) := by
  unfold releaseAlarmed
  exact counted_foldl (fun _ d k => counted_releaseIfAlarm k d) _ counted

theorem doorView_releaseAlarmed (d : Fin 32) : doorView (releaseAlarmed s) d =
    if Alarmed s d then doorView (s.doorReleased d .zoneAlarm) d else doorView s d := by
  unfold releaseAlarmed
  refine doorView_foldl (fun _ _ _ other => doorView_releaseIfAlarm_other other) doorsOnly_releaseIfAlarm
    (List.nodup_finRange 32) (List.mem_finRange d) fun u same only => ?_
  have zones : u.zones = s.zones := (congrArg State.zones only).trans (by rfl)
  have cond := alarmed_congr only.settings zones d
  have released := doorView_doorReleased_congr only.base same .zoneAlarm
  rw [releaseIfAlarm_eq]
  by_cases alarm : Alarmed s d
  · rw [if_pos alarm, if_pos (cond.2 alarm)]
    exact released
  · rw [if_neg alarm, if_neg (mt cond.1 alarm)]
    exact same

end

/-! ### The door controller at a reset -/

theorem doorReleased_idle {s : State} {d : Fin 32} {cause : DoorCause}
    (free : s.doors[d].state.heldOpen = false) : doorView (s.doorReleased d cause) d = doorView s d := by
  rw [doorReleased_free free]

/-- A door released once is not held, so that a second release leaves it. -/
theorem doorView_released_twice {s t : State} {d : Fin 32} {cause : DoorCause}
    (once : doorView t d = doorView (s.doorReleased d cause) d) :
    doorView (t.doorReleased d cause) d = doorView (s.doorReleased d cause) d := by
  have record : t.doors[d] = (s.doorReleased d cause).doors[d] := (doorView_iff.1 once).1
  have free : t.doors[d].state.heldOpen = false := by
    rw [record, doorReleased_state, releasedState_heldOpen]
  rw [doorReleased_idle free, once]

section
variable (s : State) (old : Settings)

theorem resetDoors_eq : s.resetDoors old = releaseAlarmed (evalZones (rekindDoors s old)) := by
  unfold State.resetDoors releaseAlarmed evalZones rekindDoors
  exact Eq.refl _

theorem zonesOnly_resetDoors : ZonesOnly s (s.resetDoors old) := by
  rw [resetDoors_eq]
  exact ((doorsOnly_rekindDoors s old).zonesOnly.trans (zonesOnly_evalZones _)).trans
    (doorsOnly_releaseAlarmed _).zonesOnly

theorem adds_resetDoors : Adds NoFrame s (s.resetDoors old) := by
  rw [resetDoors_eq]
  exact ((adds_rekindDoors s old).trans (adds_evalZones _)).trans (adds_releaseAlarmed _)

theorem counted_resetDoors : Counted (s.resetDoors old) := by
  rw [resetDoors_eq]
  exact counted_releaseAlarmed _ (counted_evalZones _ (counted_rekindDoors s old))

theorem rekindDoors_zones : (rekindDoors s old).zones = s.zones :=
  (congrArg State.zones (doorsOnly_rekindDoors s old)).trans (by rfl)

theorem resetDoors_zones_eq : (s.resetDoors old).zones = (evalZones (rekindDoors s old)).zones := by
  rw [resetDoors_eq]
  exact (congrArg State.zones (doorsOnly_releaseAlarmed _)).trans (by rfl)

theorem judgedZone_rekinded (z : Fin 8) : judgedZone (rekindDoors s old) z = judgedZone s z :=
  judgedZone_congr s (by rw [rekindDoors_zones]) (doorsOnly_rekindDoors s old).settings
    (doorsOnly_rekindDoors s old).base.clock

/-- Each zone at a reset. -/
theorem resetDoors_zones (z : Fin 8) : (s.resetDoors old).zones[z] = judgedZone s z := by
  rw [resetDoors_zones_eq, evalZones_zones, judgedZone_rekinded]

/-- Each door at a reset: it acts on its kind, and is released where its zone is then in ALARM. -/
theorem resetDoors_doors (d : Fin 32) : doorView (s.resetDoors old) d =
    if Alarmed (s.resetDoors old) d then
      doorView ((rekinded s d old.doors[d].kind).doorReleased d .zoneAlarm) d
    else doorView (rekinded s d old.doors[d].kind) d := by
  have only := doorsOnly_rekindDoors s old
  have kinded := doorView_rekindDoors s old d
  have base : DoorBase (rekinded s d old.doors[d].kind) (rekindDoors s old) := by
    have other := (doorsOnly_rekinded s d old.doors[d].kind).base
    exact ⟨only.settings.trans other.settings.symm, only.base.clock.trans other.clock.symm,
      only.base.uptime.trans other.uptime.symm⟩
  have evaluated := (zonesOnly_evalZones (rekindDoors s old)).base
  have view := doorView_evalZones (rekindDoors s old) d
  have cond : Alarmed (s.resetDoors old) d ↔ Alarmed (evalZones (rekindDoors s old)) d := by
    rw [resetDoors_eq]
    exact alarmed_congr (doorsOnly_releaseAlarmed _).settings
      ((congrArg State.zones (doorsOnly_releaseAlarmed _)).trans (by rfl)) d
  have released := doorView_releaseAlarmed (evalZones (rekindDoors s old)) d
  rw [← resetDoors_eq] at released
  by_cases alarm : Alarmed (evalZones (rekindDoors s old)) d
  · rw [if_pos (cond.2 alarm)]
    rw [if_pos alarm] at released
    refine released.trans ?_
    split at view
    · rw [doorView_released_twice view, doorView_doorReleased_congr base kinded]
    · exact doorView_doorReleased_congr ⟨evaluated.settings.trans base.settings,
        evaluated.clock.trans base.clock, evaluated.uptime.trans base.uptime⟩ (view.trans kinded) _
  · rw [if_neg (mt cond.1 alarm)]
    rw [if_neg alarm] at released
    have asleep : ¬((rekindDoors s old).settings.doors[d].kind ≠ .absent ∧
        wakes (rekindDoors s old) (rekindDoors s old).settings.doors[d].zone) := by
      rintro ⟨fitted, _, judged⟩
      refine alarm ⟨?_, ?_⟩
      · rw [evaluated.settings]
        exact fitted
      · unfold inAlarm
        rw [evalZones_zones, evaluated.settings]
        exact judged
    rw [if_neg asleep] at view
    exact released.trans (view.trans kinded)

end

end Sys2Proof.Proofs
end

section
/-! SUPPORT. The stages of a command reset from the call controller on: the calls, the alarm unit with its
lines, and the permissive evaluator (11, R180). -/

open Sys2Proof Sys2Proof.Machine

namespace Sys2Proof.Proofs

/-! ### The calls (R138) -/

/-- The removals of a reset. -/
def allGone (s : State) : List (Call × RemovalReason) := s.calls.table.map fun c => (c, .reset)

theorem resetCalls_eq (s : State) : s.resetCalls =
    { s.says (removalReports (allGone s)) with calls := (s.withRemovals [] (allGone s)).calls } := by
  have kept : keptBy (removeIf (fun _ => true) .reset) s.calls.table = [] := by
    rw [keptBy_removeIf]
    exact List.filter_eq_nil_iff.2 fun _ _ => nofun
  have gone : removedBy (removeIf (fun _ => true) .reset) s.calls.table = allGone s := by
    refine (removedBy_of_test (change := id) (p := fun _ => true) (r := .reset) (fun _ => rfl)
      s.calls.table).trans ?_
    rw [List.filter_eq_self.2 fun _ _ => rfl]
    rfl
  unfold State.resetCalls
  rw [sweepCalls_eq_withRemovals, kept, gone]
  unfold State.withRemovals
  dsimp only
  rw [says_calls, says_clock]

theorem adds_resetCalls (s : State) : Adds Lasting s s.resetCalls := by
  rw [resetCalls_eq]
  exact .of_eq (says_handed _ _)

/-! ### Changes of the output lines -/

/-- A change of line `k` between `s` and `t` is handed on with the level it ends at. -/
def LineTold (k : Fin 8) (s t : State) : Prop := t.alarms.lines[k].level ≠ s.alarms.lines[k].level →
  .sourceChange (.outputLine k) ⟨if t.alarms.lines[k].level then 1 else 0, true⟩ ∈ t.handed

theorem LineTold.trans {k : Fin 8} {s t u : State} (h : LineTold k s t) (keeps : Adds Lasting t u)
    (g : LineTold k t u) : LineTold k s u := fun moved => by
  by_cases last : u.alarms.lines[k].level = t.alarms.lines[k].level
  · rw [last] at moved ⊢
    exact keeps.mem (h moved)
  · exact g last

theorem lineTold_of_same {k : Fin 8} {s t : State} (same : t.alarms.lines = s.alarms.lines) :
    LineTold k s t := fun moved => absurd (by rw [same]) moved

theorem mem_lineNotices {s : State} {lines : Vector OutLine 8} {k : Fin 8}
    (moved : lines[k].level ≠ s.alarms.lines[k].level) :
    .sourceChange (.outputLine k) ⟨if lines[k].level then 1 else 0, true⟩ ∈ s.lineNotices lines :=
  List.mem_map.2 ⟨k, List.mem_filter.2 ⟨List.mem_finRange k, decide_eq_true moved⟩, rfl⟩

theorem lasting_lineNotices (s : State) (lines : Vector OutLine 8) :
    ∀ n ∈ s.lineNotices lines, Lasting n := by
  intro n listed
  obtain ⟨k, _, rfl⟩ := List.mem_map.1 listed
  exact ⟨nofun, rfl⟩

/-! ### The alarm list rebuilt (R164) -/

/-- The alarm unit with the list and the flags of the conditions present, its lines not yet judged. -/
def rebuilt (s : State) : AlarmUnit := { s.alarms with
  list := (condSources.filter s.condition).map fun src => firstEntry s.clock src
  flags := (condSources.filter s.condition).foldl setFlagIn (Vector.replicate 60 false) }

/-- The part with its alarm unit rebuilt. -/
def rebuiltState (s : State) : State := { s with alarms := rebuilt s }

theorem rebuildAlarms_eq (s : State) : s.rebuildAlarms =
    alarmsGo s ((rebuiltState s).tripReports (rebuilt s).list)
      ((rebuiltState s).withAlarms (rebuilt s).list).alarms
      (s.handed ++ (rebuiltState s).tripNotices (rebuilt s).list) := by
  have eval := evalLines_eq (rebuiltState s)
  refine Eq.trans eval ?_
  unfold alarmsGo
  rw [says_eq, says_eq s]
  rfl

theorem rebuildAlarms_alarms (s : State) :
    s.rebuildAlarms.alarms = ((rebuiltState s).withAlarms (rebuilt s).list).alarms := by
  rw [rebuildAlarms_eq]
  rfl

theorem rebuildAlarms_handed (s : State) :
    s.rebuildAlarms.handed = s.handed ++ (rebuiltState s).tripNotices (rebuilt s).list := by
  rw [rebuildAlarms_eq]
  rfl

theorem lasting_tripNotices (s : State) (es : List AlarmEntry) : ∀ n ∈ s.tripNotices es, Lasting n := by
  intro n listed
  rw [tripNotices_eq] at listed
  rcases List.mem_append.1 listed with stop | lines
  · unfold stopNotices at stop
    split at stop
    · cases stop
    · obtain ⟨a, _, rfl⟩ := List.mem_map.1 stop
      exact ⟨nofun, rfl⟩
  · exact lasting_lineNotices s _ n lines

theorem adds_rebuildAlarms (s : State) : Adds Lasting s s.rebuildAlarms := by
  rw [rebuildAlarms_eq]
  exact ⟨_, rfl, lasting_tripNotices _ _⟩

/-- The flags of a rebuilt list are those of the conditions that hold. -/
theorem rebuilt_flags (s : State) (c : Fin 60) :
    (rebuilt s).flags[c] = (condSources.filter s.condition).any fun src => decide (src.code = c) := by
  refine (getElem_foldl_setFlagIn _ _ c).trans ?_
  exact (congrArg (· || _) (Vector.getElem_replicate c.isLt)).trans (Bool.false_or _)

theorem mem_condSources (src : CondSource) : src ∈ condSources := by
  unfold condSources
  cases src with
  | linkLost l => cases l <;> simp
  | _ => simp

theorem code_injective {c d : CondSource} (same : c.code = d.code) : c = d := by
  have distinct : (condSources.map CondSource.code).Nodup :=
    List.pairwise_map.2 (pairwise_code_condSources.imp fun below => ne_of_lt below)
  exact List.inj_on_of_nodup_map distinct (mem_condSources c) (mem_condSources d) same

theorem rebuilt_flag (s : State) (src : CondSource) : (rebuilt s).flags[src.code] = s.condition src := by
  rw [rebuilt_flags]
  refine Bool.eq_iff_iff.2 (List.any_eq_true.trans ⟨?_, fun holds => ?_⟩)
  · rintro ⟨other, listed, same⟩
    rw [← code_injective (of_decide_eq_true same)]
    exact (List.mem_filter.1 listed).2
  · exact ⟨src, List.mem_filter.2 ⟨mem_condSources src, holds⟩, decide_eq_true rfl⟩

/-- The rebuilt list: the flags raised, in ascending source. -/
theorem rebuilt_list (s : State) : (rebuilt s).list =
    ((List.finRange 60).filter fun n => (rebuilt s).flags[n]).map fun n =>
      ⟨n, .activeUnacked, s.clock, s.clock, 1⟩ := by
  have codes : (condSources.filter s.condition).map CondSource.code =
      (List.finRange 60).filter fun n => (rebuilt s).flags[n] := by
    refine List.Pairwise.eq_of_mem_iff (r := (· < ·))
      (List.pairwise_map.2 (pairwise_code_condSources.sublist List.filter_sublist))
      ((List.sortedLT_finRange 60).pairwise.sublist List.filter_sublist) fun n => ?_
    rw [List.mem_filter, rebuilt_flags, List.any_eq_true, List.mem_map]
    simp only [decide_eq_true_iff, List.mem_finRange, true_and]
  rw [← codes, List.map_map]
  rfl

/-- A flag raised is that of a condition. -/
theorem rebuilt_raised {s : State} {n : Fin 60} (raised : (rebuilt s).flags[n] = true) :
    ∃ c ∈ condSources, c.code = n := by
  rw [rebuilt_flags, List.any_eq_true] at raised
  obtain ⟨c, listed, same⟩ := raised
  exact ⟨c, (List.mem_filter.1 listed).1, of_decide_eq_true same⟩

theorem rebuildAlarms_stop {s : State} {a : Fin 4}
    (moved : s.rebuildAlarms.alarms.stop ≠ s.alarms.stop) :
    .stopLineChange a s.rebuildAlarms.alarms.stop ∈ s.rebuildAlarms.handed := by
  have alarms := rebuildAlarms_alarms s
  have handed := rebuildAlarms_handed s
  rw [alarms] at moved ⊢
  rw [handed]
  refine List.mem_append_right _ ?_
  rw [tripNotices_eq]
  refine List.mem_append_left _ ?_
  unfold stopNotices
  rw [show (rebuiltState s).alarms.stop = s.alarms.stop from rfl, if_neg moved]
  exact List.mem_map.2 ⟨a, List.mem_finRange a, rfl⟩

theorem lineTold_rebuildAlarms (s : State) (k : Fin 8) : LineTold k s s.rebuildAlarms := by
  have alarms := rebuildAlarms_alarms s
  have handed := rebuildAlarms_handed s
  intro moved
  rw [alarms] at moved ⊢
  rw [handed]
  refine List.mem_append_right _ ?_
  rw [tripNotices_eq]
  exact List.mem_append_right _ (mem_lineNotices (s := rebuiltState s) moved)

/-- A line once the alarm list is rebuilt: one that follows the ALARM line takes a change of it. -/
theorem rebuildAlarms_line (s : State) (k : Fin 8) : s.rebuildAlarms.alarms.lines[k] =
    ⟨s.alarms.lines[k].held,
      if s.settings.outputs[k].source = .alarmLine ∧ s.rebuildAlarms.alarms.alarm ≠ s.alarms.alarm then
        s.rebuildAlarms.alarms.alarm != s.settings.outputs[k].invert
      else s.alarms.lines[k].level⟩ := by
  have alarms := rebuildAlarms_alarms s
  rw [alarms]
  generalize due : alarmDue s.settings.routing (rebuilt s).list = alarm
  have now : ((rebuiltState s).withAlarms (rebuilt s).list).alarms.alarm = alarm := due
  have lines : ((rebuiltState s).withAlarms (rebuilt s).list).alarms.lines =
      if alarm = s.alarms.alarm then s.alarms.lines else s.linesFollowing .alarmLine alarm := by
    rw [← due]
    rfl
  rw [now, lines]
  by_cases same : alarm = s.alarms.alarm
  · rw [if_pos same, if_neg fun h => h.2 same]
  · rw [if_neg same]
    refine (Vector.getElem_ofFn k.isLt).trans ?_
    by_cases follows : s.settings.outputs[k].source = .alarmLine
    · exact (if_pos follows).trans (by rw [if_pos ⟨follows, same⟩])
    · exact (if_neg follows).trans (by rw [if_neg fun h => follows h.1])

/-! ### The output lines as reloaded (R164) -/

/-- The lines and what is handed on as `t` has them, the rest as `s` has it. -/
def withOutLinesOf (s t : State) : State := { s with
  alarms := { s.alarms with lines := t.alarms.lines }
  handed := t.handed }

/-- `t` differs from `s` only in the lines and what is handed on. -/
def LinesOnly (s t : State) : Prop := t = withOutLinesOf s t

theorem LinesOnly.trans {s t u : State} (h : LinesOnly s t) (k : LinesOnly t u) : LinesOnly s u :=
  calc u = withOutLinesOf t u := k
    _ = withOutLinesOf (withOutLinesOf s t) u := congrArg (withOutLinesOf · u) h

section
variable (s : State) (k : Fin 8) (was : OutputSettings)

theorem linesOnly_applyOutput : LinesOnly s (s.applyOutput k was) := by
  rw [applyOutput_eq]
  rfl

theorem adds_applyOutput : Adds Lasting s (s.applyOutput k was) := by
  rw [applyOutput_eq]
  exact ⟨_, rfl, lasting_lineNotices _ _⟩

theorem lineTold_applyOutput (j : Fin 8) : LineTold j s (s.applyOutput k was) := by
  rw [applyOutput_eq]
  intro moved
  exact List.mem_append_right _ (mem_lineNotices (s := s) moved)

/-- The line a reload of its settings leaves. -/
def lineApplied : OutLine :=
  ⟨heldAfter s k was,
    if s.settings.outputs[k].source = was.source ∧ s.settings.outputs[k].invert = was.invert then
      s.alarms.lines[k].level
    else valueHolding s k (heldAfter s k was) != s.settings.outputs[k].invert⟩

theorem applyOutput_line : (s.applyOutput k was).alarms.lines[k] = lineApplied s k was := by
  rw [applyOutput_eq]
  exact set_get_self _ _ _

theorem applyOutput_line_other {j : Fin 8} (other : k ≠ j) :
    (s.applyOutput j was).alarms.lines[k] = s.alarms.lines[k] := by
  rw [applyOutput_eq]
  exact set_others _ _ _ _ other

theorem lineApplied_congr {t : State} (only : LinesOnly s t)
    (same : t.alarms.lines[k] = s.alarms.lines[k]) : lineApplied t k was = lineApplied s k was := by
  have held : heldAfter t k was = heldAfter s k was := by
    unfold heldAfter
    rw [same, congrArg State.settings only]
    rfl
  unfold lineApplied
  rw [held, same]
  rw [only]
  rfl

end

/-- The row of the lines, each with its reloaded settings applied. -/
@[irreducible] def applyOutputs (s : State) (old : Settings) : State :=
  (List.finRange 8).foldl (fun s k => s.applyOutput k old.outputs[k]) s

section
variable (s : State) (old : Settings)

theorem resetAlarms_eq : s.resetAlarms old = applyOutputs s.rebuildAlarms old := by
  unfold State.resetAlarms applyOutputs
  exact Eq.refl _

theorem linesOnly_applyOutputs : LinesOnly s (applyOutputs s old) := by
  unfold applyOutputs
  exact foldl_related (R := LinesOnly) (fun _ => rfl) .trans
    (fun s k _ => linesOnly_applyOutput s k old.outputs[k]) s

theorem adds_applyOutputs : Adds Lasting s (applyOutputs s old) := by
  unfold applyOutputs
  exact Adds.foldl (fun s k _ => adds_applyOutput s k old.outputs[k]) s

theorem lineTold_applyOutputs (j : Fin 8) : LineTold j s (applyOutputs s old) := by
  unfold applyOutputs
  refine (foldl_related (R := fun s t => LineTold j s t ∧ Adds Lasting s t)
    (fun s => ⟨lineTold_of_same rfl, .refl s⟩) (fun h k => ⟨h.1.trans k.2 k.1, h.2.trans k.2⟩)
    (fun s k _ => ⟨lineTold_applyOutput s k old.outputs[k] j, adds_applyOutput s k old.outputs[k]⟩) s).1

theorem applyOutputs_line (k : Fin 8) :
    (applyOutputs s old).alarms.lines[k] = lineApplied s k old.outputs[k] := by
  unfold applyOutputs
  refine foldl_once (s := s)
    (before := fun u => u.alarms.lines[k] = s.alarms.lines[k] ∧ LinesOnly s u)
    (after := fun u => u.alarms.lines[k] = lineApplied s k old.outputs[k])
    (List.nodup_finRange 8) (List.mem_finRange k) ?_ ?_ ?_ ⟨rfl, rfl⟩
  · rintro u j ne ⟨same, only⟩
    exact ⟨(applyOutput_line_other u k old.outputs[j] ne.symm).trans same,
      only.trans (linesOnly_applyOutput u j _)⟩
  · rintro u ⟨same, only⟩
    exact (applyOutput_line u k _).trans (lineApplied_congr s k _ only same)
  · intro u j ne same
    exact (applyOutput_line_other u k old.outputs[j] ne.symm).trans same

end

/-! ### The permissive evaluator (R123) -/

section
variable (s : State)

/-- The slots once every one is recomputed. -/
def slotsAfresh : Vector Slot 16 := s.slotsAfter s.settings s.freshValues fun _ => true

theorem resetSlots_eq : s.resetSlots =
    evaluatorGoes s (s.slotReports (slotsAfresh s) none) ⟨s.freshValues, slotsAfresh s⟩
      (s.handed ++ s.slotNotices (slotsAfresh s)) := reslot_eq s s.freshValues (fun _ => true) none

theorem lasting_slotTold (p : Fin 16) (r : Bool) : ∀ n ∈ slotTold p r, Lasting n := by
  intro n listed
  unfold slotTold at listed
  rcases List.mem_append.1 listed with axis | line
  · split at axis
    · rw [List.mem_singleton.1 axis]
      exact ⟨nofun, rfl⟩
    · cases axis
  · rw [List.mem_singleton.1 line]
    exact ⟨nofun, rfl⟩

theorem adds_resetSlots : Adds Lasting s s.resetSlots := by
  have handed : s.resetSlots.handed = s.handed ++ s.slotNotices (slotsAfresh s) := by
    rw [resetSlots_eq]
    rfl
  have each : ∀ n ∈ s.slotNotices (slotsAfresh s), Lasting n := by
    intro n listed
    unfold State.slotNotices at listed
    obtain ⟨p, _, told⟩ := List.mem_flatMap.1 listed
    exact lasting_slotTold p _ n told
  exact ⟨_, handed, each⟩

end

end Sys2Proof.Proofs
end

section
/-! SUPPORT. CONTROLLER RESET, stage by stage (11, R180). -/

open Sys2Proof Sys2Proof.Machine

namespace Sys2Proof.Proofs

section
variable (s : State)

/-- The settings a reset puts in force. -/
abbrev reloaded : Settings := Image.loaded s.store.image

/-- The image reloaded, and the channels' settings applied. -/
@[irreducible] def loadStage : State := s.dropOvertaken.reload.resetChannels (reloaded s)

/-- Then the axes at rest, and the station controller reset. -/
@[irreducible] def restStage : State := (resetAxes (loadStage s)).resetStation

/-- Then the doors and the zones. -/
@[irreducible] def doorStage : State := (restStage s).resetDoors s.settings

/-- Then the calls removed. -/
@[irreducible] def callStage : State := (doorStage s).dropOvertaken.resetCalls

/-- Then the alarm list rebuilt, and the output lines' settings applied. -/
@[irreducible] def lineStage : State := applyOutputs (callStage s).rebuildAlarms s.settings

/-- Then every term and slot evaluated. -/
@[irreducible] def slotStage : State := (lineStage s).resetSlots

theorem resetBlocks_eq : s.resetBlocks =
    (slotStage s).postAlarmZones.hand ((slotStage s).postAlarmZones.firstFrame s.settings.boards) := by
  unfold slotStage lineStage callStage doorStage restStage loadStage resetAxes
  rw [← resetAlarms_eq]
  exact Eq.refl _

/-! ### What each stage leaves -/

theorem loadStage_eq : loadStage s = { s with
    settings := reloaded s
    store := s.store.afterLoad
    channels := (loadStage s).channels
    handed := (loadStage s).handed } := by
  have settings : (loadStage s).settings = reloaded s := by
    unfold loadStage
    rw [resetChannels_settings]
    rfl
  have only : ChannelsOnly s.dropOvertaken.reload (loadStage s) := by
    unfold loadStage
    exact channelsOnly_resetChannels _ _
  have shape : loadStage s = { s.dropOvertaken.reload with
      settings := { s.dropOvertaken.reload.settings with channels := (loadStage s).settings.channels }
      channels := (loadStage s).channels
      handed := (loadStage s).handed } := only
  rw [settings] at shape
  exact shape

theorem loadStage_channels (k : Fin 12) : (loadStage s).channels[k] =
    s.channels[k].afterWrite s.settings.channels[k] (reloaded s).channels[k] s.clock := by
  unfold loadStage
  exact (resetChannels_get s.dropOvertaken.reload (reloaded s) k).1

theorem adds_loadStage : Adds NoFrame s.dropOvertaken (loadStage s) := by
  unfold loadStage
  exact (Adds.of_eq (s := s.dropOvertaken) (t := s.dropOvertaken.reload) rfl).trans (adds_resetChannels _ _)

/-- The axes, the station controller and what goes with them as `t` has them, the rest as `s` has it. -/
def withRestOf (s t : State) : State := { withAxesOf s t with station := t.station }

theorem restOnly_resetStation {t u : State} (h : AxesOnly t u) :
    u.resetStation = withRestOf t u.resetStation := by
  have own : u.resetStation = withRestOf u u.resetStation := by
    unfold State.resetStation
    dsimp only
    split <;> rfl
  have base : withRestOf u u.resetStation = withRestOf (withAxesOf t u) u.resetStation :=
    congrArg (withRestOf · u.resetStation) h
  exact own.trans base

theorem resetStation_station (t : State) : t.resetStation.station = Station.powerOn := by
  unfold State.resetStation
  dsimp only
  split <;> rfl

theorem adds_resetStation (t : State) : Adds NoFrame t t.resetStation := by
  unfold State.resetStation
  dsimp only
  split
  · exact .of_eq rfl
  · exact ⟨_, rfl, fun n listed => by
      rw [List.mem_singleton.1 listed]
      exact nofun⟩

theorem restStage_eq : restStage s = { s with
    settings := reloaded s
    store := s.store.afterLoad
    channels := (loadStage s).channels
    axes := (restStage s).axes
    valves := (restStage s).valves
    counters := { s.counters with axes := (restStage s).counters.axes }
    station := Station.powerOn
    handed := (restStage s).handed } := by
  have rest : restStage s = withRestOf (loadStage s) (restStage s) := by
    unfold restStage
    exact restOnly_resetStation (axesOnly_resetAxes _)
  have station : (restStage s).station = Station.powerOn := by
    unfold restStage
    exact resetStation_station _
  have shape := rest.trans (congrArg (withRestOf · (restStage s)) (loadStage_eq s))
  unfold withRestOf at shape
  rw [station] at shape
  exact shape

theorem restStage_axis (a : Fin 4) : axisView (restStage s) a = restView (loadStage s) a := by
  have axes := (resetAxes_get (loadStage s) a).1
  unfold restStage State.resetStation
  dsimp only
  split
  · exact axes
  · exact axes

theorem restStage_told (a : Fin 4) : ∀ n ∈ restTold (loadStage s) a, n ∈ (restStage s).handed := by
  intro n listed
  unfold restStage
  exact (adds_resetStation _).mem ((resetAxes_get (loadStage s) a).2 n listed)

theorem adds_restStage : Adds NoFrame (loadStage s) (restStage s) := by
  unfold restStage
  exact (adds_resetAxes _).trans (adds_resetStation _)

theorem doorStage_eq : doorStage s = withZonesOf (restStage s) (doorStage s) := by
  unfold doorStage
  exact zonesOnly_resetDoors _ _

theorem adds_doorStage : Adds NoFrame (restStage s) (doorStage s) := by
  unfold doorStage
  exact adds_resetDoors _ _

/-- The calls, the links and what is handed on as `t` has them, the rest as `s` has it. -/
def withCallsOf (s t : State) : State := { s with
  calls := t.calls
  links := t.links
  counters := { s.counters with links := t.counters.links }
  handed := t.handed }

theorem callStage_eq : callStage s = withCallsOf (doorStage s) (callStage s) := by
  unfold callStage
  rw [resetCalls_eq, says_eq]
  rfl

theorem callStage_calls : (callStage s).calls =
    ((doorStage s).withRemovals [] (allGone (doorStage s))).calls := by
  unfold callStage
  rw [resetCalls_eq]
  rfl

theorem adds_callStage : Adds Lasting (doorStage s).dropOvertaken (callStage s) := by
  unfold callStage
  exact adds_resetCalls _

/-- The alarm unit, the links and what is handed on as `t` has them, the rest as `s` has it. -/
def withAlarmUnitOf (s t : State) : State := { s with
  alarms := t.alarms
  links := t.links
  counters := { s.counters with links := t.counters.links }
  handed := t.handed }

theorem rebuildAlarms_withAlarmUnitOf (t : State) : t.rebuildAlarms = withAlarmUnitOf t t.rebuildAlarms := by
  rw [rebuildAlarms_eq]
  unfold alarmsGo
  rw [says_eq]
  rfl

theorem lineStage_eq : lineStage s = withAlarmUnitOf (callStage s) (lineStage s) := by
  have lines : lineStage s = withOutLinesOf (callStage s).rebuildAlarms (lineStage s) := by
    unfold lineStage
    exact linesOnly_applyOutputs _ _
  have own : lineStage s = withAlarmUnitOf (callStage s).rebuildAlarms (lineStage s) := by
    rw [lines]
    rfl
  have base := congrArg (withAlarmUnitOf · (lineStage s)) (rebuildAlarms_withAlarmUnitOf (callStage s))
  exact own.trans base

theorem lineStage_alarms : (lineStage s).alarms =
    { (callStage s).rebuildAlarms.alarms with lines := (lineStage s).alarms.lines } := by
  have lines : lineStage s = withOutLinesOf (callStage s).rebuildAlarms (lineStage s) := by
    unfold lineStage
    exact linesOnly_applyOutputs _ _
  exact congrArg State.alarms lines

theorem adds_lineStage : Adds Lasting (callStage s) (lineStage s) := by
  unfold lineStage
  exact (adds_rebuildAlarms _).trans (adds_applyOutputs _ _)

/-- The evaluator, the links and what is handed on as `t` has them, the rest as `s` has it. -/
def withSlotsOf (s t : State) : State := { s with
  evaluator := t.evaluator
  links := t.links
  counters := { s.counters with links := t.counters.links }
  handed := t.handed }

theorem evaluatorGoes_withSlotsOf (t : State) (rs : List (Option Link × ReportBody)) (ev : Evaluator)
    (hs : List Instr) : evaluatorGoes t rs ev hs = withSlotsOf t (evaluatorGoes t rs ev hs) := by
  unfold evaluatorGoes
  rw [says_eq]
  rfl

theorem slotStage_eq : slotStage s = withSlotsOf (lineStage s) (slotStage s) := by
  unfold slotStage
  rw [resetSlots_eq]
  exact evaluatorGoes_withSlotsOf _ _ _ _

theorem slotStage_evaluator :
    (slotStage s).evaluator = ⟨(lineStage s).freshValues, slotsAfresh (lineStage s)⟩ := by
  unfold slotStage
  rw [resetSlots_eq]
  rfl

theorem adds_slotStage : Adds Lasting (lineStage s) (slotStage s) := by
  unfold slotStage
  exact adds_resetSlots _

/-- What is handed on as `t` has it, the rest as `s` has it. -/
def withHandedOf (s t : State) : State := { s with handed := t.handed }

/-- What the blocks are after a reset, the links and what is handed on apart. -/
theorem resetBlocks_shape : s.resetBlocks = { s with
    settings := reloaded s
    store := s.store.afterLoad
    channels := (loadStage s).channels
    axes := (restStage s).axes
    valves := (restStage s).valves
    counters := ⟨(restStage s).counters.axes, (doorStage s).counters.doors, (slotStage s).counters.links⟩
    station := Station.powerOn
    doors := (doorStage s).doors
    zones := (doorStage s).zones
    chain := { s.chain with outputs := (doorStage s).chain.outputs }
    openCounts := (doorStage s).openCounts
    calls := (callStage s).calls
    alarms := (lineStage s).alarms
    evaluator := (slotStage s).evaluator
    links := (slotStage s).links
    handed := s.resetBlocks.handed } := by
  have block : s.resetBlocks = withHandedOf (slotStage s) s.resetBlocks := by
    rw [resetBlocks_eq]
    rfl
  have doors := (doorStage_eq s).trans (congrArg (withZonesOf · (doorStage s)) (restStage_eq s))
  have calls := (callStage_eq s).trans (congrArg (withCallsOf · (callStage s)) doors)
  have lines := (lineStage_eq s).trans (congrArg (withAlarmUnitOf · (lineStage s)) calls)
  have slots := (slotStage_eq s).trans (congrArg (withSlotsOf · (slotStage s)) lines)
  exact block.trans (congrArg (withHandedOf · s.resetBlocks) slots)

end

/-! ### The part after a reset -/

section
variable (s : State)

/-- The part once a reset is carried out, its links standing as `links` with the counters `counts`, and
`handed` handed on. -/
def resetState (links : Pair LinkController) (counts : Pair LinkCounters) (handed : List Instr) : State :=
  { s with
    settings := reloaded s
    store := s.store.afterLoad
    channels := (loadStage s).channels
    axes := (restStage s).axes
    valves := (restStage s).valves
    counters := ⟨(restStage s).counters.axes, (doorStage s).counters.doors, counts⟩
    station := Station.powerOn
    doors := (doorStage s).doors
    zones := (doorStage s).zones
    chain := { s.chain with outputs := (doorStage s).chain.outputs }
    openCounts := (doorStage s).openCounts
    calls := (callStage s).calls
    alarms := (lineStage s).alarms
    evaluator := (slotStage s).evaluator
    links := links
    handed := handed }

/-- The links with their report queues emptied (R175). -/
def emptiedLinks : Pair LinkController :=
  ⟨{ s.links.bridge with queue := [], lost := false }, { s.links.localLink with queue := [], lost := false }⟩

/-- The report of a reset. -/
def resetReport : Option Link × ReportBody :=
  toBoth (.controllerResetDone s.store.afterLoad.revision s.store.afterLoad.defaulted)

/-- The links once they have heard it. -/
def resetHeard : Heard := hear s.clock (emptiedLinks s, s.counters.links) (resetReport s)

/-- What the part hands on after a reset. -/
def resetHanded : List Instr :=
  s.resetBlocks.handed ++ if s.store.afterLoad.defaulted then [.momentaryRaise .settingsDefaulted] else []

theorem commandReset_eq : s.commandReset =
    resetState s (resetHeard s).1 (resetHeard s).2 (resetHanded s) := by
  have shape := resetBlocks_shape s
  unfold State.commandReset
  dsimp only
  have empty : s.resetBlocks.emptyQueues s =
      resetState s (emptiedLinks s) s.counters.links s.resetBlocks.handed :=
    congrArg (State.emptyQueues · s) shape
  rw [empty, report_eq]
  rw [show (resetState s (emptiedLinks s) s.counters.links s.resetBlocks.handed).store.defaulted =
    s.store.afterLoad.defaulted from rfl]
  unfold resetHanded
  split
  · rfl
  · rw [List.append_nil]
    rfl

/-! ### What the stages see -/

theorem restStage_settings : (restStage s).settings = reloaded s := by rw [restStage_eq]

theorem doorStage_settings : (doorStage s).settings = reloaded s :=
  (congrArg State.settings (doorStage_eq s)).trans (restStage_settings s)

theorem callStage_settings : (callStage s).settings = reloaded s :=
  (congrArg State.settings (callStage_eq s)).trans (doorStage_settings s)

theorem restStage_clock : (restStage s).clock = s.clock := by rw [restStage_eq]

theorem doorStage_clock : (doorStage s).clock = s.clock :=
  (congrArg State.clock (doorStage_eq s)).trans (restStage_clock s)

theorem callStage_clock : (callStage s).clock = s.clock :=
  (congrArg State.clock (callStage_eq s)).trans (doorStage_clock s)

theorem restStage_zones : (restStage s).zones = s.zones := by rw [restStage_eq]

/-- Each zone after a reset. -/
theorem doorStage_zones (z : Fin 8) : (doorStage s).zones[z] =
    let holds := ((reloaded s).zones[z].fireEnabled && s.zones[z].fire) || s.zones[z].manual
    { s.zones[z] with
      alarm := holds
      since := if holds = true ∧ s.zones[z].alarm = false then some s.clock else s.zones[z].since } := by
  have judged : (doorStage s).zones[z] = judgedZone (restStage s) z := by
    unfold doorStage
    exact resetDoors_zones _ _ z
  rw [judged]
  unfold judgedZone
  rw [restStage_zones, restStage_settings, restStage_clock]

/-- The part with its settings reloaded and nothing else done. -/
def withReloaded : State := { s with settings := reloaded s }

theorem restStage_doorBase : DoorBase (withReloaded s) (restStage s) :=
  ⟨restStage_settings s, restStage_clock s, by
    rw [restStage_eq]
    rfl⟩

theorem restStage_doorView (d : Fin 32) : doorView (restStage s) d = doorView (withReloaded s) d := by
  rw [restStage_eq]
  rfl

/-- Each door after a reset: it has acted on its kind as reloaded, and is released where its zone is then in
ALARM. -/
theorem doorStage_doors (d : Fin 32) : doorView (doorStage s) d =
    doorView (if (reloaded s).doors[d].kind ≠ .absent ∧
        inAlarm (doorStage s) (reloaded s).doors[d].zone = true then
      (rekinded (withReloaded s) d s.settings.doors[d].kind).doorReleased d .zoneAlarm
    else rekinded (withReloaded s) d s.settings.doors[d].kind) d := by
  have levels : (restStage s).chain.levels = (withReloaded s).chain.levels := by
    rw [restStage_eq]
    rfl
  have kinded := doorView_rekinded_congr (restStage_doorBase s) (restStage_doorView s d) levels
    s.settings.doors[d].kind
  have base : DoorBase (rekinded (withReloaded s) d s.settings.doors[d].kind)
      (rekinded (restStage s) d s.settings.doors[d].kind) := by
    have mine := (doorsOnly_rekinded (withReloaded s) d s.settings.doors[d].kind).base
    have other := (doorsOnly_rekinded (restStage s) d s.settings.doors[d].kind).base
    have rest := restStage_doorBase s
    exact ⟨(other.settings.trans rest.settings).trans mine.settings.symm,
      (other.clock.trans rest.clock).trans mine.clock.symm,
      (other.uptime.trans rest.uptime).trans mine.uptime.symm⟩
  have view : doorView (doorStage s) d = if Alarmed (doorStage s) d then
      doorView ((rekinded (restStage s) d s.settings.doors[d].kind).doorReleased d .zoneAlarm) d
    else doorView (rekinded (restStage s) d s.settings.doors[d].kind) d := by
    unfold doorStage
    exact resetDoors_doors _ _ d
  have cond : Alarmed (doorStage s) d ↔ (reloaded s).doors[d].kind ≠ .absent ∧
      inAlarm (doorStage s) (reloaded s).doors[d].zone = true := by
    unfold Alarmed
    rw [doorStage_settings]
  rw [view]
  by_cases alarm : Alarmed (doorStage s) d
  · rw [if_pos alarm, if_pos (cond.1 alarm)]
    exact doorView_doorReleased_congr base kinded _
  · rw [if_neg alarm, if_neg (mt cond.2 alarm)]
    exact kinded

theorem counted_doorStage : Counted (doorStage s) := by
  unfold doorStage
  exact counted_resetDoors _ _

theorem loadStage_axes : (loadStage s).axes = s.axes := by rw [loadStage_eq]

/-- The records of each axis after a reset. -/
theorem restStage_axes (a : Fin 4) : (restStage s).axes[a] = { s.axes[a].atRest .idle s.clock .reset with
    staged := 0
    settle := 0
    tripKind := none
    update := none
    check := none
    sensor := (reloaded s).axes[a].fitted &&
      !(((loadStage s).channels[(reloaded s).axes[a].angleCh]).valid &&
        ((loadStage s).channels[(reloaded s).axes[a].pressCh]).valid) } := by
  have record : (restStage s).axes[a] = (restView (loadStage s) a).1 :=
    congrArg (·.1) (restStage_axis s a)
  have sensor : (loadStage s).sensorLost a = ((reloaded s).axes[a].fitted &&
      !(((loadStage s).channels[(reloaded s).axes[a].angleCh]).valid &&
        ((loadStage s).channels[(reloaded s).axes[a].pressCh]).valid)) := by
    have settings : (loadStage s).settings = reloaded s := by rw [loadStage_eq]
    change sensorOf (loadStage s).settings (loadStage s).channels a =
      sensorOf (reloaded s) (loadStage s).channels a
    rw [settings]
  rw [record]
  unfold restView
  rw [sensor, loadStage_axes, show (loadStage s).clock = s.clock by rw [loadStage_eq]]
  rfl

theorem restStage_valves (a : Fin 4) : (restStage s).valves[a] = { s.valves[a] with command := 0 } := by
  have valve : (restStage s).valves[a] = (restView (loadStage s) a).2.1 :=
    congrArg (·.2.1) (restStage_axis s a)
  rw [valve]
  unfold restView
  rw [show (loadStage s).valves = s.valves by rw [loadStage_eq]]

theorem restStage_counters (a : Fin 4) : (restStage s).counters.axes[a] =
    if s.axes[a].running then s.counters.axes[a].ended .reset else s.counters.axes[a] := by
  have counter : (restStage s).counters.axes[a] = (restView (loadStage s) a).2.2 :=
    congrArg (·.2.2) (restStage_axis s a)
  rw [counter]
  unfold restView
  rw [loadStage_axes, show (loadStage s).counters = s.counters by rw [loadStage_eq]]

theorem callStage_calls_eq : (callStage s).calls =
    (s.withRemovals [] (s.calls.table.map fun c => (c, .reset))).calls := by
  have calls : (doorStage s).calls = s.calls := by
    rw [doorStage_eq, restStage_eq]
    rfl
  rw [callStage_calls]
  unfold State.withRemovals allGone
  dsimp only
  rw [calls, doorStage_clock]

/-! ### The alarm unit, the lines and the evaluator -/

theorem callStage_alarms : (callStage s).alarms = s.alarms := by
  rw [callStage_eq, doorStage_eq, restStage_eq]
  rfl

theorem rebuilt_callStage_lines : (callStage s).rebuildAlarms.alarms.alarm = (lineStage s).alarms.alarm := by
  rw [lineStage_alarms]

theorem lineStage_flags : (lineStage s).alarms.flags = (rebuilt (callStage s)).flags := by
  rw [lineStage_alarms, rebuildAlarms_alarms]
  rfl

theorem lineStage_list : (lineStage s).alarms.list = (rebuilt (callStage s)).list := by
  rw [lineStage_alarms, rebuildAlarms_alarms]
  rfl

theorem lineStage_alarm : (lineStage s).alarms.alarm =
    alarmDue (reloaded s).routing (lineStage s).alarms.list := by
  rw [lineStage_list, lineStage_alarms, rebuildAlarms_alarms, ← callStage_settings]
  rfl

theorem lineStage_stop : (lineStage s).alarms.stop =
    stopDue (reloaded s).routing (lineStage s).alarms.list (lineStage s).alarms.alarm := by
  rw [lineStage_alarm, lineStage_list, lineStage_alarms, rebuildAlarms_alarms, ← callStage_settings]
  rfl

theorem lineStage_stopTold {a : Fin 4} (moved : (lineStage s).alarms.stop ≠ s.alarms.stop) :
    .stopLineChange a (lineStage s).alarms.stop ∈ (lineStage s).handed := by
  have stop : (lineStage s).alarms.stop = (callStage s).rebuildAlarms.alarms.stop := by
    rw [lineStage_alarms]
  have keeps : Adds Lasting (callStage s).rebuildAlarms (lineStage s) := by
    unfold lineStage
    exact adds_applyOutputs _ _
  have moved' : (callStage s).rebuildAlarms.alarms.stop ≠ (callStage s).alarms.stop := by
    rw [← stop, callStage_alarms]
    exact moved
  rw [stop]
  exact keeps.mem (rebuildAlarms_stop moved')

theorem lineStage_told (k : Fin 8) : LineTold k s (lineStage s) := by
  have kept : LineTold k (callStage s) (lineStage s) := by
    unfold lineStage
    exact (lineTold_rebuildAlarms _ k).trans (adds_applyOutputs _ _) (lineTold_applyOutputs _ _ k)
  unfold LineTold at kept
  rw [callStage_alarms] at kept
  exact kept

/-- The state of the part that output lines read when their reloaded settings are applied. -/
theorem rebuilt_reads : (callStage s).rebuildAlarms.settings = reloaded s ∧
    (callStage s).rebuildAlarms.inputs = s.inputs ∧
    (callStage s).rebuildAlarms.evaluator = s.evaluator ∧
    (callStage s).rebuildAlarms.axes = (restStage s).axes ∧
    (callStage s).rebuildAlarms.zones = (doorStage s).zones := by
  rw [rebuildAlarms_withAlarmUnitOf, callStage_eq, doorStage_eq, restStage_eq]
  exact ⟨rfl, rfl, rfl, rfl, rfl⟩

/-- Each line after a reset. -/
theorem lineStage_line (k : Fin 8) : (lineStage s).alarms.lines[k] =
    let x := (reloaded s).outputs[k]
    let old := s.settings.outputs[k]
    let held := if x.source = .fixed ∧ old.source ≠ .fixed then x.powerOn else s.alarms.lines[k].held
    let value := match x.source with
      | .fixed => held
      | .input n => s.inputs.levels.gi[n]
      | .permissive p => s.evaluator.slots[p].result
      | .axisActive _ => false
      | .zoneAlarm z => (doorStage s).zones[z].alarm
      | .alarmLine => (lineStage s).alarms.alarm
    ⟨held, if x.source ≠ old.source ∨ x.invert ≠ old.invert ∨
        (x.source = .alarmLine ∧ (lineStage s).alarms.alarm ≠ s.alarms.alarm) then value != x.invert
      else s.alarms.lines[k].level⟩ := by
  obtain ⟨settings, inputs, evaluator, axes, zones⟩ := rebuilt_reads s
  have applied : (lineStage s).alarms.lines[k] =
      lineApplied (callStage s).rebuildAlarms k s.settings.outputs[k] := by
    unfold lineStage
    exact applyOutputs_line _ _ k
  have line := rebuildAlarms_line (callStage s) k
  rw [rebuilt_callStage_lines, callStage_alarms, callStage_settings] at line
  have idle (a : Fin 4) : (restStage s).axes[a].state = .idle := by
    rw [restStage_axes]
    rfl
  have held : heldAfter (callStage s).rebuildAlarms k s.settings.outputs[k] =
      if (reloaded s).outputs[k].source = .fixed ∧ s.settings.outputs[k].source ≠ .fixed then
        (reloaded s).outputs[k].powerOn else s.alarms.lines[k].held := by
    unfold heldAfter
    rw [settings, line]
  dsimp only
  rw [applied]
  unfold lineApplied
  rw [held, settings, line]
  generalize (if (reloaded s).outputs[k].source = .fixed ∧ s.settings.outputs[k].source ≠ .fixed then
    (reloaded s).outputs[k].powerOn else s.alarms.lines[k].held) = h
  have value : valueHolding (callStage s).rebuildAlarms k h =
      match (reloaded s).outputs[k].source with
      | .fixed => h
      | .input n => s.inputs.levels.gi[n]
      | .permissive p => s.evaluator.slots[p].result
      | .axisActive _ => false
      | .zoneAlarm z => (doorStage s).zones[z].alarm
      | .alarmLine => (lineStage s).alarms.alarm := by
    unfold valueHolding
    rw [settings, inputs, evaluator, axes, zones, rebuilt_callStage_lines]
    cases (reloaded s).outputs[k].source with
    | axisActive a =>
      dsimp only
      rw [idle]
      rfl
    | _ => rfl
  rw [value]
  refine congrArg (OutLine.mk h) ?_
  by_cases same : (reloaded s).outputs[k].source = s.settings.outputs[k].source ∧
      (reloaded s).outputs[k].invert = s.settings.outputs[k].invert
  · rw [if_pos same]
    by_cases follows : (reloaded s).outputs[k].source = .alarmLine ∧
        (lineStage s).alarms.alarm ≠ s.alarms.alarm
    · rw [if_pos follows, if_pos (.inr (.inr follows)), follows.1]
    · rw [if_neg follows, if_neg]
      rintro (source | invert | both)
      · exact source same.1
      · exact invert same.2
      · exact follows both
  · rw [if_neg same, if_pos]
    by_cases source : (reloaded s).outputs[k].source = s.settings.outputs[k].source
    · exact .inr (.inl fun invert => same ⟨source, invert⟩)
    · exact .inl source

theorem lineStage_reads : (lineStage s).settings = reloaded s ∧ (lineStage s).clock = s.clock ∧
    (lineStage s).evaluator = s.evaluator := by
  rw [lineStage_eq, callStage_eq, doorStage_eq, restStage_eq]
  exact ⟨rfl, rfl, rfl⟩

theorem slotStage_slots : (slotStage s).evaluator.slots =
    s.slotsAfter (reloaded s) (slotStage s).evaluator.values fun _ => true := by
  obtain ⟨settings, clock, evaluator⟩ := lineStage_reads s
  rw [slotStage_evaluator]
  unfold slotsAfresh State.slotsAfter
  dsimp only
  rw [settings, clock, evaluator]

theorem slotStage_told : ∀ n ∈ s.slotNotices (slotStage s).evaluator.slots, n ∈ (slotStage s).handed := by
  obtain ⟨_, _, evaluator⟩ := lineStage_reads s
  have handed : (slotStage s).handed =
      (lineStage s).handed ++ (lineStage s).slotNotices (slotsAfresh (lineStage s)) := by
    unfold slotStage
    rw [resetSlots_eq]
    rfl
  have same : s.slotNotices (slotStage s).evaluator.slots =
      (lineStage s).slotNotices (slotsAfresh (lineStage s)) := by
    rw [slotStage_evaluator]
    unfold State.slotNotices State.slotsMoved
    rw [evaluator]
  rw [same, handed]
  exact fun n listed => List.mem_append_right _ listed

section
variable (links : Pair LinkController) (counts : Pair LinkCounters) (handed : List Instr)

theorem sourceValue_resetState (src : Source) :
    (resetState s links counts handed).sourceValue src = (lineStage s).sourceValue src := by
  unfold State.sourceValue resetState
  rw [lineStage_eq, callStage_eq, doorStage_eq, restStage_eq]
  cases src <;> rfl

/-- Each term's value after a reset (R123). -/
theorem slotStage_value (n : Fin 64) : (slotStage s).evaluator.values[n] =
    match (reloaded s).terms[n].source with
      | none => false
      | some (.channel k) => (loadStage s).channels[k].valid &&
        compares (reloaded s).terms[n].cmp (loadStage s).channels[k].scaled (reloaded s).terms[n].const
      | some src => compares (reloaded s).terms[n].cmp
        ((resetState s links counts handed).sourceValue src).value (reloaded s).terms[n].const := by
  have fresh : (slotStage s).evaluator.values[n] = (lineStage s).freshValue n := by
    rw [slotStage_evaluator]
    unfold State.freshValues
    exact Vector.getElem_ofFn _
  have sources := sourceValue_resetState s links counts handed
  rw [fresh]
  unfold State.freshValue
  rw [(lineStage_reads s).1]
  dsimp only
  cases source : (reloaded s).terms[n].source with
  | none => rfl
  | some src =>
    dsimp only
    rw [termValue_eq source, ← sources]
    cases src with
    | channel k => rfl
    | _ => exact Bool.true_and _

theorem callStage_link (l : Link) : ((callStage s).links.get l).state = (s.links.get l).state := by
  have within : Within (settingsParts ++ [.axes, .valves, .station, .doors, .zones, .calls] ++ noticeParts)
      s (callStage s) := by
    unfold callStage doorStage restStage loadStage resetAxes
    exact (within_dropOvertaken.then within_reload |>.then within_resetChannels
      |>.then (Within.foldl (fun _ _ => within_resetAxis) _ _) |>.then within_resetStation
      |>.then within_resetDoors |>.then within_dropOvertaken |>.then within_resetCalls).mono (by decide)
  exact (within .links (by decide) l).state

/-- A condition stands after a reset as when the alarm list was rebuilt. -/
theorem condition_resetState (same : ∀ l : Link, (links.get l).state = (s.links.get l).state)
    (c : CondSource) : (resetState s links counts handed).condition c = (callStage s).condition c := by
  have rest : (resetState s (callStage s).links counts handed).condition c = (callStage s).condition c := by
    unfold resetState
    rw [callStage_eq, doorStage_eq, restStage_eq]
    cases c <;> rfl
  rw [← rest]
  cases c with
  | linkLost l =>
    exact congrArg (fun st => decide (st = LinkState.lost)) ((same l).trans (callStage_link s l).symm)
  | _ => rfl

/-- The flags after a reset are those of the conditions as they stand (R164). -/
theorem lineStage_flag (same : ∀ l : Link, (links.get l).state = (s.links.get l).state) (c : CondSource) :
    (lineStage s).alarms.flags[c.code] = (resetState s links counts handed).condition c := by
  rw [lineStage_flags, rebuilt_flag, condition_resetState s links counts handed same]

end

/-! ### What a reset hands on -/

theorem slotStage_lasting {n : Instr} (listed : n ∈ (slotStage s).handed) : overtaken n = false := by
  have adds : Adds Lasting (doorStage s).dropOvertaken (slotStage s) :=
    ((adds_callStage s).trans (adds_lineStage s)).trans (adds_slotStage s)
  rcases adds.mem_or listed with early | lasting
  · exact Bool.not_eq_true' _ ▸ (List.mem_filter.1 early).2
  · exact lasting.2

theorem slotStage_keeps {n : Instr} (listed : n ∈ (doorStage s).handed) (stays : overtaken n = false) :
    n ∈ (slotStage s).handed := by
  have adds : Adds Lasting (doorStage s).dropOvertaken (slotStage s) :=
    ((adds_callStage s).trans (adds_lineStage s)).trans (adds_slotStage s)
  exact adds.mem (List.mem_filter.2 ⟨listed, by rw [stays]; rfl⟩)

theorem slotStage_keeps_first {n : Instr} (listed : n ∈ s.handed) (stays : overtaken n = false) :
    n ∈ (slotStage s).handed := by
  have adds : Adds NoFrame s.dropOvertaken (doorStage s) :=
    ((adds_loadStage s).trans (adds_restStage s)).trans (adds_doorStage s)
  exact slotStage_keeps s (adds.mem (List.mem_filter.2 ⟨listed, by rw [stays]; rfl⟩)) stays

theorem slotStage_frame : .boardFrameStart ∈ (slotStage s).handed ↔ .boardFrameStart ∈ s.handed := by
  refine ⟨fun listed => ?_, fun listed => slotStage_keeps_first s listed rfl⟩
  have early : Adds NoFrame s.dropOvertaken (doorStage s) :=
    ((adds_loadStage s).trans (adds_restStage s)).trans (adds_doorStage s)
  have late : Adds Lasting (doorStage s).dropOvertaken (slotStage s) :=
    ((adds_callStage s).trans (adds_lineStage s)).trans (adds_slotStage s)
  rcases late.mem_or listed with door | lasting
  · rcases early.mem_or (List.mem_filter.1 door).1 with first | frame
    · exact (List.mem_filter.1 first).1
    · exact absurd rfl frame
  · exact absurd rfl lasting.1

/-- The posts of the zones in ALARM. -/
def alarmPosts : List Instr :=
  ((List.finRange 8).filter fun z => (doorStage s).zones[z].alarm).map .evacuatePost

/-- The first scan frame, where the reload asks for one. -/
def reloadFrame : List Instr :=
  if s.scanner.frame = none ∧ s.settings.boards = 0 ∧ 1 ≤ (reloaded s).boards ∧
      .boardFrameStart ∉ s.handed then
    [.boardFrameStart]
  else []

theorem resetBlocks_handed : s.resetBlocks.handed = (slotStage s).handed ++ alarmPosts s ++ reloadFrame s := by
  have zones : (slotStage s).zones = (doorStage s).zones := by
    rw [slotStage_eq, lineStage_eq, callStage_eq]
    rfl
  have reads : (slotStage s).scanner = s.scanner ∧ (slotStage s).settings = reloaded s := by
    rw [slotStage_eq, lineStage_eq, callStage_eq, doorStage_eq, restStage_eq]
    exact ⟨rfl, rfl⟩
  have posted : (slotStage s).postAlarmZones.handed = (slotStage s).handed ++ alarmPosts s := by
    unfold State.postAlarmZones alarmPosts
    rw [zones]
    rfl
  have unposted : Instr.boardFrameStart ∉ (slotStage s).handed ++ alarmPosts s ↔
      Instr.boardFrameStart ∉ s.handed := by
    rw [List.mem_append, slotStage_frame]
    refine not_congr (or_iff_left fun listed => ?_)
    obtain ⟨z, _, same⟩ := List.mem_map.1 listed
    exact absurd same nofun
  have frame : (slotStage s).postAlarmZones.firstFrame s.settings.boards = reloadFrame s := by
    unfold State.firstFrame reloadFrame
    refine if_congr ?_ rfl rfl
    rw [posted, unposted]
    rw [show (slotStage s).postAlarmZones.scanner = s.scanner from reads.1,
      show (slotStage s).postAlarmZones.settings = reloaded s from reads.2]
  rw [resetBlocks_eq, frame]
  exact congrArg (· ++ reloadFrame s) posted

theorem mem_resetHanded {n : Instr} : n ∈ resetHanded s ↔ n ∈ (slotStage s).handed ∨ n ∈ alarmPosts s ∨
    n ∈ reloadFrame s ∨ (s.store.afterLoad.defaulted = true ∧ n = .momentaryRaise .settingsDefaulted) := by
  unfold resetHanded
  rw [resetBlocks_handed, List.mem_append, List.mem_append, List.mem_append, or_assoc, or_assoc]
  refine or_congr_right (or_congr_right (or_congr_right ?_))
  split
  · next defaulted => rw [List.mem_singleton, and_iff_right defaulted]
  · next loaded => exact iff_of_false List.not_mem_nil fun both => loaded both.1

theorem mem_resetHanded_of_slotStage {n : Instr} (listed : n ∈ (slotStage s).handed) : n ∈ resetHanded s :=
  (mem_resetHanded s).2 (.inl listed)

theorem mem_alarmPosts {n : Instr} :
    n ∈ alarmPosts s ↔ ∃ z, (doorStage s).zones[z].alarm = true ∧ .evacuatePost z = n := by
  unfold alarmPosts
  rw [List.mem_map]
  refine exists_congr fun z => and_congr_left' ?_
  rw [List.mem_filter, and_iff_right (List.mem_finRange z)]

theorem mem_reloadFrame {n : Instr} : n ∈ reloadFrame s ↔
    (s.scanner.frame = none ∧ s.settings.boards = 0 ∧ 1 ≤ (reloaded s).boards ∧
      .boardFrameStart ∉ s.handed) ∧ n = .boardFrameStart := by
  unfold reloadFrame
  split
  · next due => rw [List.mem_singleton, and_iff_right due]
  · next idle => exact iff_of_false List.not_mem_nil fun both => idle both.1

/-- A zone in ALARM is posted for anew (log entry 27). -/
theorem evacuatePost_resetHanded (z : Fin 8) :
    .evacuatePost z ∈ resetHanded s ↔ (doorStage s).zones[z].alarm = true := by
  rw [mem_resetHanded]
  constructor
  · rintro (early | post | frame | raise)
    · cases slotStage_lasting s early
    · obtain ⟨z', alarm, same⟩ := (mem_alarmPosts s).1 post
      cases same
      exact alarm
    · cases ((mem_reloadFrame s).1 frame).2
    · cases raise.2
  · exact fun alarm => .inr (.inl ((mem_alarmPosts s).2 ⟨z, alarm, rfl⟩))

/-- Of what a reset overtakes only those posts are handed on after it (log entry 27). -/
theorem resetHanded_overtaken {n : Instr} (listed : n ∈ resetHanded s) (overtakes : overtaken n = true) :
    ∃ z, n = .evacuatePost z := by
  rcases (mem_resetHanded s).1 listed with early | post | frame | raise
  · rw [slotStage_lasting s early] at overtakes
    cases overtakes
  · obtain ⟨z, _, same⟩ := (mem_alarmPosts s).1 post
    exact ⟨z, same.symm⟩
  · rw [((mem_reloadFrame s).1 frame).2] at overtakes
    cases overtakes
  · rw [raise.2] at overtakes
    cases overtakes

theorem frame_resetHanded : .boardFrameStart ∈ resetHanded s ↔ .boardFrameStart ∈ s.handed ∨
    (s.scanner.frame = none ∧ s.settings.boards = 0 ∧ 1 ≤ (reloaded s).boards) := by
  rw [mem_resetHanded]
  constructor
  · rintro (early | post | frame | raise)
    · exact .inl ((slotStage_frame s).1 early)
    · obtain ⟨z, _, same⟩ := (mem_alarmPosts s).1 post
      cases same
    · obtain ⟨idle, unscanned, boards, _⟩ := ((mem_reloadFrame s).1 frame).1
      exact .inr ⟨idle, unscanned, boards⟩
    · cases raise.2
  · rintro (early | ⟨idle, unscanned, boards⟩)
    · exact .inl ((slotStage_frame s).2 early)
    · by_cases early : .boardFrameStart ∈ s.handed
      · exact .inl ((slotStage_frame s).2 early)
      · exact .inr (.inr (.inl ((mem_reloadFrame s).2 ⟨⟨idle, unscanned, boards, early⟩, rfl⟩)))

/-- An axis that a reset brings to IDLE tells it (R46). -/
theorem axisTold_resetHanded {a : Fin 4} (active : s.axes[a].state ≠ .idle) :
    .sourceChange (.axisState a) ⟨0, true⟩ ∈ resetHanded s ∧
      .outputLineSourceChange (.axisActive a) false ∈ resetHanded s := by
  have told : restTold (loadStage s) a = [.sourceChange (.axisState a) ⟨AxisState.idle.code, true⟩,
      .outputLineSourceChange (.axisActive a) false] := by
    unfold restTold
    rw [loadStage_axes, if_neg active]
  have keeps {n : Instr} (listed : n ∈ restTold (loadStage s) a) (stays : overtaken n = false) :
      n ∈ resetHanded s :=
    mem_resetHanded_of_slotStage s
      (slotStage_keeps s ((adds_doorStage s).mem (restStage_told s a n listed)) stays)
  rw [told] at keeps
  exact ⟨keeps (List.mem_cons_self ..) rfl, keeps (List.mem_cons_of_mem _ (List.mem_cons_self ..)) rfl⟩

/-- The counts of open doors after a reset. -/
theorem openCounts_resetState (links : Pair LinkController) (counts : Pair LinkCounters)
    (handed : List Instr) : Counted (resetState s links counts handed) := by
  have counted : (doorStage s).openCounts = (doorStage s).countsNow := counted_doorStage s
  refine counted.trans (countsNow_congr ?_ rfl)
  rw [doorStage_settings]
  rfl

/-- The list after a reset: the flags raised, in ascending source (R164). -/
theorem lineStage_rebuilt : (lineStage s).alarms.list =
    ((List.finRange 60).filter fun n => (lineStage s).alarms.flags[n]).map fun n =>
      ⟨n, .activeUnacked, s.clock, s.clock, 1⟩ := by
  rw [lineStage_list, lineStage_flags, rebuilt_list, callStage_clock]

theorem lineStage_raised {n : Fin 60} (raised : (lineStage s).alarms.flags[n] = true) :
    ∃ c ∈ condSources, c.code = n := by
  rw [lineStage_flags] at raised
  exact rebuilt_raised raised

end

/-! ### CONTROLLER RESET -/

section
variable {s : State} {l : Link} {tag : Byte}

/-- What CONTROLLER RESET does of itself. -/
def carriesOutReset (l : Link) (s : State) : State × ReplyData :=
  if !s.atService l then deny s .level
  else if s.store.busy then deny s .busy
  else done s.commandReset []

theorem exec_controllerReset (l : Link) (tag : Byte) (s : State) :
    exec (.controllerReset l tag) s = runRequest (.controllerReset l tag) l tag s (carriesOutReset l) := rfl

theorem reset_level (running : s.power = .running) (operate : s.station.level.get l = .operate) :
    exec (.controllerReset l tag) s =
      .next (s.answered l tag (.controllerReset l tag) [] (.refused .level)) := by
  refine (exec_controllerReset l tag s).trans (runRequest_refused running ?_)
  have gate : (s.openRequest l (.controllerReset l tag)).atService l = false := atService_of_operate operate
  unfold carriesOutReset
  rw [gate]
  rfl

theorem reset_busy (running : s.power = .running) (service : s.station.level.get l = .service)
    (busy : s.store.inFlight.isSome = true) : exec (.controllerReset l tag) s =
      .next (s.answered l tag (.controllerReset l tag) [] (.refused .busy)) := by
  refine (exec_controllerReset l tag s).trans (runRequest_refused running ?_)
  have gate : (s.openRequest l (.controllerReset l tag)).atService l = true := atService_of_service service
  have flight : (s.openRequest l (.controllerReset l tag)).store.busy = true := busy
  unfold carriesOutReset
  rw [gate, flight]
  rfl

/-- The links after a reset and its reply. -/
def resetLinks (o : State) (l : Link) (r : Reply) : Pair LinkController :=
  ((hearing o (resetHeard o)).placeReply l r).pump.links

theorem resetLinks_state (o : State) (l : Link) (r : Reply) (m : Link) :
    ((resetLinks o l r).get m).state = (o.links.get m).state := by
  have heard (n : Link) : (((resetHeard o).1).get n).state = (o.links.get n).state := by
    have kept := hearAll_state o.clock n [resetReport o] (emptiedLinks o, o.counters.links)
    refine kept.trans ?_
    cases n <;> rfl
  have placed : (((hearing o (resetHeard o)).placeReply l r).links.get m).state =
      (((resetHeard o).1).get m).state := by
    cases l <;> cases m <;> rfl
  unfold resetLinks
  rw [pump_links_get, transmit_state, placed, heard]

/-- A reset carried out and answered. -/
theorem reset_done (running : s.power = .running) (service : s.station.level.get l = .service)
    (idle : s.store.inFlight = none) :
    exec (.controllerReset l tag) s = .next (resetState (s.openRequest l (.controllerReset l tag))
      (resetLinks (s.openRequest l (.controllerReset l tag)) l
        ⟨(Instr.controllerReset l tag).kind, tag, .done []⟩)
      (resetHeard (s.openRequest l (.controllerReset l tag))).2
      (resetHanded (s.openRequest l (.controllerReset l tag)))) := by
  have gate : (s.openRequest l (.controllerReset l tag)).atService l = true := atService_of_service service
  have flight : (s.openRequest l (.controllerReset l tag)).store.busy = false := by
    show s.store.inFlight.isSome = false
    rw [idle]
    rfl
  have does : carriesOutReset l (s.openRequest l (.controllerReset l tag)) =
      (resetState (s.openRequest l (.controllerReset l tag))
        (resetHeard (s.openRequest l (.controllerReset l tag))).1
        (resetHeard (s.openRequest l (.controllerReset l tag))).2
        (resetHanded (s.openRequest l (.controllerReset l tag))), .done []) := by
    unfold carriesOutReset done
    rw [gate, flight, commandReset_eq]
    rfl
  rw [exec_controllerReset, runRequest_of_running running, does]
  rfl

end

/-- Settles O53, each clause from what the stage of its block leaves. -/
theorem controllerResetRestores : Obligations.ControllerResetRestores := by
  refine ⟨?_, ?_⟩
  · intro l tag s running i refuses good settings revision o cut linked
    refine ⟨reset_level running, reset_busy running, fun service idle =>
      ⟨_, reset_done running service idle, running, rfl, ?_, rfl, rfl, rfl, rfl, rfl, ?_, rfl, ?_, rfl, ?_, ?_,
        evacuatePost_resetHanded o, fun n => resetHanded_overtaken o, ?_, ?_⟩⟩
    case refine_1 =>
      show o.store.afterLoad = _
      unfold Store.afterLoad
      rw [show o.store.inFlight = none from idle]
      rfl
    case refine_2 =>
      exact fun a => ⟨restStage_axes o a, restStage_counters o a, restStage_valves o a,
        fun active => axisTold_resetHanded o active⟩
    case refine_3 => exact callStage_calls_eq o
    case refine_4 =>
      show resetLinks o l _ =
        ((cut.says [toBoth (.controllerResetDone revision !good)]).placeReply l _).pump.links
      rw [says_eq]
      rfl
    case refine_5 =>
      have heard : (cut.says [toBoth (.controllerResetDone revision !good)]).counters.links =
          (resetHeard o).2 := by
        rw [says_eq]
        rfl
      exact heard.symm
    case refine_6 =>
      exact fun n listed stays => mem_resetHanded_of_slotStage o (slotStage_keeps_first o listed stays)
    case refine_7 =>
      intro bad
      refine (mem_resetHanded o).2 (.inr (.inr (.inr ⟨?_, rfl⟩)))
      exact congrArg (!·) bad
  · intro l tag s running service idle old new u
    let o := s.openRequest l (.controllerReset l tag)
    have links (m : Link) := resetLinks_state o l ⟨(Instr.controllerReset l tag).kind, tag, .done []⟩ m
    refine ⟨_, reset_done running service idle, loadStage_channels o, doorStage_zones o, ?_,
      openCounts_resetState o _ _ _, lineStage_flag o _ _ _ links, fun n => lineStage_raised o,
      lineStage_rebuilt o, lineStage_alarm o, lineStage_stop o, ?_, ?_, slotStage_value o _ _ _,
      slotStage_slots o, fun n listed => mem_resetHanded_of_slotStage o (slotStage_told o n listed),
      frame_resetHanded o⟩
    · intro d x now was kind idle derived written after
      have base : DoorBase u (withReloaded o) := ⟨rfl, rfl, rfl⟩
      have kinded : doorView (rekinded (withReloaded o) d was) d = doorView written d :=
        doorView_rekinded_congr base rfl rfl was
      refine doorView_iff.1 ((doorStage_doors o d).trans ?_)
      by_cases alarm : (reloaded o).doors[d].kind ≠ .absent ∧
          inAlarm (doorStage o) (reloaded o).doors[d].zone = true
      · have rekindedBase : DoorBase written (rekinded (withReloaded o) d was) := by
          have mine := (doorsOnly_rekinded u d was).base
          have other := (doorsOnly_rekinded (withReloaded o) d was).base
          exact ⟨other.settings.trans mine.settings.symm, other.clock.trans mine.clock.symm,
            other.uptime.trans mine.uptime.symm⟩
        have released : after = written.doorReleased d .zoneAlarm := if_pos alarm
        rw [if_pos alarm, released]
        exact doorView_doorReleased_congr rekindedBase kinded _
      · have unreleased : after = written := if_neg alarm
        rw [if_neg alarm, unreleased]
        exact kinded
    · intro moved a
      exact mem_resetHanded_of_slotStage o ((adds_slotStage o).mem (lineStage_stopTold o moved))
    · intro k x held value driven
      refine ⟨lineStage_line o k, fun moved => ?_⟩
      exact mem_resetHanded_of_slotStage o ((adds_slotStage o).mem (lineStage_told o k moved))

end Sys2Proof.Proofs
end
